-- ==== Sys2Proof/Word.lean ====
section
/-! DEFINITION. The word types of the model: bit 0 is the least significant bit (R6) and the
device is little-endian (R7). -/

namespace Sys2Proof

abbrev Byte := BitVec 8
abbrev W32 := BitVec 32
abbrev W64 := BitVec 64
/-- A vector register (R128). -/
abbrev W512 := BitVec 512
/-- An accumulator (R128). -/
abbrev W1536 := BitVec 1536

end Sys2Proof
end

