-- ==== Sys2Proof/Syntax.lean ====
section
/-! DEFINITION. The commands of the device: one constructor of `Instr` for each row of the opcode table,
with the operands of the row. The instruction words of Rolran are held field by field (R92, R145). -/

namespace Sys2Proof

/-- The processors that issue instructions: an engine by its physical position (die, case, position: R11, R26),
a die control core, or the guard core (R84). -/
inductive UnitId where
  | eng (d : Fin 4) (c : Fin 16) (p : Fin 9)
  | core (d : Fin 4)
  | guard
  deriving DecidableEq, Repr

/-- The initiators of requests (R42, R307, the index list of `tmo_cfg`): slot 8 of a case is its unnumbered
engine (R165). -/
inductive Who where
  | core (d : Fin 4)
  | engine (d : Fin 4) (c : Fin 16) (sl : Fin 9)
  | fport (d : Fin 4) (g : Fin 16) (k : Fin 4)
  | dma (d : Fin 4) (c : Fin 16)
  | pcie (d : Fin 4)
  | guard
  | debug
  | eth (d : Fin 4) (m : Fin 4)
  | scrub (d : Fin 4)
  deriving DecidableEq, Repr

/-- The request opcodes of R308. -/
inductive ReqOp where
  | rd | wr | at_
  deriving DecidableEq, Repr

/-- A request that a design, or a host behind PCI Express, presents at an initiator interface (R308, R309). -/
structure Offer where
  op : ReqOp
  addr : Nat
  len : Nat
  data : Nat
  cmp : W64
  afn : BitVec 3
  pmask : BitVec 8
  deriving DecidableEq, Repr

/-- How a request is to travel: the bits LOCK and O, and its priority (R308, R309). -/
structure OfferMarks where
  lock : Bool
  ord : Bool
  pri : BitVec 2
  deriving DecidableEq, Repr

/-- What a design answers to a request at a fabric port (R308, R313): the data of a read or the old value of an atomic, and
its poisoned sectors. -/
structure FabricReply where
  data : Nat
  pmask : BitVec 8
  deriving DecidableEq, Repr

/-- A flit that one of the channels 8 to 11 has ready at a crossing port: `chan` counts from channel 8, `stamp` is the `noc`
cycle since which it waits (R194, R197). -/
structure SideFlit where
  chan : Fin 4
  flit : W512
  stamp : Nat
  deriving DecidableEq, Repr

/-- A port of a link, and which bits of the training message that arrives there are wrong (R359). -/
structure Heard where
  port : Fin 12
  noise : BitVec 256
  deriving DecidableEq, Repr

/-- A cycle in which CLRERR of a block RAM is 1: on the edge of its write clock (`w`), of its read clock (`r`), or of both, and
what the queue is asked for on these edges (R270). -/
structure ClrEdges where
  block : Fin 480
  w : Bool
  r : Bool
  wr : Option W32
  rd : Bool
  deriving DecidableEq, Repr

/-- What a frame carries: the flit of the present slot, the next frame to be resent, link control, or nothing (R351). -/
inductive FrameSend where
  | slot (side : Option SideFlit)
  | resend
  | control
  | null
  deriving DecidableEq, Repr

/-- An error on a link: the bit that lane or wavelength `lane` carries in unit interval `ui` of a frame is received wrong
(R347). -/
structure LaneFlip where
  lane : Fin 68
  ui : Fin 144
  deriving DecidableEq, Repr

/-- What an evaluation of the timing unit finds (R491): the frequency of the recovered clock of each SyncE source against the
model clock M in 0.01 ppb. -/
structure EvalIn where
  freqs : List (Option Int)
  deriving DecidableEq, Repr

/-- What the echo frames of a port measure (R486), in units of 2^−16 ns: the round trip, and the partner's turnaround. -/
structure EchoIn where
  round : Nat
  turn : Nat
  deriving DecidableEq, Repr

/-- What a port finds in a received PTP message (R498): whether it carries the AUTHENTICATION TLV, its KEYID and its ICV. -/
structure PtpIn where
  tlv : Bool
  keyId : W32
  icv : BitVec 128
  deriving DecidableEq, Repr

/-- A frame that an Ethernet port receives (R464): its bytes without FCS, the PCP of its tag, whether its FCS is right, the secure
channel, association and packet number of a MACsec frame (R467), and the PTP message that it carries. -/
structure FrameIn where
  len : Nat
  data : Nat
  pcp : Option (Fin 8)
  good : Bool
  sec : Option (Fin 16 × Fin 4 × Nat)
  ptp : Option PtpIn
  /-- the quanta of a PAUSE frame, and those by priority of a priority flow control frame (R463) -/
  pause : Option Nat := none
  quanta : List (Fin 8 × Nat) := []
  /-- the FEC codewords since the last frame that were corrected, and those that could not be (the table of `cnt`) -/
  ccw : Nat := 0
  ucw : Nat := 0
  deriving DecidableEq, Repr

/-- The taps and precoders that the training of a protocol leaves on a lane of the die (R452, R463). -/
structure LaneEq where
  lane : Fin 24
  txeq : W32
  txpre : Bool
  rxpre : Bool
  deriving DecidableEq, Repr

/-- What the board fixes (R510, R511, R534, the table of `supstat`): the level of FBSEL[1:0], the capacity in bytes of the
flash device on each port, 0 where no SFDP header answers, and whether VCCHK is 3.3 V. -/
structure Board where
  fbsel : Fin 4
  flash : List Nat
  hk33 : Bool
  /-- the strap balls: bit 8d + b is 1 when bank b of die d is tied to its VCCO (R290) -/
  strap : BitVec 32
  /-- every line of laser input A, and of B, is lit at power-on (R374) -/
  lightA : Bool := false
  lightB : Bool := false
  /-- the lines of 64 bytes of the logical flash space that no read returns: the device reports a failure (R532, R543) -/
  flashBad : List Nat := []
  deriving DecidableEq, Repr

/-- A switched power domain (R611). -/
inductive DomSel where
  | die (d : Fin 4) (k : Fin 39)
  | pkg (k : Fin 4)
  deriving DecidableEq, Repr

/-- An access at one port of a block RAM (R259 to R261). -/
structure PortOp where
  addr : BitVec 12
  wr : Bool
  data : W32
  be : BitVec 4
  deriving DecidableEq, Repr

/-- Format R (R92). -/
structure FmtR where
  rd : BitVec 5
  ra : BitVec 5
  rb : BitVec 5
  rc : BitVec 5
  deriving DecidableEq, Repr

/-- Format I. -/
structure FmtI where
  rd : BitVec 5
  ra : BitVec 5
  imm : BitVec 16
  deriving DecidableEq, Repr

/-- Format K: `z` is the field that must be zero. -/
structure FmtK where
  rd : BitVec 5
  z : BitVec 3
  q : BitVec 2
  imm : BitVec 16
  deriving DecidableEq, Repr

/-- Format M: `rd` is the destination of a load and the source of a store. -/
structure FmtM where
  rd : BitVec 5
  ra : BitVec 5
  sz : BitVec 3
  imm : BitVec 13
  deriving DecidableEq, Repr

/-- Format A: `z` is the field that must be zero. -/
structure FmtA where
  rd : BitVec 5
  ra : BitVec 5
  rb : BitVec 5
  rc : BitVec 5
  afn : BitVec 3
  z : BitVec 2
  dw : Bool
  deriving DecidableEq, Repr

/-- Format B. -/
structure FmtB where
  ra : BitVec 5
  rb : BitVec 5
  off : BitVec 16
  deriving DecidableEq, Repr

/-- Format J. -/
structure FmtJ where
  rd : BitVec 5
  off : BitVec 21
  deriving DecidableEq, Repr

/-- Format L as LOOP uses it: `z` is the field that must be zero. -/
structure FmtL where
  lvl : Bool
  ra : BitVec 5
  z : BitVec 8
  end12 : BitVec 12
  deriving DecidableEq, Repr

/-- Format L as LOOPI uses it. -/
structure FmtLI where
  lvl : Bool
  count : BitVec 13
  end12 : BitVec 12
  deriving DecidableEq, Repr

/-- Format Y: `sr` is the system register number or imm12. -/
structure FmtY where
  rd : BitVec 5
  ra : BitVec 5
  sr : BitVec 12
  deriving DecidableEq, Repr

/-- Format VR (R145). -/
structure FmtVR where
  vd : BitVec 5
  va : BitVec 5
  vb : BitVec 5
  pg : BitVec 3
  t : BitVec 2
  deriving DecidableEq, Repr

/-- Format VI. -/
structure FmtVI where
  vd : BitVec 5
  va : BitVec 5
  imm : BitVec 8
  t : BitVec 2
  deriving DecidableEq, Repr

/-- Format VP: `z` is the field that must be zero. -/
structure FmtVP where
  pd : BitVec 3
  z : BitVec 2
  va : BitVec 5
  vb : BitVec 5
  pg : BitVec 3
  t : BitVec 2
  deriving DecidableEq, Repr

/-- Format VM: `vd` is the destination of a load and the source of a store. -/
structure FmtVM where
  vd : BitVec 5
  ga : BitVec 5
  pg : BitVec 3
  imm : BitVec 13
  deriving DecidableEq, Repr

/-- Format VA; its field f is part of the mnemonic (R154). -/
structure FmtVA where
  ad : BitVec 3
  va : BitVec 5
  vb : BitVec 5
  vc : BitVec 5
  j : BitVec 4
  z : Bool
  n : Bool
  deriving DecidableEq, Repr

/-- Format VX. -/
structure FmtVX where
  vd : BitVec 5
  va : BitVec 5
  vb : BitVec 5
  rm : BitVec 2
  sc : BitVec 2
  c : Bool
  deriving DecidableEq, Repr

/-- Format VO: `vd` is va for VAPUT, `z` must be zero. -/
structure FmtVO where
  vd : BitVec 5
  ad : BitVec 3
  sh : BitVec 6
  rm : BitVec 2
  z : BitVec 4
  deriving DecidableEq, Repr

/-- Format VF: `z` must be zero. -/
structure FmtVF where
  vd : BitVec 5
  va : BitVec 5
  vb : BitVec 5
  pg : BitVec 3
  z : BitVec 2
  deriving DecidableEq, Repr

/-- Format VN1: `z` must be zero. -/
structure FmtVN1 where
  ad : BitVec 3
  va : BitVec 5
  e : BitVec 5
  f : Bool
  z : BitVec 12
  deriving DecidableEq, Repr

/-- Format VN2: `z` must be zero. -/
structure FmtVN2 where
  vd : BitVec 5
  va : BitVec 5
  ad : BitVec 3
  e : BitVec 5
  beta : BitVec 3
  nm : Bool
  z : BitVec 4
  deriving DecidableEq, Repr

/-- Format VG: `vd` is vd, gd or pd, `va` is va, ga or pa, `z` must be zero. -/
structure FmtVG where
  vd : BitVec 5
  va : BitVec 5
  lane : BitVec 6
  t : BitVec 2
  z : BitVec 2
  deriving DecidableEq, Repr

/-- How far a migration is when MIGRATION acts (R220): the pause of step 1, the copy and the comparisons of steps 3 to 8 with
their result, the remap of steps 9 and 10, and the release of step 11. -/
inductive MigrPhase where
  | pause
  | copy (ok : Bool)
  | remap
  | release
  deriving DecidableEq, Repr


/-- The scalar-slot instructions (R92, R93), and a word that the slot does not accept (R47). -/
inductive SInstr where
  | add (r : FmtR)
  | sub (r : FmtR)
  | and (r : FmtR)
  | or (r : FmtR)
  | xor (r : FmtR)
  | andn (r : FmtR)
  | shl (r : FmtR)
  | shr (r : FmtR)
  | sra (r : FmtR)
  | ror (r : FmtR)
  | slt (r : FmtR)
  | sltu (r : FmtR)
  | min (r : FmtR)
  | max (r : FmtR)
  | minu (r : FmtR)
  | maxu (r : FmtR)
  | clz (r : FmtR)
  | ctz (r : FmtR)
  | pop (r : FmtR)
  | ext (r : FmtR)
  | sel (r : FmtR)
  | mul (r : FmtR)
  | mulhs (r : FmtR)
  | mulhu (r : FmtR)
  | divs (r : FmtR)
  | divu (r : FmtR)
  | rems (r : FmtR)
  | remu (r : FmtR)
  | addi (r : FmtI)
  | andi (r : FmtI)
  | ori (r : FmtI)
  | xori (r : FmtI)
  | slti (r : FmtI)
  | sltui (r : FmtI)
  | shi (r : FmtI)
  | mvz (r : FmtK)
  | mvk (r : FmtK)
  | mvn (r : FmtK)
  | l (r : FmtM)
  | s (r : FmtM)
  | cl (r : FmtM)
  | cs (r : FmtM)
  | xl (r : FmtM)
  | xs (r : FmtM)
  | cat (r : FmtA)
  | xat (r : FmtA)
  | lkl (r : FmtA)
  | stu (r : FmtA)
  | beq (r : FmtB)
  | bne (r : FmtB)
  | blt (r : FmtB)
  | bge (r : FmtB)
  | bltu (r : FmtB)
  | bgeu (r : FmtB)
  | jl (r : FmtJ)
  | jr (r : FmtI)
  | loop (r : FmtL)
  | loopi (r : FmtLI)
  | srd (r : FmtY)
  | swr (r : FmtY)
  | fence (r : FmtY)
  | sys (r : FmtY)
  | brk (r : FmtY)
  | rte (r : FmtY)
  | halt (r : FmtY)
  | wev (r : FmtY)
  | illegal (w : W32)
  deriving DecidableEq, Repr

/-- The vector-slot instructions (R145, R146), and a word that the slot does not accept (R47). -/
inductive VInstr where
  | vnop (r : FmtVR)
  | vadd (r : FmtVR)
  | vsub (r : FmtVR)
  | vadds (r : FmtVR)
  | vsubs (r : FmtVR)
  | vmin (r : FmtVR)
  | vmax (r : FmtVR)
  | vabs (r : FmtVR)
  | vneg (r : FmtVR)
  | vand (r : FmtVR)
  | vor (r : FmtVR)
  | vxor (r : FmtVR)
  | vsel (r : FmtVR)
  | vconj (r : FmtVR)
  | vperm (r : FmtVR)
  | vzipl (r : FmtVR)
  | vziph (r : FmtVR)
  | vuzpe (r : FmtVR)
  | vuzpo (r : FmtVR)
  | vshl (r : FmtVI)
  | vshls (r : FmtVI)
  | vsra (r : FmtVI)
  | vsrar (r : FmtVI)
  | vsrl (r : FmtVI)
  | vsplat (r : FmtVI)
  | vceq (r : FmtVP)
  | vclt (r : FmtVP)
  | vcle (r : FmtVP)
  | pand (r : FmtVP)
  | por (r : FmtVP)
  | pnot (r : FmtVP)
  | vbc (r : FmtVG)
  | vext (r : FmtVG)
  | vins (r : FmtVG)
  | pfromg (r : FmtVG)
  | ptog (r : FmtVG)
  | vl (r : FmtVM)
  | vl2 (r : FmtVM)
  | vs (r : FmtVM)
  | vmacH (r : FmtVA)
  | vmacbH (r : FmtVA)
  | vmacB (r : FmtVA)
  | vmacbB (r : FmtVA)
  | vcmac (r : FmtVA)
  | vcmacb (r : FmtVA)
  | vcmacbj (r : FmtVA)
  | vcmulr (r : FmtVX)
  | vbf4 (r : FmtVX)
  | voutH (r : FmtVO)
  | voutW (r : FmtVO)
  | vaget (r : FmtVO)
  | vaput (r : FmtVO)
  | vared (r : FmtVO)
  | vfmaF (r : FmtVF)
  | vfmsF (r : FmtVF)
  | vfmaBf (r : FmtVF)
  | vfmsBf (r : FmtVF)
  | vfmawBf (r : FmtVF)
  | vfaddF (r : FmtVF)
  | vfmulF (r : FmtVF)
  | vfcvtBf (r : FmtVF)
  | vmsa (r : FmtVN1)
  | vmsr (r : FmtVN2)
  | illegal (w : W32)
  deriving DecidableEq, Repr

/-- How a pair that failed its residue check runs again: the realignment cycles (R211), and the pair with those that
issued after it, oldest first, when their requests may have left (R207, R209). -/
structure Replay where
  realign : Fin 51
  pairs : List (SInstr × VInstr)
  deriving DecidableEq, Repr

/-- The commands: one for each row of the opcode table. A row of the instruction set names the unit that
issues it and, on an engine, the instruction in the other slot of its pair (R46). -/
inductive Instr where
  /-- R13: A write to a register that has no row of its own stores the written fields, within the limits of R14 to R18. -/
  | registerWrite (who : Who) (addr : Nat) (bytes : Nat) (v : W64)
  /-- R18: A read of a register with an RC field returns the value and then clears the field; a quiet read does not clear it. -/
  | rcRead (who : Who) (addr : Nat) (bytes : Nat) (quiet : Bool)
  /-- R95: rd receives ra + rb, modulo 2^64. -/
  | add (u : UnitId) (r : FmtR) (v : VInstr)
  /-- R95: rd receives ra − rb, modulo 2^64. -/
  | sub (u : UnitId) (r : FmtR) (v : VInstr)
  /-- R95: rd receives ra and rb. -/
  | and (u : UnitId) (r : FmtR) (v : VInstr)
  /-- R95: rd receives ra or rb. -/
  | or (u : UnitId) (r : FmtR) (v : VInstr)
  /-- R95: rd receives ra xor rb. -/
  | xor (u : UnitId) (r : FmtR) (v : VInstr)
  /-- R95: rd receives ra and not rb. -/
  | andn (u : UnitId) (r : FmtR) (v : VInstr)
  /-- R95: rd receives ra shifted left by bits [5:0] of rb. -/
  | shl (u : UnitId) (r : FmtR) (v : VInstr)
  /-- R95: rd receives ra shifted logically right by bits [5:0] of rb. -/
  | shr (u : UnitId) (r : FmtR) (v : VInstr)
  /-- R95: rd receives ra shifted arithmetically right by bits [5:0] of rb. -/
  | sra (u : UnitId) (r : FmtR) (v : VInstr)
  /-- R95: rd receives ra rotated right by bits [5:0] of rb. -/
  | ror (u : UnitId) (r : FmtR) (v : VInstr)
  /-- R95: rd receives 1 when ra < rb as signed values, and 0 otherwise. -/
  | slt (u : UnitId) (r : FmtR) (v : VInstr)
  /-- R95: rd receives 1 when ra < rb as unsigned values, and 0 otherwise. -/
  | sltu (u : UnitId) (r : FmtR) (v : VInstr)
  /-- R95: rd receives the signed minimum of ra and rb. -/
  | min (u : UnitId) (r : FmtR) (v : VInstr)
  /-- R95: rd receives the signed maximum of ra and rb. -/
  | max (u : UnitId) (r : FmtR) (v : VInstr)
  /-- R95: rd receives the unsigned minimum of ra and rb. -/
  | minu (u : UnitId) (r : FmtR) (v : VInstr)
  /-- R95: rd receives the unsigned maximum of ra and rb. -/
  | maxu (u : UnitId) (r : FmtR) (v : VInstr)
  /-- R95: rd receives the count of leading zeros of ra, which is 64 when ra is 0. -/
  | clz (u : UnitId) (r : FmtR) (v : VInstr)
  /-- R95: rd receives the count of trailing zeros of ra, which is 64 when ra is 0. -/
  | ctz (u : UnitId) (r : FmtR) (v : VInstr)
  /-- R95: rd receives the count of one bits of ra. -/
  | pop (u : UnitId) (r : FmtR) (v : VInstr)
  /-- R95: rd receives ra sign-extended or zero-extended as code rc selects; codes 4 to 31 trap. -/
  | ext (u : UnitId) (r : FmtR) (v : VInstr)
  /-- R95: rd receives ra when rc is not 0, and rb otherwise. -/
  | sel (u : UnitId) (r : FmtR) (v : VInstr)
  /-- R95: rd receives bits [63:0] of ra × rb. -/
  | mul (u : UnitId) (r : FmtR) (v : VInstr)
  /-- R95: rd receives bits [127:64] of the signed 128-bit product of ra and rb. -/
  | mulhs (u : UnitId) (r : FmtR) (v : VInstr)
  /-- R95: rd receives bits [127:64] of the unsigned 128-bit product of ra and rb. -/
  | mulhu (u : UnitId) (r : FmtR) (v : VInstr)
  /-- R96: Rolran-C signed divide, rounded toward zero, with the results that R96 fixes for division by zero and overflow. -/
  | divs (u : UnitId) (r : FmtR) (v : VInstr)
  /-- R96: Rolran-C unsigned divide, which returns all ones for division by zero. -/
  | divu (u : UnitId) (r : FmtR) (v : VInstr)
  /-- R96: Rolran-C signed remainder, which returns ra for division by zero. -/
  | rems (u : UnitId) (r : FmtR) (v : VInstr)
  /-- R96: Rolran-C unsigned remainder, which returns ra for division by zero. -/
  | remu (u : UnitId) (r : FmtR) (v : VInstr)
  /-- R97: rd receives ra + sext(imm16). -/
  | addi (u : UnitId) (r : FmtI) (v : VInstr)
  /-- R97: rd receives ra and zext(imm16). -/
  | andi (u : UnitId) (r : FmtI) (v : VInstr)
  /-- R97: rd receives ra or zext(imm16). -/
  | ori (u : UnitId) (r : FmtI) (v : VInstr)
  /-- R97: rd receives ra xor zext(imm16). -/
  | xori (u : UnitId) (r : FmtI) (v : VInstr)
  /-- R97: rd receives 1 when ra < sext(imm16) as signed values. -/
  | slti (u : UnitId) (r : FmtI) (v : VInstr)
  /-- R97: rd receives 1 when ra < sext(imm16) as unsigned values. -/
  | sltui (u : UnitId) (r : FmtI) (v : VInstr)
  /-- R97: Shifts or rotates ra by an immediate amount, with the kind chosen by imm16 [15:14]. -/
  | shi (u : UnitId) (r : FmtI) (v : VInstr)
  /-- R97: rd receives zext(imm16) shifted left by 16 × q. -/
  | mvz (u : UnitId) (r : FmtK) (v : VInstr)
  /-- R97: Replaces bits [16q + 15 : 16q] of rd with imm16 and leaves the other bits of rd unchanged. -/
  | mvk (u : UnitId) (r : FmtK) (v : VInstr)
  /-- R97: rd receives the inverse of zext(imm16) shifted left by 16 × q. -/
  | mvn (u : UnitId) (r : FmtK) (v : VInstr)
  /-- R98: Plain load: from local data memory on an engine, or from a package address through the caches on Rolran-C. -/
  | l (u : UnitId) (r : FmtM) (v : VInstr)
  /-- R98: Plain store: to local data memory on an engine, or to a package address on Rolran-C. -/
  | s (u : UnitId) (r : FmtM) (v : VInstr)
  /-- R98: Engine load from its own case memory. -/
  | cl (u : UnitId) (r : FmtM) (v : VInstr)
  /-- R98: Engine store to its own case memory. -/
  | cs (u : UnitId) (r : FmtM) (v : VInstr)
  /-- R100: Uncached load from a package address, sent as a remote request. -/
  | xl (u : UnitId) (r : FmtM) (v : VInstr)
  /-- R100: Uncached store to a package address, sent as a posted remote request. -/
  | xs (u : UnitId) (r : FmtM) (v : VInstr)
  /-- R103: Indivisible read-modify-write of one word of the engine's own case memory, with the operation that afn selects. -/
  | cat (u : UnitId) (r : FmtA) (v : VInstr)
  /-- R104: Indivisible read-modify-write of a word at a package address, sent as one atomic packet. -/
  | xat (u : UnitId) (r : FmtA) (v : VInstr)
  /-- R105: Loads a word and sets the reservation on its 64-byte granule. -/
  | lkl (u : UnitId) (r : FmtA) (v : VInstr)
  /-- R106: Stores only while the reservation is valid for the granule and size, returns 0 or 1, and clears the reservation. -/
  | stu (u : UnitId) (r : FmtA) (v : VInstr)
  /-- R111: Branches when ra = rb. -/
  | beq (u : UnitId) (r : FmtB) (v : VInstr)
  /-- R111: Branches when ra ≠ rb. -/
  | bne (u : UnitId) (r : FmtB) (v : VInstr)
  /-- R111: Branches when ra < rb as signed values. -/
  | blt (u : UnitId) (r : FmtB) (v : VInstr)
  /-- R111: Branches when ra ≥ rb as signed values. -/
  | bge (u : UnitId) (r : FmtB) (v : VInstr)
  /-- R111: Branches when ra < rb as unsigned values. -/
  | bltu (u : UnitId) (r : FmtB) (v : VInstr)
  /-- R111: Branches when ra ≥ rb as unsigned values. -/
  | bgeu (u : UnitId) (r : FmtB) (v : VInstr)
  /-- R111: Writes the link to rd and jumps by a PC-relative offset. -/
  | jl (u : UnitId) (r : FmtJ) (v : VInstr)
  /-- R112: Writes the link to rd and jumps to ra + sext(imm16); a misaligned target traps. -/
  | jr (u : UnitId) (r : FmtI) (v : VInstr)
  /-- R113: Sets up hardware loop level lvl with the count taken from ra. -/
  | loop (u : UnitId) (r : FmtL) (v : VInstr)
  /-- R113: Sets up hardware loop level lvl with the immediate count count13. -/
  | loopi (u : UnitId) (r : FmtLI) (v : VInstr)
  /-- R119: Reads a system register into rd. -/
  | srd (u : UnitId) (r : FmtY) (v : VInstr)
  /-- R120: Writes ra to a system register, with effect from the next fetch unit. -/
  | swr (u : UnitId) (r : FmtY) (v : VInstr)
  /-- R116: Holds back later accesses of the selected kinds until every earlier access of those kinds has its response. -/
  | fence (u : UnitId) (r : FmtY) (v : VInstr)
  /-- R119: Raises the system-call trap, with TVAL set to imm12. -/
  | sys (u : UnitId) (r : FmtY) (v : VInstr)
  /-- R119: Raises the breakpoint trap, or halts the unit instead while BRKHALT is 1 (R663). -/
  | brk (u : UnitId) (r : FmtY) (v : VInstr)
  /-- R124: Returns from a trap: restores pc, privilege and EIE, clears INTRAP and clears the reservation. -/
  | rte (u : UnitId) (r : FmtY) (v : VInstr)
  /-- R72: At trap level, stops the engine or die control core at the pair boundary. -/
  | halt (u : UnitId) (r : FmtY) (v : VInstr)
  /-- R119: Waits until an event routed to the unit is pending, then writes its number to rd. -/
  | wev (u : UnitId) (r : FmtY) (v : VInstr)
  /-- R124: At a pair boundary, an allowed pending asynchronous cause is taken: EPC, CAUSE, TVAL and STATUS are set and fetch moves to TVEC. -/
  | takeTrap (u : UnitId)
  /-- R148: Vector no-operation. -/
  | vnop (u : UnitId) (r : FmtVR) (x : SInstr)
  /-- R148: Element-wise wrapping add at type t. -/
  | vadd (u : UnitId) (r : FmtVR) (x : SInstr)
  /-- R148: Element-wise wrapping subtract at type t. -/
  | vsub (u : UnitId) (r : FmtVR) (x : SInstr)
  /-- R148: Element-wise saturating add. -/
  | vadds (u : UnitId) (r : FmtVR) (x : SInstr)
  /-- R148: Element-wise saturating subtract. -/
  | vsubs (u : UnitId) (r : FmtVR) (x : SInstr)
  /-- R148: Element-wise signed minimum. -/
  | vmin (u : UnitId) (r : FmtVR) (x : SInstr)
  /-- R148: Element-wise signed maximum. -/
  | vmax (u : UnitId) (r : FmtVR) (x : SInstr)
  /-- R148: Element-wise saturating absolute value. -/
  | vabs (u : UnitId) (r : FmtVR) (x : SInstr)
  /-- R148: Element-wise saturating negation. -/
  | vneg (u : UnitId) (r : FmtVR) (x : SInstr)
  /-- R148: Bitwise and of two vector registers. -/
  | vand (u : UnitId) (r : FmtVR) (x : SInstr)
  /-- R148: Bitwise or of two vector registers. -/
  | vor (u : UnitId) (r : FmtVR) (x : SInstr)
  /-- R148: Bitwise xor of two vector registers. -/
  | vxor (u : UnitId) (r : FmtVR) (x : SInstr)
  /-- R148: Selects va or vb for each element, as the predicate pg gives. -/
  | vsel (u : UnitId) (r : FmtVR) (x : SInstr)
  /-- R148: Conjugates complex elements, saturating the negated imaginary part. -/
  | vconj (u : UnitId) (r : FmtVR) (x : SInstr)
  /-- R148: Permutes the elements of va by the indices in vb. -/
  | vperm (u : UnitId) (r : FmtVR) (x : SInstr)
  /-- R148: Interleaves the low halves of va and vb. -/
  | vzipl (u : UnitId) (r : FmtVR) (x : SInstr)
  /-- R148: Interleaves the high halves of va and vb. -/
  | vziph (u : UnitId) (r : FmtVR) (x : SInstr)
  /-- R148: De-interleaves the even elements of the pair va, vb. -/
  | vuzpe (u : UnitId) (r : FmtVR) (x : SInstr)
  /-- R148: De-interleaves the odd elements of the pair va, vb. -/
  | vuzpo (u : UnitId) (r : FmtVR) (x : SInstr)
  /-- R150: Shifts elements left by an immediate, wrapping. -/
  | vshl (u : UnitId) (r : FmtVI) (x : SInstr)
  /-- R150: Shifts elements left by an immediate, saturating. -/
  | vshls (u : UnitId) (r : FmtVI) (x : SInstr)
  /-- R150: Shifts elements arithmetically right with floor rounding. -/
  | vsra (u : UnitId) (r : FmtVI) (x : SInstr)
  /-- R150: Shifts elements arithmetically right with half-up rounding. -/
  | vsrar (u : UnitId) (r : FmtVI) (x : SInstr)
  /-- R150: Shifts elements logically right. -/
  | vsrl (u : UnitId) (r : FmtVI) (x : SInstr)
  /-- R150: Writes a sign-extended immediate to every element. -/
  | vsplat (u : UnitId) (r : FmtVI) (x : SInstr)
  /-- R151: Sets predicate bits where the elements are equal. -/
  | vceq (u : UnitId) (r : FmtVP) (x : SInstr)
  /-- R151: Sets predicate bits where va < vb. -/
  | vclt (u : UnitId) (r : FmtVP) (x : SInstr)
  /-- R151: Sets predicate bits where va ≤ vb. -/
  | vcle (u : UnitId) (r : FmtVP) (x : SInstr)
  /-- R151: pd receives pa and pb. -/
  | pand (u : UnitId) (r : FmtVP) (x : SInstr)
  /-- R151: pd receives pa or pb. -/
  | por (u : UnitId) (r : FmtVP) (x : SInstr)
  /-- R151: pd receives not pa. -/
  | pnot (u : UnitId) (r : FmtVP) (x : SInstr)
  /-- R152: Broadcasts the low bits of ga to every element of vd. -/
  | vbc (u : UnitId) (r : FmtVG) (x : SInstr)
  /-- R152: Extracts one element of va, sign-extended, into gd. -/
  | vext (u : UnitId) (r : FmtVG) (x : SInstr)
  /-- R152: Inserts the low bits of ga into one element of vd. -/
  | vins (u : UnitId) (r : FmtVG) (x : SInstr)
  /-- R152: pd receives ga [31:0]. -/
  | pfromg (u : UnitId) (r : FmtVG) (x : SInstr)
  /-- R152: gd receives zext(pa). -/
  | ptog (u : UnitId) (r : FmtVG) (x : SInstr)
  /-- R153: Loads 64 bytes of local data memory into vd. -/
  | vl (u : UnitId) (r : FmtVM) (x : SInstr)
  /-- R153: Loads 128 aligned bytes into the pair vd, vd + 1. -/
  | vl2 (u : UnitId) (r : FmtVM) (x : SInstr)
  /-- R153: Stores vs to 64 aligned bytes, under the predicate. -/
  | vs (u : UnitId) (r : FmtVM) (x : SInstr)
  /-- R154: int16 multiply-accumulate into the lanes of an accumulator. -/
  | vmacH (u : UnitId) (r : FmtVA) (x : SInstr)
  /-- R154: int16 two-column multiply-accumulate by an element pair of vc. -/
  | vmacbH (u : UnitId) (r : FmtVA) (x : SInstr)
  /-- R154: int8 pairwise multiply-accumulate. -/
  | vmacB (u : UnitId) (r : FmtVA) (x : SInstr)
  /-- R154: int8 two-column multiply-accumulate by an element quad of vc. -/
  | vmacbB (u : UnitId) (r : FmtVA) (x : SInstr)
  /-- R154: Complex multiply-accumulate, with optional conjugation of either operand. -/
  | vcmac (u : UnitId) (r : FmtVA) (x : SInstr)
  /-- R154: Complex multiply-accumulate by a broadcast element of vb. -/
  | vcmacb (u : UnitId) (r : FmtVA) (x : SInstr)
  /-- R154: Complex multiply-accumulate by a conjugated broadcast element of vb. -/
  | vcmacbj (u : UnitId) (r : FmtVA) (x : SInstr)
  /-- R156: Complex multiply, rounded and saturated back to complex int16. -/
  | vcmulr (u : UnitId) (r : FmtVX) (x : SInstr)
  /-- R156: Four radix-4 DFT butterflies, scaled and saturated. -/
  | vbf4 (u : UnitId) (r : FmtVX) (x : SInstr)
  /-- R157: Shifts, rounds and saturates accumulator lanes into int16 elements of vd. -/
  | voutH (u : UnitId) (r : FmtVO) (x : SInstr)
  /-- R157: Shifts, rounds and saturates accumulator lanes into int32 elements of a register pair. -/
  | voutW (u : UnitId) (r : FmtVO) (x : SInstr)
  /-- R157: Copies one 512-bit part of an accumulator into vd. -/
  | vaget (u : UnitId) (r : FmtVO) (x : SInstr)
  /-- R157: Writes va into one 512-bit part of an accumulator. -/
  | vaput (u : UnitId) (r : FmtVO) (x : SInstr)
  /-- R157: Reduces the accumulator lanes into lane 0, or into lanes 0 and 1. -/
  | vared (u : UnitId) (r : FmtVO) (x : SInstr)
  /-- R158: fp32 fused multiply-add into vd. -/
  | vfmaF (u : UnitId) (r : FmtVF) (x : SInstr)
  /-- R158: fp32 fused multiply-subtract into vd. -/
  | vfmsF (u : UnitId) (r : FmtVF) (x : SInstr)
  /-- R158: bfloat16 fused multiply-add into vd. -/
  | vfmaBf (u : UnitId) (r : FmtVF) (x : SInstr)
  /-- R158: bfloat16 fused multiply-subtract into vd. -/
  | vfmsBf (u : UnitId) (r : FmtVF) (x : SInstr)
  /-- R158: bfloat16 products accumulated into an fp32 register pair. -/
  | vfmawBf (u : UnitId) (r : FmtVF) (x : SInstr)
  /-- R158: fp32 element-wise add. -/
  | vfaddF (u : UnitId) (r : FmtVF) (x : SInstr)
  /-- R158: fp32 element-wise multiply. -/
  | vfmulF (u : UnitId) (r : FmtVF) (x : SInstr)
  /-- R158: Converts two fp32 registers to one bfloat16 register. -/
  | vfcvtBf (u : UnitId) (r : FmtVF) (x : SInstr)
  /-- R160: Folds one edge's messages into the min-sum accumulator lanes. -/
  | vmsa (u : UnitId) (r : FmtVN1) (x : SInstr)
  /-- R160: Produces each edge's check-to-variable message from the min-sum lanes. -/
  | vmsr (u : UnitId) (r : FmtVN2) (x : SInstr)
  /-- R72: GO written to a Stopped or Fault-stopped engine starts fetch at START_PC. -/
  | engineGo (who : Who) (d : Fin 4) (c : Fin 16) (sl : Fin 8) (v : W64)
  /-- R72: STOP written to an engine requests a stop at the next pair boundary. -/
  | engineStop (who : Who) (d : Fin 4) (c : Fin 16) (sl : Fin 8) (v : W64)
  /-- R76: The engine reaches Stopped once issued pairs complete and outstanding requests have their responses. -/
  | engineStopped (d : Fin 4) (c : Fin 16) (p : Fin 9)
  /-- R72: ARM written moves a Stopped engine to Armed, or an Armed engine back to Stopped. -/
  | engineArm (who : Who) (d : Fin 4) (c : Fin 16) (sl : Fin 8) (v : W64)
  /-- R72: GO of the case start register requests the release of every Armed engine of the case. -/
  | caseStart (who : Who) (d : Fin 4) (c : Fin 16) (v : W64)
  /-- R73: At the first slot 0 four or more cycles after the write, all Armed engines of the case enter Running together. -/
  | caseStartRelease (d : Fin 4) (c : Fin 16)
  /-- R126: GO of die[d].ctl.run starts the die control core at BOOT_PC. -/
  | coreGo (who : Who) (d : Fin 4) (v : W64)
  /-- R127: STOP of die[d].ctl.run stops the die control core at the next instruction boundary. -/
  | coreStop (who : Who) (d : Fin 4) (v : W64)
  /-- R178: In each arbitration phase, a bank grants its slot to the debug port, the owner or the oldest eligible background request. -/
  | caseGrant (d : Fin 4) (c : Fin 16)
  /-- R171: SWAP written in imp.ctl sets PENDING for a swap of the case's table planes. -/
  | impSwapRequest (who : Who) (d : Fin 4) (c : Fin 16) (v : W64)
  /-- R171: At the qualifying slot 0, the live and standby planes of all sixteen banks exchange, or the swap is refused for reserved codes. -/
  | impSwap (d : Fin 4) (c : Fin 16)
  /-- R198: SWAP written in imp_cs requests a swap of all four planes of a crossing port. -/
  | xportSwapRequest (who : Who) (d : Fin 4) (p : Fin 12) (v : W64)
  /-- R198: At the port's qualifying slot 0, the crossing-port planes exchange, or the swap is refused for codes 12 to 14. -/
  | xportSwap (d : Fin 4) (p : Fin 12)
  /-- R186: A write of a DMA ring register sets TAIL, and while RUN is 0 a change of RBASE or LOG2N empties the ring. -/
  | dmaRingWrite (who : Who) (d : Fin 4) (c : Fin 16) (k : Fin 4) (v : W64)
  /-- R190: RUN written as 1 starts the channel at the descriptor at HEAD, or halts it at once when the ring is invalid. -/
  | dmaRun (who : Who) (d : Fin 4) (c : Fin 16) (k : Fin 4) (v : W64)
  /-- R190: STOP, or RUN written as 0, stops the channel after the responses of requests already sent. -/
  | dmaStop (who : Who) (d : Fin 4) (c : Fin 16) (k : Fin 4) (v : W64)
  /-- R188: A channel whose turn has come issues the next piece of its descriptor. -/
  | dmaPiece (d : Fin 4) (c : Fin 16)
  /-- R188: When every write of a descriptor is done, the channel writes STAT, advances HEAD and may set DONE. -/
  | descriptorComplete (d : Fin 4) (c : Fin 16) (k : Fin 4)
  /-- R208: A failing residue or duplication check discards the pair's results and replays the pair from the checkpoint. -/
  | residueMismatch (d : Fin 4) (c : Fin 16) (p : Fin 9) (chk : Fin 8) (vslot : Bool) (t : Nat) (replay : Replay)
  /-- R216: MIGRATE written accepts a migration of TARGET to the spare, or refuses it. -/
  | migrate (who : Who) (d : Fin 4) (c : Fin 16) (v : W64)
  /-- R220: At the pair boundary, an accepted migration pauses the slot, copies and verifies state in the spare, remaps it and releases at slot q. -/
  | migration (d : Fin 4) (c : Fin 16) (ph : MigrPhase)
  /-- R218: RETURN written returns a Vacated and tested unnumbered engine to Ready, or is refused. -/
  | returnUnnumbered (who : Who) (d : Fin 4) (c : Fin 16) (v : W64)
  /-- R218: RETIRE written retires a Vacated or Failed unnumbered engine and powers the position off. -/
  | retire (who : Who) (d : Fin 4) (c : Fin 16) (v : W64)
  /-- R279: A write of upll[u].cfg is refused while ENABLE is 1; otherwise it sets the PLL's mode and dividers and may enable it. -/
  | upllCfg (who : Who) (d : Fin 4) (g : Fin 16) (k : Fin 8) (v : W64)
  /-- R278: An enabled user PLL locks within 100 µs and its outputs start to run. -/
  | upllLock (d : Fin 4) (k : Fin 8)
  /-- R278: A user PLL that loses lock holds its outputs low, clears LOCK, sets LOL and raises the user-PLL event. -/
  | upllLossOfLock (d : Fin 4) (k : Fin 8)
  /-- R273: A new SRC of a clock network begins a glitch-free change that completes after edges of the old and new sources. -/
  | clockSourceChange (d : Fin 4) (g : Fin 16) (n : Fin 32)
  /-- R273: FORCE written completes a pending source change without the old source. -/
  | forceClock (who : Who) (d : Fin 4) (g : Fin 16) (n : Fin 32) (v : W64)
  /-- R267: A write strobe adds an entry to a block RAM queue, or is refused and sets OVF when FULL. -/
  | queueWrite (d : Fin 4) (g : Fin 16) (b : Fin 480) (data : W32) (late : Bool)
  /-- R267: A read strobe removes an entry from a block RAM queue, or sets UNF when EMPTY. -/
  | queueRead (d : Fin 4) (g : Fin 16) (b : Fin 480) (late : Bool)
  /-- R270: The CLRERR input clears OVF and UNF, with set-wins. -/
  | clrerr (d : Fin 4) (g : Fin 16) (e : ClrEdges)
  /-- R271: The RST input empties the queue and clears its flags. -/
  | queueRst (d : Fin 4) (g : Fin 16) (b : Fin 480)
  /-- R260: A block RAM port read or write corrects bytes and drives CORR and POISON. -/
  | blockRamAccess (d : Fin 4) (g : Fin 16) (b : Fin 480) (pa pb : Option PortOp)
  /-- R300: A bank's VCCO leaves tolerance: its pins go to their strapped safe state, VMIS is set and the I/O event is raised. -/
  | bankPgFall (d : Fin 4) (b : Fin 8) (vcco : Fin 4)
  /-- R300: A bank's VCCO returns to tolerance and its pins are released to their live configuration. -/
  | bankPgRise (d : Fin 4) (b : Fin 8) (vcco : Fin 4)
  /-- R299: A write of a quick pin's delay target starts the line stepping toward it. -/
  | qpinDly (who : Who) (d : Fin 4) (m : Fin 64) (v : W64)
  /-- R299: The delay line reaches its target tap and BUSY clears. -/
  | delayLineArrive (d : Fin 4) (m : Fin 64)
  /-- R317: An initiator interface injects a request once response space, regulator tokens and ordering allow. -/
  | inject (who : Who) (offer : Option Offer) (marks : OfferMarks)
  /-- R308: A read request arrives at its target and is performed. -/
  | rdReq (who : Who) (tag : Nat) (gen : Nat) (reply : Option FabricReply)
  /-- R308: A write request arrives at its target and is performed. -/
  | wrReq (who : Who) (tag : Nat) (gen : Nat) (reply : Option FabricReply)
  /-- R315: An atomic request arrives at its target and is performed or refused. -/
  | atReq (who : Who) (tag : Nat) (gen : Nat) (reply : Option FabricReply)
  /-- R308: A read response reaches its initiator and delivers data, poison or an error mark. -/
  | rdr (who : Who) (tag : Nat) (gen : Nat)
  /-- R308: A write response reaches its initiator; an error becomes a posted bus error. -/
  | wrr (who : Who) (tag : Nat) (gen : Nat)
  /-- R308: An atomic response reaches its initiator with the old value. -/
  | atr (who : Who) (tag : Nat) (gen : Nat)
  /-- R327: An expired request is given a synthesised TIMEOUT response, its tag generation advances and TMO is counted. -/
  | timeout (who : Who) (tag : Nat)
  /-- R354: A sequenced Clerasway frame is received, checked and acknowledged, or discarded with a NAK. -/
  | sequencedFrame (d : Fin 4) (p : Fin 12) (send : FrameSend) (crd : Fin 16) (noise : List LaneFlip)
  /-- R354: A received NAK makes the sender resend every frame from the expected SEQ. -/
  | nak (d : Fin 4) (p : Fin 12) (noise : List LaneFlip)
  /-- R354: The oldest unacknowledged frame has waited 256 noc cycles and the sender resends from it. -/
  | retryTimeout (d : Fin 4) (p : Fin 12)
  /-- R355: X cycles after its first slot, a frame is handed to its queue buffer and complete packets enter the mesh. -/
  | frameHandover (d : Fin 4) (p : Fin 12) (net : Fin 3) (q : Fin 4)
  /-- R364: A received heartbeat is compared with the receiver's own epoch, width and groups, and a mismatch sets EPOCH_MIS and may enter Probe. -/
  | heartbeat (d : Fin 4) (p : Fin 12)
  /-- R350: Every 1 µs, each Active side sends a heartbeat. -/
  | heartbeatSend (d : Fin 4) (p : Fin 12)
  /-- R358: After PRBS31 for 2 × TW, the port writes rxmap and moves to Propose. -/
  | probeWindowEnd (d : Fin 4) (p : Fin 12) (lanes : W64) (hi : BitVec 6)
  /-- R360: A valid PROPOSE received lets the port compute the agreement and move to Confirm. -/
  | propose (d : Fin 4) (m : Heard)
  /-- R358: A partner's CONFIRM matching its own moves the port to Commit with the new epoch and width. -/
  | confirm (d : Fin 4) (m : Heard)
  /-- R361: The partner's COMMIT and a good frame move the port to Active, where it resumes or flushes. -/
  | commit (d : Fin 4) (m : Heard)
  /-- R358: A training state timer of 50 µs, 10 µs or 100 µs expires and the port returns to Probe. -/
  | trainingTimeout (d : Fin 4) (p : Fin 12)
  /-- R366: The 2 ms training deadline passes without a commit: TFAIL is set and a new carrier is chosen. -/
  | deadline (d : Fin 4) (p : Fin 12)
  /-- R368: Once the old carrier has drained and X cycles have passed, XPORT-p traffic starts on the new carrier. -/
  | carrierSwitch (d : Fin 4) (p : Fin 12)
  /-- R367: A port has been Active for 2^HOLD_EXP µs and its traffic may return to it. -/
  | holdExpiry (d : Fin 4) (p : Fin 12)
  /-- R363: Loss of signal or CDR unlock on a lane, wavelength or clock lane in use sends the port to fast Probe. -/
  | lossOfSignal (d : Fin 4) (p : Fin 12) (lane : Fin 70)
  /-- R363: No good frame for 1 µs sends the port to fast Probe. -/
  | noGoodFrame (d : Fin 4) (p : Fin 12)
  /-- R363: RETRAIN written sends an Active port to fast Probe. -/
  | linkRetrain (who : Who) (d : Fin 4) (p : Fin 12) (v : W64)
  /-- R358: DISABLE written takes the port out of service or back to fast Probe. -/
  | disable (who : Who) (d : Fin 4) (p : Fin 12) (v : W64)
  /-- R367: RETURN of the link ctl register chooses the carrier again, ignoring the hold. -/
  | carrierReturn (who : Who) (d : Fin 4) (p : Fin 12) (v : W64)
  /-- R372: A ring locks to its laser line. -/
  | ringLock (d : Fin 4) (p : Fin 12) (rx : Bool) (k : Fin 18)
  /-- R372: A ring loses lock: its wavelength fails and the port retrains. -/
  | ringLossOfLock (d : Fin 4) (p : Fin 12) (rx : Bool) (k : Fin 18)
  /-- R372: Every 10 ms, the device retries a failed ring. -/
  | ringRetry (d : Fin 4) (p : Fin 12) (rx : Bool) (k : Fin 18) (ok : Bool)
  /-- R374: A laser line falls below threshold for 1 µs: the input stops being OK and may be switched. -/
  | lineLoss (b : Bool) (k : Fin 18)
  /-- R374: A laser input becomes OK, and the device may switch to it if AUTO is 1. -/
  | inputOk (b : Bool) (power : BitVec 16)
  /-- R374: SEL written switches to the named input when it is OK. -/
  | laserSel (who : Who) (v : W64)
  /-- R395: GO of cmap[k].clr marks a range of granules unwritten after earlier requests, unless it is refused. -/
  | cmapClear (who : Who) (d : Fin 4) (k : Fin 2) (v : W64)
  /-- R395: The clear completes and BUSY falls. -/
  | cmapClearDone (d : Fin 4) (k : Fin 2)
  /-- R392: The fill engine writes zero to the undone lines of a slot's granule, and then sets its map bit and frees the slot. -/
  | granuleFill (d : Fin 4) (k : Fin 2) (granule : Fin 1048576)
  /-- R401: START written begins a scrub pass, or is refused. -/
  | scrubStart (who : Who) (d : Fin 4) (v : W64)
  /-- R398: The scrub engine reads the next line at most once every 2^RATE noc cycles. -/
  | scrubRead (d : Fin 4)
  /-- R402: STOP written ends the pass after outstanding responses. -/
  | scrubStop (who : Who) (d : Fin 4) (v : W64)
  /-- R401: The pass ends: the proof sheet is written, BUSY clears and DONE or ABORTED is set. -/
  | scrubPassEnd (d : Fin 4) (us : W32)
  /-- R400: Every 1,024 ctl cycles, a control core reads one line of its caches or SRAM and rewrites correctable words. -/
  | patrolRead (d : Fin 4)
  /-- R435: INIT written starts DDR4 power-up and training, which ends in Ready or Failed. -/
  | init (who : Who) (d : Fin 4) (k : Fin 2) (v : W64) (ok : Bool)
  /-- R436: RETRAIN written requests a centring pass on each rank after its next refresh. -/
  | ddrRetrain (who : Who) (d : Fin 4) (k : Fin 2) (v : W64)
  /-- R436: Every INTERVAL ms, a centring pass runs on a rank directly after a refresh. -/
  | centringPass (d : Fin 4) (k : Fin 2) (rank : Fin 2)
  /-- R436: Every 128 ms, a short ZQ calibration runs on each rank. -/
  | zqCalibration (d : Fin 4) (k : Fin 2) (rank : Fin 2)
  /-- R425: Each mem cycle, the controller issues the next DRAM command of the highest-ranked allowed entry. -/
  | dramCommand (d : Fin 4) (k : Fin 2) (ok ref : List Nat)
  /-- R433: Each 1x interval, a rank's refresh debt rises by one, and at +8 refresh becomes the emergency requester. -/
  | refreshInterval (d : Fin 4) (k : Fin 2) (rank : Fin 2)
  /-- R426: A rank with nothing queued or due for 256 mem cycles enters precharge power-down. -/
  | prechargePowerDown (d : Fin 4) (k : Fin 2) (rank : Fin 2)
  /-- R427: A real-time port's PANIC input makes controllers treat its lines as real-time. -/
  | panic (d : Fin 4) (g : Fin 16) (j : Fin 4) (on : Bool)
  /-- R443: An enabled lane group PLL locks within 200 µs. -/
  | lanePllLock (d : Fin 4) (j : Fin 3) (a : Fin 2)
  /-- R446: A lane group PLL loses lock: its lanes enter electrical idle, LOL is set and the lane event is raised. -/
  | lanePllLossOfLock (d : Fin 4) (j : Fin 3) (a : Fin 2)
  /-- R441: A write that changes a lane's OWNER resets its coding and adaptation and idles it for 1 µs. -/
  | ownerChange (who : Who) (d : Fin 4) (j : Fin 3) (i : Fin 8) (v : W64)
  /-- R440: 1 µs after an OWNER change, the lane may leave electrical idle. -/
  | ownerSettle (d : Fin 4) (j : Fin 3) (i : Fin 8)
  /-- R450: A txeq write applies new transmit taps within 1 µs, or sets TXEQ_ERR. -/
  | txeq (who : Who) (d : Fin 4) (j : Fin 3) (i : Fin 8) (v : W64)
  /-- R451: Receive adaptation completes and ADAPTED is set. -/
  | adapted (d : Fin 4) (j : Fin 3) (i : Fin 8) (ctle : BitVec 5) (dfe : BitVec 8) (ffe : List (BitVec 8))
  /-- R460: The CDR loses lock, or SIGDET falls, and CDRLOL or LOS is set. -/
  | cdrLossOfLock (d : Fin 4) (j : Fin 3) (i : Fin 8) (los : Bool)
  /-- R457: RUN written clears the histogram bins and starts sorting symbols. -/
  | histogramRun (who : Who) (d : Fin 4) (j : Fin 3) (i : Fin 8) (v : W64)
  /-- R457: The symbol count is reached and RUN clears. -/
  | histogramDone (d : Fin 4) (j : Fin 3) (i : Fin 8) (counts : List (Fin 512 × Nat))
  /-- R462: Enabling an Ethernet port checks its configuration and brings it up, or sets CFGERR. -/
  | ethPortEnable (who : Who) (d : Fin 4) (m : Fin 4) (q : Fin 8) (v : W64)
  /-- R464: A received frame is checked, timestamped and written through a receive descriptor, or dropped. -/
  | ethFrameReceive (d : Fin 4) (m : Fin 4) (q : Fin 8) (f : FrameIn) (sub : Nat)
  /-- R464: A transmit descriptor between HEAD and TAIL is sent as a frame and written back. -/
  | ethFrameTransmit (d : Fin 4) (m : Fin 4) (q r : Fin 8) (sub : Nat)
  /-- R471: An Ethernet port's link goes up or down and LINKCHG is set. -/
  | linkChange (d : Fin 4) (m : Fin 4) (q : Fin 8) (up cal : Bool) (eq : List LaneEq)
  /-- R468: GO of saload loads a MACsec record into an association. -/
  | saload (who : Who) (d : Fin 4) (m : Fin 4) (v : W64)
  /-- R475: An inbound TLP is translated through a BAR and issued as a network request. -/
  | pcieInboundTlp (far : Bool) (op : ReqOp) (bar : Option (Fin 3)) (addr len data : Nat) (cmp : W64) (afn : BitVec 3) (ord : Bool) (tc : Fin 8)
  /-- R474: An outbound completion returns as a network response, or fails and sets OBERR. -/
  | pcieCompletion (far : Bool) (n : Nat) (ok poisoned : Bool) (data : Nat)
  /-- R476: The PCI Express link goes up or down and LINKCHG is set. -/
  | pcieLinkChange (far : Bool) (up rev : Bool) (gen : Fin 6) (lanes : Fin 17) (ltssm : BitVec 6) (eq : List LaneEq)
  /-- R478: Enabling a JESD204C link checks its lanes and rate, or sets LINKERR. -/
  | jesdLinkEnable (who : Who) (d : Fin 4) (j : Fin 3) (l : Fin 4) (v : W64) (sync : Bool)
  /-- R479: A SYSREF edge aligns the local multiframe clock, or sets SYSERR when it falls off the boundary. -/
  | sysrefEdge (d : Fin 4) (j : Fin 3) (l : Fin 4) (src : Fin 9) (off : Bool)
  /-- R495: Once a second, the timing unit measures its sources, checks and updates their states, selects one and updates its own state. -/
  | evaluation (e : EvalIn)
  /-- R491: A PPS_IN rising edge is timestamped as the GNSS measurement. -/
  | ppsIn (sub : Nat)
  /-- R491: Software writes a PTP source offset for the current second. -/
  | meas (who : Who) (n : Fin 4) (v : W64)
  /-- R484: STEP written schedules the value of step to be added to device time. -/
  | step (who : Who) (v : W64)
  /-- R484: When NS next passes 500,000,000, a pending step is added to device time. -/
  | stepApply
  /-- R497: HOLD written forces holdover, or returns the unit to following SEL. -/
  | hold (who : Who) (v : W64)
  /-- R497: EN written as 0 puts the unit in Free-run; as 1, the next evaluation may start acquiring. -/
  | servoEn (who : Who) (v : W64)
  /-- R485: Every 1 µs, the master's time frame reaches each follower, which corrects its phase and rate. -/
  | timeFrame (reach : BitVec 4)
  /-- R486: After a commit of a port carrying the time channel, echo frames measure its one-way delay. -/
  | echoExchange (d : Fin 4) (p : Fin 12) (e : EchoIn)
  /-- R486: A follower has had no usable frame for 2 ms: FALIGN clears and FOLLOW is set. -/
  | followerGap (d : Fin 4)
  /-- R501: Every second, the unit reads the temperature sensor over I²C, and ten failures set TSLOST. -/
  | sensorRead (raw : Option (BitVec 16))
  /-- R502: Every 62.5 ms, the tuning port sends a frame with CODE. -/
  | tuningFrame
  /-- R494: Every 1,024 s, the model clock M is aligned to device time. -/
  | modelAlign
  /-- R503: The XO_IN oscillator stops or drifts: time switches to the 50 MHz reference and XOLOS is set. -/
  | xoLoss
  /-- R505: PPS_OUT rises when device time crosses a whole second plus PPSOFF, unless squelched. -/
  | ppsOut (rise : Bool)
  /-- R506: SYSREF pulses at every time tick that is a multiple of SYSPER since the second. -/
  | sysrefOut (off : Bool)
  /-- R508: A ToD UART byte arrives into the buffer, or is lost and sets OVR. -/
  | uartReceive (b : Byte)
  /-- R508: A write of TXB sends one byte on TODTX. -/
  | uartTransmit (who : Who) (v : W64)
  /-- R499: GO of authload loads a PTP authentication key record into a slot. -/
  | authload (who : Who) (v : W64)
  /-- R535: RESELECT written in dark hold enters Probe of forme selection. -/
  | reselect (who : Who) (v : W64)
  /-- R535: With POLICY bit 1 set, 60 s in dark hold enter Probe again. -/
  | darkHoldRetry
  /-- R522: The guard core checks and releases the next forme chunk into its die's queue or SRAM once there is room. -/
  | chunkRelease
  /-- R526: Composing instruction that writes N register values. -/
  | wreg (d : Fin 4)
  /-- R526: Composing instruction that writes LEN bytes of memory. -/
  | wmem (d : Fin 4)
  /-- R528: Composing instruction that checks configuration frames and writes them to a galley's shadow plane. -/
  | frameInstr (d : Fin 4)
  /-- R526: Composing instruction that reads back and compares frames of the live or shadow plane. -/
  | rbc (d : Fin 4)
  /-- R526: Composing instruction that reads an address until a masked value matches. -/
  | poll (d : Fin 4)
  /-- R526: LIMIT µs pass without a match and the load ends with CFGERR. -/
  | pollLimit (d : Fin 4)
  /-- R526: Composing instruction that runs the program context from SRAM until HALT. -/
  | callProg (d : Fin 4)
  /-- R526: LIMIT ms pass before the called routine halts and the load ends with CFGERR. -/
  | callLimit (d : Fin 4)
  /-- R526: Composing instruction that waits until every die in M executes a matching SYNC. -/
  | sync (d : Fin 4)
  /-- R526: Composing instruction that ends a segment, and with FINAL the die's share. -/
  | endSeg (d : Fin 4)
  /-- R539: GO of pload starts a partial forme load, or is refused. -/
  | pload (who : Who) (v : W64)
  /-- R541: A partial load ends with DONE, REJECT or FAILW. -/
  | ploadEnd
  /-- R543: A flash read operation copies flash to memory at BUF. -/
  | fopRead (fail : Bool)
  /-- R543: A flash program operation copies memory at BUF to flash. -/
  | fopProgram (fail : Bool)
  /-- R543: A flash erase operation erases a range of 64 KiB blocks. -/
  | fopErase (fail : Bool)
  /-- R543: A flash operation ends and sets DONE, and ERR on failure. -/
  | fopDone
  /-- R549: CLONE written copies the live configuration frames and plane registers to the shadow plane. -/
  | clone (who : Who) (d : Fin 4) (g : Fin 16) (v : W64)
  /-- R549: The clone completes and CLONING clears. -/
  | cloneDone (d : Fin 4) (g : Fin 16)
  /-- R555: CLOSE written as 1 closes each quoin latch of a galley on its next clock edge. -/
  | quoinClose (who : Who) (d : Fin 4) (g : Fin 16) (v : W64)
  /-- R555: CLOSE written as 0 opens each quoin latch, unless the galley is locked out. -/
  | quoinOpen (who : Who) (d : Fin 4) (g : Fin 16) (v : W64)
  /-- R557: CLOSE of a case quoin stops inbound grants, new network requests and events of the case. -/
  | caseQuoinClose (who : Who) (d : Fin 4) (c : Fin 16) (v : W64)
  /-- R560: QUIESCE written holds a galley's fabric ports back from new requests while responses drain. -/
  | quiesce (who : Who) (d : Fin 4) (g : Fin 16) (v : W64)
  /-- R561: LIMIT µs after QUIESCE with requests still in flight, DEXP is set. -/
  | dexp (d : Fin 4) (g : Fin 16)
  /-- R563: GO of xswap sends a swap trigger to every die of DMASK. -/
  | xswapGo (who : Who) (d : Fin 4) (v : W64)
  /-- R565: A swap trigger arrives at another die of DMASK and sets PENDING. -/
  | xswapTrigger (e d : Fin 4)
  /-- R564: A die checks the trigger and swaps every galley in its GMASK, or refuses. -/
  | xswapCheck (d : Fin 4)
  /-- R578: Fuse command that burns an owner key into an empty slot. -/
  | addkey (weak : List Nat)
  /-- R578: Fuse command that revokes an owner key slot. -/
  | revoke (weak : List Nat)
  /-- R578: Fuse command that raises the folio floor. -/
  | floorCmd (weak : List Nat)
  /-- R578: Fuse command that raises the standing floor. -/
  | sfloor (weak : List Nat)
  /-- R582: Fuse command that recovers, wraps and burns the forme key. -/
  | setfk (weak : List Nat)
  /-- R578: Fuse command that burns the fallback policy and POLICY_LOCK. -/
  | policyCmd (weak : List Nat)
  /-- R578: Fuse command that burns ENC_REQ. -/
  | encreq (weak : List Nat)
  /-- R578: Fuse command that burns bits of the DBG field. -/
  | debugBurn (weak : List Nat)
  /-- R584: GO of req[1] makes the guard core write a signed attestation report over the buffer. -/
  | attest
  /-- R587: DGO starts a check of the unlock record that grants or denies debug. -/
  | unlockAttempt (secs : Nat)
  /-- R589: DLOCK written relocks debug. -/
  | dlock (who : Who) (v : W64)
  /-- R589: DURATION seconds after a grant, debug relocks. -/
  | unlockExpiry
  /-- R597: A proving window of 4,096 reference cycles ends, WINCNT is recorded and the reference may be proven. -/
  | provingWindow (count : Fin 16384)
  /-- R598: Once the reference is proven, ref switches to XIN and the roots and PLLs start. -/
  | handOver
  /-- R599: 100 ms after guard domain start without proof, REFFAIL is set. -/
  | referenceNotProven
  /-- R601: A source failure drives outputs safe, idles lanes, puts DRAM in self-refresh and stops the die clocks for a wait. -/
  | sourceFailure (root : Option (Fin 4))
  /-- R603: The reference is proven again and the roots lock, so the clocks restart and links retrain. -/
  | sourceReturn
  /-- R603: Every 1 ms while the reference is proven, a root that has lost lock tries to lock again. -/
  | rootRelockTry (d : Fin 4) (ok : Bool)
  /-- R605: A clock wait lasts 2^WAITLIM ms: WLIM is set and all four dies are reset. -/
  | waitLimit
  /-- R612: ON written as 0 begins switching a domain off, or sets REFUSED. -/
  | domainOff (who : Who) (r : DomSel) (v : W64)
  /-- R612: ON written as 1 closes the switch of an Off domain. -/
  | domainOn (who : Who) (r : DomSel) (v : W64)
  /-- R612: A Stopping domain's switch opens and it reaches Off. -/
  | switchOpen (r : DomSel)
  /-- R612: A Powering domain's supply is in tolerance and its memories are filled, so it reaches On with its reset contents. -/
  | domainPowered (r : DomSel)
  /-- R620: RESET of dom[k] resets that domain in place. -/
  | domainReset (who : Who) (r : DomSel) (v : W64)
  /-- R617: ON written as 0 to pkg.power.die[d] switches every domain of the die off. -/
  | dieOff (who : Who) (d : Fin 4) (v : W64)
  /-- R617: ON written as 1 to pkg.power.die[d] switches the die's domains on and leaves it Held. -/
  | dieOn (who : Who) (d : Fin 4) (v : W64)
  /-- R619: RST of pkg.power.die[d] resets all 39 domains of the die. -/
  | dieReset (who : Who) (d : Fin 4) (v : W64)
  /-- R622: A die's core supply leaves tolerance: the die is reset and SUPFAIL is set. -/
  | supfail (d : Fin 4)
  /-- R624: PORN low, or a guard supply fault, resets everything and drives pins safe, lanes idle and FAULT released. -/
  | powerOnReset
  /-- R625: PORN rises and the device runs its start-up sequence up to forme selection. -/
  | pornRise (board : Board) (puf : Bool)
  /-- R623: GRST, or a nested guard-core trap, resets all but the debug domain and restarts guard domain start. -/
  | guardReset (puf : Bool)
  /-- R619: TRSTN low, or a debug reset from the port, resets the debug domain alone. -/
  | debugReset
  /-- R704: Every 100 µs, a die's junction sensor is read and THOT may be set. -/
  | temperatureRead (d : Fin 4) (raw : BitVec 12)
  /-- R629: GO with TKIND 0 starts a self-test of a galley. -/
  | galleyTest (who : Who) (d : Fin 4) (v : W64)
  /-- R629: GO with TKIND 1 starts a self-test of a vacated engine position. -/
  | positionTest (who : Who) (d : Fin 4) (v : W64)
  /-- R629: GO with TKIND 2 starts a self-test of a case. -/
  | caseTest (who : Who) (d : Fin 4) (v : W64)
  /-- R631: The logic self-test completes and writes SIG, GOLDEN and LFAIL. -/
  | logicSelfTestDone (d : Fin 4) (sig golden : W32)
  /-- R637: A memory self-test run completes, writes mfail and may assign spares and run again. -/
  | memorySelfTestDone (d : Fin 4) (fails : List (Nat × Nat × Fin 13))
  /-- R630: Finishing leaves the target in its after-test state and sets DONE, and FAIL and a lockout on failure. -/
  | finishingDone (d : Fin 4)
  /-- R643: STOP written ends the part under way early and goes to finishing with ABORTED. -/
  | testStop (who : Who) (d : Fin 4) (v : W64)
  /-- R670: IEEE 1149.1 instruction that selects the IDCODE register. -/
  | idcode
  /-- R671: IEEE 1149.1 instruction that samples and preloads the boundary register. -/
  | samplePreload (pins bits : Nat)
  /-- R671: IEEE 1149.1 pin instruction that drives and senses pins through the boundary register. -/
  | extest (pins bits : Nat)
  /-- R672: IEEE 1149.6 AC pin test instruction. -/
  | extestPulse (pins bits : Nat)
  /-- R672: IEEE 1149.6 AC pin training instruction. -/
  | extestTrain (pins bits : Nat)
  /-- R671: IEEE 1149.1 pin instruction that holds outputs from the boundary register. -/
  | clamp
  /-- R671: IEEE 1149.1 pin instruction that places outputs at high impedance. -/
  | highz
  /-- R670: IEEE 1149.1 bypass instruction, which any unlisted opcode also selects. -/
  | bypass
  /-- R649: On Update-DR, the DREG register performs one access to pkg.guard, pkg.sec, pkg.debug or pkg.power. -/
  | dreg (blk : Fin 4) (off : BitVec 20) (w64 write : Bool) (data : W64)
  /-- R650: A PCI Express request to the debug BAR acts as a DREG access. -/
  | debugWindow (far : Bool) (off : BitVec 22) (w64 write : Bool) (data : W64)
  /-- R654: GO of acc makes the debug initiator issue one request. -/
  | debugAccess (v : W64)
  /-- R658: CMD 1 of hreq halts an engine, a die control core or a whole case. -/
  | debugHalt (v : W64)
  /-- R659: CMD 2 of hreq resumes a halted target at its slot phase. -/
  | debugResume (v : W64)
  /-- R660: CMD 3 of hreq runs a halted target for exactly one pair and halts it again. -/
  | debugStep (v : W64)
  /-- R666: REMAIN reaches 0 with PERIOD not 0: cause 34 is raised, WEXP is set and the count reloads. -/
  | watchdogExpiry (u : UnitId)
  /-- R678: GO of raise raises a software event of the die. -/
  | raiseEvent (who : Who) (d : Fin 4) (v : W64)
  /-- R681: A 1 written to a pending bit clears it and its TAKEN mark, with set-wins. -/
  | pendClear (who : Who) (d : Fin 4) (w : Fin 16) (v : W64)
  /-- R679: A rising edge of a galley event net raises its fabric event. -/
  | fabricEvent (d : Fin 4) (g : Fin 16) (k : Fin 4)
  /-- R681: A pending, untaken, routed event reaches its target, which takes it as cause 32 or as the result of WEV. -/
  | eventDelivery (d : Fin 4) (n : Fin 512)
  /-- R451: A lane receiver detects a signal and its CDR locks to the data, so SIGDET and CDRLOCK rise and adaptation may begin. -/
  | cdrLock (d : Fin 4) (j : Fin 3) (i : Fin 8)
  /-- R455: After 64 error-free bits, the pattern checker locks, sets CHKLOCK and starts counting. -/
  | checkerLock (d : Fin 4) (j : Fin 3) (i : Fin 8)
  /-- R455: More than 16 bit errors within 128 bits make the checker lose lock, set UNLOCK, raise the lane event and seed itself again. -/
  | checkerUnlock (d : Fin 4) (j : Fin 3) (i : Fin 8) (bits wrong syms : Nat)
  /-- R363: A Clerasway port detects PRBS31 from its partner: an Active port enters fast Probe, and a higher-epoch side may then send PROPOSE. -/
  | prbs31Received (d : Fin 4) (p : Fin 12)
  /-- R459: At each raw word cycle, the lane takes a word from its 16-word buffer or sends zeros and sets TXUF; a word offered to a full buffer is dropped and TXOF is set. -/
  | rawTransmitWord (d : Fin 4) (j : Fin 3) (i : Fin 8) (offer : Option (BitVec 256)) (take : Bool)
  /-- R480: An enabled JESD204C link loses synchronisation, sets LINKERR, clears SYNC and raises the JESD event. -/
  | jesdSyncLoss (d : Fin 4) (j : Fin 3) (l : Fin 4)
  /-- R480: A received sync-header CRC or 8B/10B code fails, sets CRCERR and raises the JESD event. -/
  | jesdCrcError (d : Fin 4) (j : Fin 3) (l : Fin 4)
  /-- R692: A supply rail without a reset action leaves or re-enters its window for 1 µs, and its supstat bit changes; a die core supply back in tolerance for 1 ms lets the die leave Held at the next Probe. -/
  | railWindowChange (rail : Fin 32) (inside : Bool)
  deriving DecidableEq, Repr

end Sys2Proof
end

