-- ==== Sys2Proof/Decode.lean ====
section
/-! DEFINITION. Reading a command from a word. The opcode table gives its rows no bits, so that no word spells a
command. -/

namespace Sys2Proof

/-- The command that a word spells by the bits of the opcode table: none, for the table gives no row any bits. -/
def decodeTableWord (_nbits _w : Nat) : Option Instr := none

end Sys2Proof
end

