-- ==== Sys2Proof/Config.lean ====
section
/-! DEFINITION. What the spec leaves open: opaque constants without a body, so that no proof can see a value. A
function of a `Nat` is applied to the counter of drawn free values in State. -/

namespace Sys2Proof

/-- Which of the inputs with an equal claim a router output serves (R324 ranks only unequal ones), applied to the counter of
free values and the output. -/
opaque Config.meshPick : Nat → Nat → Nat

/-- PC of an engine or core status register while the unit runs: the field is valid only in Stopped, Halted and
Fault-stopped (the tables of `eng[s].status` and `ctl.status`). -/
opaque Config.runPc : Nat → Nat

/-- Whether a cache of a control core holds a line that it has read, applied to the counter of free values: the spec gives
the caches no size and no replacement (R100, R102). -/
opaque Config.cacheKeeps : Nat → Bool

/-- The addresses at which the guard core reaches memories of its own, with the offset of each there, and the bytes of those
memories (R378, R383: the spec gives them neither addresses nor a size). -/
opaque Config.guardMem : Nat → Option Nat
opaque Config.guardMemSize : Nat

/-- The value beside an error mark (R87): no rule states what the register then holds. -/
opaque Config.errorData : Nat → W64

/-- Whether INC, 0.8 ns × (1 + FREQ × 2^−48), is held to the unit of 2^−48 ns above or below it (R482). -/
opaque Config.incUp : Int → Bool

/-- The control value that the servo applies in an evaluation (R483, R497): BW alone names the loop. -/
opaque Config.servo : Nat → Int

/-- θ0 of the oscillator model, in units of 2^−8 °C (R500): the spec gives it no value. -/
opaque Config.theta0 : Int

/-- The asymmetry constant of a port of a die, fused at test, in units of 2^−16 ns (R486). -/
opaque Config.asymmetry : Nat → Nat → Int

/-- The fit of the oscillator model in an evaluation (R500): `model0` and the term C of `model1`. -/
opaque Config.modelFit : Nat → W64
opaque Config.modelC : Nat → W32

/-! The fabric (R237 to R271, R294, R298). Which cell each bit of a configuration frame sets, and which wire feeds which
input, is the frame map of the tools and is not in the spec (R528): the maps are constants without a body. -/

/-- A signal that a quoin of a galley latches (R554): wire i to or from the neighbour on a side, wire i of a register stage of
a seam group, the output and the output enable of a pin. -/
inductive QSig where
  | borderOut (side i : Nat)
  | borderIn (side i : Nat)
  | seam (edge grp : Nat) (rx : Bool) (i : Nat)
  | pad (k : Nat)
  | padOe (k : Nat)
  deriving DecidableEq, Repr

/-- The configuration cells of a galley. A cluster is named by its column and its place from the north. -/
inductive Cell where
  /-- the 64 cells of a LUT: its truth table or its memory (R237, R240, R241) -/
  | lut (col cl k : Nat)
  /-- the form of a LUT: 0 LUT6, 1 two LUT5, 2 a 64 × 1 RAM, 3 two 32 × 1 RAMs -/
  | lutForm (col cl k : Nat)
  /-- a user register (R238): its clock input of the cluster, 1 for a synchronous reset, and its initial value -/
  | regClock (col cl r : Nat)
  | regSync (col cl r : Nat)
  | regInit (col cl r : Nat)
  /-- the network of a clock input of a cluster (R238) -/
  | clusterNet (col cl i : Nat)
  /-- where the carry chain of a cluster comes from (R239): 0 the cluster to the north, 1 and 2 a chain that starts with 0 or 1 -/
  | carryStart (col cl : Nat)
  /-- the select of a routing multiplexer (R245), and the wire register of a wire (R247) -/
  | select (w : Nat)
  | wireReg (w : Nat)
  | wireNet (w : Nat)
  /-- a stage of a seam group is used, and its network (R250, R253): edge 0 or 1, transmit or receive -/
  | seamUsed (edge grp : Nat) (rx : Bool)
  | seamNet (edge grp : Nat) (rx : Bool)
  /-- an arithmetic block (R254, R255): its mode, its pre-adder, its pipeline registers and its network -/
  | arithMode (col row : Nat)
  | arithPre (col row : Nat)
  | arithPipe (col row : Nat)
  | arithNet (col row : Nat)
  /-- a block RAM (R259, R261, R265, R266, R551) -/
  | ramMode (b : Nat)
  | ramAspect (b : Nat) (portB : Bool)
  | ramChoice (b : Nat) (portB : Bool)
  | ramNet (b : Nat) (portB : Bool)
  | ramAfull (b : Nat)
  | ramAempty (b : Nat)
  | ramRetain (b : Nat)
  /-- the fabric port that writes a port queue (R265, R287) -/
  | ramPort (b : Nat)
  /-- the declaration of a quoin (R554), by the signal that it latches -/
  | quoin (sig : QSig)
  /-- the network of the input (0) or output (1) register of a pad (R294): pins 0 to 5 of the galley are general, 6 to 9 quick -/
  | padNet (k dir : Nat)
  deriving DecidableEq, Repr

/-- The bits of a plane that a cell takes, least significant first. A cell whose code the configuration engine checks (R245, R246,
R554) lies in one frame: its frame, and the place of its bit i there. -/
opaque Config.frameMap : Cell → List Nat
opaque Config.codeFrame : Cell → Nat
opaque Config.codeBit : Cell → Nat → Nat

/-- A signal of a galley that can drive a routing wire, and what it shows. -/
inductive Net where
  /-- a routing wire of the galley -/
  | wire (w : Nat)
  /-- an output of a LUT: `second` is the second of two LUT5 or 32 × 1 RAMs -/
  | lut (col cl k : Nat) (second : Bool)
  | reg (col cl r : Nat)
  /-- the sum of bit i of the carry chain of a cluster, and the carry out of it -/
  | sum (col cl i : Nat)
  | carry (col cl i : Nat)
  /-- bit i of the outputs of an arithmetic block: P or P0 and P1, PREOVF at 96 and ACCOVF at 97 -/
  | arith (col row i : Nat)
  /-- bit i of the read data of a port of a block RAM; its CORR at 32 and POISON at 33 -/
  | ram (b : Nat) (portB : Bool) (i : Nat)
  /-- a flag of a queue controller: FULL, AFULL, EMPTY, AEMPTY, OVF, UNF -/
  | flag (b i : Nat)
  /-- a receive stage of a seam group -/
  | seam (edge grp i : Nat)
  /-- the input of a pin, and bit i of the word that its deserialiser holds -/
  | pad (k : Nat)
  | word (k i : Nat)
  /-- bit b of the word that lane i of the group of the galley has received (R442, R459) -/
  | lane (i b : Nat)
  /-- SYNC~ of receive link l in 8B/10B, of the group of the galley (R478) -/
  | jesdSync (l : Nat)
  /-- wire i from the neighbouring galley: 0 west, 1 east, 2 north, 3 south -/
  | border (side i : Nat)
  /-- an output of a unit that no other constructor names: a fabric port, an event line -/
  | other (i : Nat)
  deriving DecidableEq, Repr

/-- An input of a unit of a galley that a routing wire feeds. -/
inductive Sink where
  | lut (col cl k i : Nat)
  /-- the shared write address, write enable and the data of LUTs used as memory (R240) -/
  | lutWa (col cl i : Nat)
  | lutWe (col cl : Nat)
  | lutDi (col cl k : Nat) (second : Bool)
  | regCe (col cl r : Nat)
  | regRst (col cl r : Nat)
  /-- bit i of A (0), B (24), C (48), D (72), E (96) of an arithmetic block; 160 subtracts in the pre-adder, 161 chooses
  the sign, 162 is LOAD -/
  | arith (col row i : Nat)
  | seam (edge grp i : Nat)
  | pad (k : Nat)
  | padOe (k : Nat)
  | word (k i : Nat)
  | border (side i : Nat)
  /-- local clock k of the galley (R272) -/
  | localClk (k : Nat)
  /-- bit b of the JESD204C word that the design gives lane i of its group (R442) -/
  | laneOut (i b : Nat)
  /-- event net k of the galley (R679) -/
  | event (k : Nat)
  deriving DecidableEq, Repr

/-- The routing wires of a galley, the inputs of the multiplexer that drives a wire (R244, R245), whether its segment spans
four or more tiles (R247), and the wire that feeds an input. -/
opaque Config.wires : Nat
opaque Config.wireInputs : Nat → List Net
opaque Config.wireLong : Nat → Bool
opaque Config.feed : Sink → Nat

/-- The wires that cross from a galley to its neighbour on a side (R554). -/
opaque Config.borders : Nat → Nat

/-- The value of a combinational loop, and of a unit output that has no state here, applied to the counter of free values. -/
opaque Config.loopValue : Nat → Bool
opaque Config.otherNet : Nat → Nat → Bool

/-- Whether a queue flag that the other clock causes to fall falls at this edge, before its last (R269), applied to the counter of
free values and the flag. -/
opaque Config.flagFalls : Nat → Nat → Bool

/-- Whether a clock that is not a ratio-mode output has a rising edge, applied to the counter of free values and the clock: the
order of the edges of unrelated clocks is a matter of time (R272, R276). -/
opaque Config.edge : Nat → Nat → Bool

/-- The `noc` cycle, modulo its divider, in which a ratio-mode output of a divider has an edge with the `noc` clock (R276). -/
opaque Config.ratioPhase : Nat → Nat

/-- The frequency in kHz of a source of R272 that comes from outside the device or from the fabric, by die and source. -/
opaque Config.sourceKHz : Nat → Nat → Nat

/-- The level that the board drives on a pin, and the bits that a deserialiser receives. -/
opaque Config.padLevel : Nat → Nat → Bool
opaque Config.lineWord : Nat → Nat → Nat

/-- The link layers of JESD204C (R477), 64B/66B or 8B/10B and scrambled or not, are those of the standard, which the spec does not
hold: the word that the bits of a lane spell, none where a code or the CRC of a sync header fails, and the bits of a word. -/
opaque Config.linkDecode : Bool → Bool → List Bool → Option Nat
opaque Config.linkEncode : Bool → Bool → Nat → List Bool

/-- Symbol k that a lane receives, 0 to 3, and the state in which a pattern generator starts (R453). -/
opaque Config.lineSymbol : Nat → Nat → Nat
opaque Config.patternStart : Nat → Nat

/-- What a seam group, a serialised pin or a fabric port delivers when the design breaks the rule of its clocks (R252, R285,
R298). -/
opaque Config.seamJunk : Nat → Nat → Nat
opaque Config.wordJunk : Nat → Nat → Nat
opaque Config.portLost : Nat → Bool
opaque Config.portJunk : Nat → Nat

/-- Two ports on different networks meet at one byte (R263): the read returns the new byte, or the write of port A is
the one that stays. -/
opaque Config.portRace : Nat → Nat → Bool

/-! The functions of the guard core that the spec names and leaves to their own standards (R518, R520, R521, R575): a byte
string is its length and its value, low byte first. -/

/-- SHA-384. -/
opaque Config.sha384 : Nat → Nat → BitVec 384

/-- HMAC-SHA-384 of a key and a message. -/
opaque Config.hmac384 : Nat → Nat → Nat → Nat → BitVec 384

/-- The order of brainpoolP384r1. -/
opaque Config.curveOrder : Nat

/-- d × G: the x-coordinate and the parity of the y-coordinate. -/
opaque Config.curveBase : Nat → BitVec 384 × Bool

/-- The x-coordinate of d × E, for E given by its x-coordinate and parity. -/
opaque Config.curveMul : Nat → BitVec 384 → Bool → BitVec 384

/-- ECDSA on brainpoolP384r1: key x-coordinate, parity, digest, r and s. -/
opaque Config.ecdsaVerify : BitVec 384 → Bool → BitVec 384 → BitVec 384 → BitVec 384 → Bool

/-- A signature with a private key over a digest, applied to the counter of drawn free values: r and s. -/
opaque Config.ecdsaSign : Nat → Nat → BitVec 384 → BitVec 384 × BitVec 384

/-- AES-256-GCM decryption: key, iv, additional data (length, value), ciphertext (length, value), tag. -/
opaque Config.gcmOpen : Nat → Nat → Nat → Nat → Nat → Nat → Nat → Option Nat

/-- AES-256-GCM encryption: key, iv, additional data, plaintext; the ciphertext and the tag. -/
opaque Config.gcmSeal : Nat → Nat → Nat → Nat → Nat → Nat → Nat × Nat

/-- GCM-AES-XPN-256 (R467): the frame that the line carries for a record of R468, a packet number, a confidentiality offset and a
frame of some length; and the frame in one that the line carries, none where its ICV fails. -/
opaque Config.macsecSeal : Nat → Nat → Nat → Nat → Nat → Nat
opaque Config.macsecOpen : Nat → Nat → Nat → Nat → Nat → Option Nat

/-- PTP messages in a frame of some length, which IEEE 1588-2019 lays out (R466, R498): the KEYID of its AUTHENTICATION TLV; the ICV
of the message under a key; the frame with an ICV, and with a time added to its correctionField. -/
opaque Config.ptpKeyId : Nat → Nat → Option W32
opaque Config.ptpIcv : Nat → Nat → Nat → BitVec 128
opaque Config.ptpFill : Nat → Nat → BitVec 128 → Nat
opaque Config.ptpStep : Nat → Nat → Nat → Nat

/-- K_puf of the device (R575). -/
opaque Config.kPuf : Nat

/-- The fault-free signature of a target kind, which each stepping stores (R631). -/
opaque Config.golden : Nat → W32

/-- A challenge from the random source (R588). -/
opaque Config.challenge : Nat → BitVec 384

/-- What a flash byte holds when it is programmed without having been erased (R543). -/
opaque Config.flashOver : Nat → Nat → Byte

/-- What an attestation buffer holds after AERR (R584). -/
opaque Config.attestJunk : Nat → Nat

/-- KIND of `pkg.id.origin` for an initiator of no KIND: an Ethernet controller or a scrub engine (R42). -/
opaque Config.originKind : Nat → BitVec 3

/-- What `idkey` returns while the device has no identity (R575). -/
opaque Config.noIdentity : Nat → W64

/-- What DREG captures as data when its access has returned none (R649), applied to the counter of free values. -/
opaque Config.dregOpen : Nat → W64

/-- Whether an STU after a locked sequence that breaks R110 fails, applied to the counter of free values. -/
opaque Config.stuFails : Nat → Bool

end Sys2Proof
end

