-- ==== Sys2Proof/Machine/Encode.lean ====
section
/-! DEFINITION. The 32-bit words of the instructions (R92, R93, R95, R119, R145, R146): TVAL of causes 4, 5 and 6
holds the word (R121). -/

namespace Sys2Proof.Machine
open Sys2Proof

/-- The word of a format with its opcode, and with the field fn or f that selects the mnemonic. -/
def encR (fn : BitVec 6) (r : FmtR) : W32 := 0x00#6 ++ r.rd ++ r.ra ++ r.rb ++ r.rc ++ fn
def encI (op : BitVec 6) (r : FmtI) : W32 := op ++ r.rd ++ r.ra ++ r.imm
def encK (op : BitVec 6) (r : FmtK) : W32 := op ++ r.rd ++ r.z ++ r.q ++ r.imm
def encM (op : BitVec 6) (r : FmtM) : W32 := op ++ r.rd ++ r.ra ++ r.sz ++ r.imm
def encA (op : BitVec 6) (r : FmtA) : W32 :=
  op ++ r.rd ++ r.ra ++ r.rb ++ r.rc ++ r.afn ++ r.z ++ BitVec.ofBool r.dw
def encB (op : BitVec 6) (r : FmtB) : W32 := op ++ r.ra ++ r.rb ++ r.off
def encJ (r : FmtJ) : W32 := 0x28#6 ++ r.rd ++ r.off
def encL (r : FmtL) : W32 := 0x2C#6 ++ BitVec.ofBool r.lvl ++ r.ra ++ r.z ++ r.end12
def encLI (r : FmtLI) : W32 := 0x2D#6 ++ BitVec.ofBool r.lvl ++ r.count ++ r.end12
def encY (fn : BitVec 4) (r : FmtY) : W32 := 0x3F#6 ++ r.rd ++ r.ra ++ fn ++ r.sr
def encVR (fn : BitVec 6) (r : FmtVR) : W32 := 0x30#6 ++ r.vd ++ r.va ++ r.vb ++ r.pg ++ r.t ++ fn
def encVI (fn : BitVec 6) (r : FmtVI) : W32 := 0x31#6 ++ r.vd ++ r.va ++ r.imm ++ r.t ++ fn
def encVP (fn : BitVec 6) (r : FmtVP) : W32 := 0x32#6 ++ r.pd ++ r.z ++ r.va ++ r.vb ++ r.pg ++ r.t ++ fn
def encVM (op : BitVec 6) (r : FmtVM) : W32 := op ++ r.vd ++ r.ga ++ r.pg ++ r.imm
def encVA (op : BitVec 6) (f : BitVec 2) (r : FmtVA) : W32 :=
  op ++ r.ad ++ r.va ++ r.vb ++ r.vc ++ r.j ++ BitVec.ofBool r.z ++ BitVec.ofBool r.n ++ f
def encVX (fn : BitVec 6) (r : FmtVX) : W32 :=
  0x38#6 ++ r.vd ++ r.va ++ r.vb ++ r.rm ++ r.sc ++ BitVec.ofBool r.c ++ fn
def encVO (fn : BitVec 6) (r : FmtVO) : W32 := 0x39#6 ++ r.vd ++ r.ad ++ r.sh ++ r.rm ++ r.z ++ fn
def encVF (fn : BitVec 6) (r : FmtVF) : W32 := 0x3A#6 ++ r.vd ++ r.va ++ r.vb ++ r.pg ++ r.z ++ fn
def encVN1 (r : FmtVN1) : W32 := 0x3B#6 ++ r.ad ++ r.va ++ r.e ++ BitVec.ofBool r.f ++ r.z
def encVN2 (r : FmtVN2) : W32 := 0x3C#6 ++ r.vd ++ r.va ++ r.ad ++ r.e ++ r.beta ++ BitVec.ofBool r.nm ++ r.z
def encVG (fn : BitVec 6) (r : FmtVG) : W32 := 0x3D#6 ++ r.vd ++ r.va ++ r.lane ++ r.t ++ r.z ++ fn

/-- The word of a scalar-slot instruction. -/
def scalarWord : SInstr → W32
  | .add r => encR 0x00#6 r
  | .sub r => encR 0x01#6 r
  | .and r => encR 0x02#6 r
  | .or r => encR 0x03#6 r
  | .xor r => encR 0x04#6 r
  | .andn r => encR 0x05#6 r
  | .shl r => encR 0x06#6 r
  | .shr r => encR 0x07#6 r
  | .sra r => encR 0x08#6 r
  | .ror r => encR 0x09#6 r
  | .slt r => encR 0x0A#6 r
  | .sltu r => encR 0x0B#6 r
  | .min r => encR 0x0C#6 r
  | .max r => encR 0x0D#6 r
  | .minu r => encR 0x0E#6 r
  | .maxu r => encR 0x0F#6 r
  | .clz r => encR 0x10#6 r
  | .ctz r => encR 0x11#6 r
  | .pop r => encR 0x12#6 r
  | .ext r => encR 0x13#6 r
  | .sel r => encR 0x14#6 r
  | .mul r => encR 0x18#6 r
  | .mulhs r => encR 0x19#6 r
  | .mulhu r => encR 0x1A#6 r
  | .divs r => encR 0x1C#6 r
  | .divu r => encR 0x1D#6 r
  | .rems r => encR 0x1E#6 r
  | .remu r => encR 0x1F#6 r
  | .addi r => encI 0x01#6 r
  | .andi r => encI 0x02#6 r
  | .ori r => encI 0x03#6 r
  | .xori r => encI 0x04#6 r
  | .slti r => encI 0x05#6 r
  | .sltui r => encI 0x06#6 r
  | .shi r => encI 0x07#6 r
  | .mvz r => encK 0x08#6 r
  | .mvk r => encK 0x09#6 r
  | .mvn r => encK 0x0A#6 r
  | .l r => encM 0x10#6 r
  | .s r => encM 0x11#6 r
  | .cl r => encM 0x12#6 r
  | .cs r => encM 0x13#6 r
  | .xl r => encM 0x14#6 r
  | .xs r => encM 0x15#6 r
  | .cat r => encA 0x18#6 r
  | .xat r => encA 0x19#6 r
  | .lkl r => encA 0x1A#6 r
  | .stu r => encA 0x1B#6 r
  | .beq r => encB 0x20#6 r
  | .bne r => encB 0x21#6 r
  | .blt r => encB 0x22#6 r
  | .bge r => encB 0x23#6 r
  | .bltu r => encB 0x24#6 r
  | .bgeu r => encB 0x25#6 r
  | .jl r => encJ r
  | .jr r => encI 0x29#6 r
  | .loop r => encL r
  | .loopi r => encLI r
  | .srd r => encY 0#4 r
  | .swr r => encY 1#4 r
  | .fence r => encY 2#4 r
  | .sys r => encY 3#4 r
  | .brk r => encY 4#4 r
  | .rte r => encY 5#4 r
  | .halt r => encY 6#4 r
  | .wev r => encY 7#4 r
  | .illegal w => w

/-- The word of a vector-slot instruction. -/
def vectorWord : VInstr → W32
  | .vnop r => encVR 0x00#6 r
  | .vadd r => encVR 0x01#6 r
  | .vsub r => encVR 0x02#6 r
  | .vadds r => encVR 0x03#6 r
  | .vsubs r => encVR 0x04#6 r
  | .vmin r => encVR 0x05#6 r
  | .vmax r => encVR 0x06#6 r
  | .vabs r => encVR 0x07#6 r
  | .vneg r => encVR 0x08#6 r
  | .vand r => encVR 0x09#6 r
  | .vor r => encVR 0x0A#6 r
  | .vxor r => encVR 0x0B#6 r
  | .vsel r => encVR 0x0C#6 r
  | .vconj r => encVR 0x0D#6 r
  | .vperm r => encVR 0x10#6 r
  | .vzipl r => encVR 0x11#6 r
  | .vziph r => encVR 0x12#6 r
  | .vuzpe r => encVR 0x13#6 r
  | .vuzpo r => encVR 0x14#6 r
  | .vshl r => encVI 0x00#6 r
  | .vshls r => encVI 0x01#6 r
  | .vsra r => encVI 0x02#6 r
  | .vsrar r => encVI 0x03#6 r
  | .vsrl r => encVI 0x04#6 r
  | .vsplat r => encVI 0x05#6 r
  | .vceq r => encVP 0x00#6 r
  | .vclt r => encVP 0x01#6 r
  | .vcle r => encVP 0x02#6 r
  | .pand r => encVP 0x08#6 r
  | .por r => encVP 0x09#6 r
  | .pnot r => encVP 0x0A#6 r
  | .vbc r => encVG 0x00#6 r
  | .vext r => encVG 0x01#6 r
  | .vins r => encVG 0x02#6 r
  | .pfromg r => encVG 0x03#6 r
  | .ptog r => encVG 0x04#6 r
  | .vl r => encVM 0x33#6 r
  | .vl2 r => encVM 0x34#6 r
  | .vs r => encVM 0x35#6 r
  | .vmacH r => encVA 0x36#6 0#2 r
  | .vmacbH r => encVA 0x36#6 1#2 r
  | .vmacB r => encVA 0x36#6 2#2 r
  | .vmacbB r => encVA 0x36#6 3#2 r
  | .vcmac r => encVA 0x37#6 0#2 r
  | .vcmacb r => encVA 0x37#6 1#2 r
  | .vcmacbj r => encVA 0x37#6 2#2 r
  | .vcmulr r => encVX 0x00#6 r
  | .vbf4 r => encVX 0x01#6 r
  | .voutH r => encVO 0x00#6 r
  | .voutW r => encVO 0x01#6 r
  | .vaget r => encVO 0x02#6 r
  | .vaput r => encVO 0x03#6 r
  | .vared r => encVO 0x04#6 r
  | .vfmaF r => encVF 0x00#6 r
  | .vfmsF r => encVF 0x01#6 r
  | .vfmaBf r => encVF 0x02#6 r
  | .vfmsBf r => encVF 0x03#6 r
  | .vfmawBf r => encVF 0x04#6 r
  | .vfaddF r => encVF 0x05#6 r
  | .vfmulF r => encVF 0x06#6 r
  | .vfcvtBf r => encVF 0x07#6 r
  | .vmsa r => encVN1 r
  | .vmsr r => encVN2 r
  | .illegal w => w

/-! The instruction that a slot reads from a word (R47, R92, R93, R145, R146): a word that no row of its tables gives is
illegal there. -/


def decR (w : W32) : FmtR :=
  { rd := w.extractLsb' 21 5, ra := w.extractLsb' 16 5, rb := w.extractLsb' 11 5, rc := w.extractLsb' 6 5 }

def decI (w : W32) : FmtI :=
  { rd := w.extractLsb' 21 5, ra := w.extractLsb' 16 5, imm := w.extractLsb' 0 16 }

def decK (w : W32) : FmtK :=
  { rd := w.extractLsb' 21 5, z := w.extractLsb' 18 3, q := w.extractLsb' 16 2, imm := w.extractLsb' 0 16 }

def decM (w : W32) : FmtM :=
  { rd := w.extractLsb' 21 5, ra := w.extractLsb' 16 5, sz := w.extractLsb' 13 3, imm := w.extractLsb' 0 13 }

def decA (w : W32) : FmtA :=
  { rd := w.extractLsb' 21 5, ra := w.extractLsb' 16 5, rb := w.extractLsb' 11 5, rc := w.extractLsb' 6 5, afn := w.extractLsb' 3 3, z := w.extractLsb' 1 2, dw := w.getLsbD 0 }

def decB (w : W32) : FmtB :=
  { ra := w.extractLsb' 21 5, rb := w.extractLsb' 16 5, off := w.extractLsb' 0 16 }

def decJ (w : W32) : FmtJ :=
  { rd := w.extractLsb' 21 5, off := w.extractLsb' 0 21 }

def decL (w : W32) : FmtL :=
  { lvl := w.getLsbD 25, ra := w.extractLsb' 20 5, z := w.extractLsb' 12 8, end12 := w.extractLsb' 0 12 }

def decLI (w : W32) : FmtLI :=
  { lvl := w.getLsbD 25, count := w.extractLsb' 12 13, end12 := w.extractLsb' 0 12 }

def decY (w : W32) : FmtY :=
  { rd := w.extractLsb' 21 5, ra := w.extractLsb' 16 5, sr := w.extractLsb' 0 12 }

def decVR (w : W32) : FmtVR :=
  { vd := w.extractLsb' 21 5, va := w.extractLsb' 16 5, vb := w.extractLsb' 11 5, pg := w.extractLsb' 8 3, t := w.extractLsb' 6 2 }

def decVI (w : W32) : FmtVI :=
  { vd := w.extractLsb' 21 5, va := w.extractLsb' 16 5, imm := w.extractLsb' 8 8, t := w.extractLsb' 6 2 }

def decVP (w : W32) : FmtVP :=
  { pd := w.extractLsb' 23 3, z := w.extractLsb' 21 2, va := w.extractLsb' 16 5, vb := w.extractLsb' 11 5, pg := w.extractLsb' 8 3, t := w.extractLsb' 6 2 }

def decVM (w : W32) : FmtVM :=
  { vd := w.extractLsb' 21 5, ga := w.extractLsb' 16 5, pg := w.extractLsb' 13 3, imm := w.extractLsb' 0 13 }

def decVA (w : W32) : FmtVA :=
  { ad := w.extractLsb' 23 3, va := w.extractLsb' 18 5, vb := w.extractLsb' 13 5, vc := w.extractLsb' 8 5, j := w.extractLsb' 4 4, z := w.getLsbD 3, n := w.getLsbD 2 }

def decVX (w : W32) : FmtVX :=
  { vd := w.extractLsb' 21 5, va := w.extractLsb' 16 5, vb := w.extractLsb' 11 5, rm := w.extractLsb' 9 2, sc := w.extractLsb' 7 2, c := w.getLsbD 6 }

def decVO (w : W32) : FmtVO :=
  { vd := w.extractLsb' 21 5, ad := w.extractLsb' 18 3, sh := w.extractLsb' 12 6, rm := w.extractLsb' 10 2, z := w.extractLsb' 6 4 }

def decVF (w : W32) : FmtVF :=
  { vd := w.extractLsb' 21 5, va := w.extractLsb' 16 5, vb := w.extractLsb' 11 5, pg := w.extractLsb' 8 3, z := w.extractLsb' 6 2 }

def decVN1 (w : W32) : FmtVN1 :=
  { ad := w.extractLsb' 23 3, va := w.extractLsb' 18 5, e := w.extractLsb' 13 5, f := w.getLsbD 12, z := w.extractLsb' 0 12 }

def decVN2 (w : W32) : FmtVN2 :=
  { vd := w.extractLsb' 21 5, va := w.extractLsb' 16 5, ad := w.extractLsb' 13 3, e := w.extractLsb' 8 5, beta := w.extractLsb' 5 3, nm := w.getLsbD 4, z := w.extractLsb' 0 4 }

def decVG (w : W32) : FmtVG :=
  { vd := w.extractLsb' 21 5, va := w.extractLsb' 16 5, lane := w.extractLsb' 10 6, t := w.extractLsb' 8 2, z := w.extractLsb' 6 2 }

/-- The rows of one opcode, by fn or f. -/
def decodeScalarR (w : W32) : SInstr :=
  match (w.extractLsb' 0 6).toNat with
  | 0 => .add (decR w)
  | 1 => .sub (decR w)
  | 2 => .and (decR w)
  | 3 => .or (decR w)
  | 4 => .xor (decR w)
  | 5 => .andn (decR w)
  | 6 => .shl (decR w)
  | 7 => .shr (decR w)
  | 8 => .sra (decR w)
  | 9 => .ror (decR w)
  | 10 => .slt (decR w)
  | 11 => .sltu (decR w)
  | 12 => .min (decR w)
  | 13 => .max (decR w)
  | 14 => .minu (decR w)
  | 15 => .maxu (decR w)
  | 16 => .clz (decR w)
  | 17 => .ctz (decR w)
  | 18 => .pop (decR w)
  | 19 => .ext (decR w)
  | 20 => .sel (decR w)
  | 24 => .mul (decR w)
  | 25 => .mulhs (decR w)
  | 26 => .mulhu (decR w)
  | 28 => .divs (decR w)
  | 29 => .divu (decR w)
  | 30 => .rems (decR w)
  | 31 => .remu (decR w)
  | _ => .illegal w

/-- The rows of one opcode, by fn or f. -/
def decodeScalarY (w : W32) : SInstr :=
  match (w.extractLsb' 12 4).toNat with
  | 0 => .srd (decY w)
  | 1 => .swr (decY w)
  | 2 => .fence (decY w)
  | 3 => .sys (decY w)
  | 4 => .brk (decY w)
  | 5 => .rte (decY w)
  | 6 => .halt (decY w)
  | 7 => .wev (decY w)
  | _ => .illegal w

/-- The scalar-slot instruction of a word. -/
def decodeScalar (w : W32) : SInstr :=
  match (w.extractLsb' 26 6).toNat with
  | 0x00 => decodeScalarR w
  | 0x01 => .addi (decI w)
  | 0x02 => .andi (decI w)
  | 0x03 => .ori (decI w)
  | 0x04 => .xori (decI w)
  | 0x05 => .slti (decI w)
  | 0x06 => .sltui (decI w)
  | 0x07 => .shi (decI w)
  | 0x08 => .mvz (decK w)
  | 0x09 => .mvk (decK w)
  | 0x0A => .mvn (decK w)
  | 0x10 => .l (decM w)
  | 0x11 => .s (decM w)
  | 0x12 => .cl (decM w)
  | 0x13 => .cs (decM w)
  | 0x14 => .xl (decM w)
  | 0x15 => .xs (decM w)
  | 0x18 => .cat (decA w)
  | 0x19 => .xat (decA w)
  | 0x1A => .lkl (decA w)
  | 0x1B => .stu (decA w)
  | 0x20 => .beq (decB w)
  | 0x21 => .bne (decB w)
  | 0x22 => .blt (decB w)
  | 0x23 => .bge (decB w)
  | 0x24 => .bltu (decB w)
  | 0x25 => .bgeu (decB w)
  | 0x28 => .jl (decJ w)
  | 0x29 => .jr (decI w)
  | 0x2C => .loop (decL w)
  | 0x2D => .loopi (decLI w)
  | 0x3F => decodeScalarY w
  | _ => .illegal w

/-- The rows of one opcode, by fn or f. -/
def decodeVectorVR (w : W32) : VInstr :=
  match (w.extractLsb' 0 6).toNat with
  | 0 => .vnop (decVR w)
  | 1 => .vadd (decVR w)
  | 2 => .vsub (decVR w)
  | 3 => .vadds (decVR w)
  | 4 => .vsubs (decVR w)
  | 5 => .vmin (decVR w)
  | 6 => .vmax (decVR w)
  | 7 => .vabs (decVR w)
  | 8 => .vneg (decVR w)
  | 9 => .vand (decVR w)
  | 10 => .vor (decVR w)
  | 11 => .vxor (decVR w)
  | 12 => .vsel (decVR w)
  | 13 => .vconj (decVR w)
  | 16 => .vperm (decVR w)
  | 17 => .vzipl (decVR w)
  | 18 => .vziph (decVR w)
  | 19 => .vuzpe (decVR w)
  | 20 => .vuzpo (decVR w)
  | _ => .illegal w

/-- The rows of one opcode, by fn or f. -/
def decodeVectorVI (w : W32) : VInstr :=
  match (w.extractLsb' 0 6).toNat with
  | 0 => .vshl (decVI w)
  | 1 => .vshls (decVI w)
  | 2 => .vsra (decVI w)
  | 3 => .vsrar (decVI w)
  | 4 => .vsrl (decVI w)
  | 5 => .vsplat (decVI w)
  | _ => .illegal w

/-- The rows of one opcode, by fn or f. -/
def decodeVectorVP (w : W32) : VInstr :=
  match (w.extractLsb' 0 6).toNat with
  | 0 => .vceq (decVP w)
  | 1 => .vclt (decVP w)
  | 2 => .vcle (decVP w)
  | 8 => .pand (decVP w)
  | 9 => .por (decVP w)
  | 10 => .pnot (decVP w)
  | _ => .illegal w

/-- The rows of one opcode, by fn or f. -/
def decodeVectorVG (w : W32) : VInstr :=
  match (w.extractLsb' 0 6).toNat with
  | 0 => .vbc (decVG w)
  | 1 => .vext (decVG w)
  | 2 => .vins (decVG w)
  | 3 => .pfromg (decVG w)
  | 4 => .ptog (decVG w)
  | _ => .illegal w

/-- The rows of one opcode, by fn or f. -/
def decodeVectorVA36 (w : W32) : VInstr :=
  match (w.extractLsb' 0 2).toNat with
  | 0 => .vmacH (decVA w)
  | 1 => .vmacbH (decVA w)
  | 2 => .vmacB (decVA w)
  | 3 => .vmacbB (decVA w)
  | _ => .illegal w

/-- The rows of one opcode, by fn or f. -/
def decodeVectorVA37 (w : W32) : VInstr :=
  match (w.extractLsb' 0 2).toNat with
  | 0 => .vcmac (decVA w)
  | 1 => .vcmacb (decVA w)
  | 2 => .vcmacbj (decVA w)
  | _ => .illegal w

/-- The rows of one opcode, by fn or f. -/
def decodeVectorVX (w : W32) : VInstr :=
  match (w.extractLsb' 0 6).toNat with
  | 0 => .vcmulr (decVX w)
  | 1 => .vbf4 (decVX w)
  | _ => .illegal w

/-- The rows of one opcode, by fn or f. -/
def decodeVectorVO (w : W32) : VInstr :=
  match (w.extractLsb' 0 6).toNat with
  | 0 => .voutH (decVO w)
  | 1 => .voutW (decVO w)
  | 2 => .vaget (decVO w)
  | 3 => .vaput (decVO w)
  | 4 => .vared (decVO w)
  | _ => .illegal w

/-- The rows of one opcode, by fn or f. -/
def decodeVectorVF (w : W32) : VInstr :=
  match (w.extractLsb' 0 6).toNat with
  | 0 => .vfmaF (decVF w)
  | 1 => .vfmsF (decVF w)
  | 2 => .vfmaBf (decVF w)
  | 3 => .vfmsBf (decVF w)
  | 4 => .vfmawBf (decVF w)
  | 5 => .vfaddF (decVF w)
  | 6 => .vfmulF (decVF w)
  | 7 => .vfcvtBf (decVF w)
  | _ => .illegal w

/-- The vector-slot instruction of a word. -/
def decodeVector (w : W32) : VInstr :=
  match (w.extractLsb' 26 6).toNat with
  | 0x30 => decodeVectorVR w
  | 0x31 => decodeVectorVI w
  | 0x32 => decodeVectorVP w
  | 0x33 => .vl (decVM w)
  | 0x34 => .vl2 (decVM w)
  | 0x35 => .vs (decVM w)
  | 0x36 => decodeVectorVA36 w
  | 0x37 => decodeVectorVA37 w
  | 0x38 => decodeVectorVX w
  | 0x39 => decodeVectorVO w
  | 0x3A => decodeVectorVF w
  | 0x3B => .vmsa (decVN1 w)
  | 0x3C => .vmsr (decVN2 w)
  | 0x3D => decodeVectorVG w
  | _ => .illegal w

/-- A pair: the scalar-slot instruction in bits [31:0], the vector-slot instruction in bits [63:32] (R46). -/
def decodePair (w : W64) : SInstr × VInstr := (decodeScalar (w.extractLsb' 0 32), decodeVector (w.extractLsb' 32 32))

/-- The 64-bit word of a pair (R46). -/
def pairWord (p : SInstr × VInstr) : W64 := vectorWord p.2 ++ scalarWord p.1

end Sys2Proof.Machine
end

