-- ==== Sys2Proof/Machine/Flags.lean ====
section
/-! DEFINITION. Exact vector arithmetic and the flags it sets: elements (R130), saturation (R140), rounding (R141),
accumulation (R142) and floating point (R143). -/

namespace Sys2Proof.Machine
open Sys2Proof

/-- The bits of VSTAT (the table of sysreg VSTAT). -/
def SAT : Nat := 1
def AOV : Nat := 2
def FIV : Nat := 4
def FOF : Nat := 8
def FUF : Nat := 16

/-- Element k of width w (R130). -/
def elem {n : Nat} (w : Nat) (v : BitVec n) (k : Nat) : BitVec w := v.extractLsb' (w * k) w

/-- A register whose elements 0 to m − 1 are given and whose other bits are zero. -/
def packV (n w : Nat) (f : Nat → BitVec w) : Nat → BitVec n
  | 0 => 0
  | m + 1 => packV n w f m ||| ((f m).setWidth n <<< (w * m))

/-- The flags that m elements set together. -/
def flagsOf (f : Nat → Nat) : Nat → Nat
  | 0 => 0
  | m + 1 => flagsOf f m ||| f m

/-- A sum over 0 to m − 1. -/
def sumTo (f : Nat → Int) : Nat → Int
  | 0 => 0
  | m + 1 => sumTo f m + f m

/-- x clamped to w bits (R140). -/
def clamp (w : Nat) (x : Int) : Int := max (-(2 : Int) ^ (w - 1)) (min x ((2 : Int) ^ (w - 1) - 1))

/-- sat_w(x) as a word. -/
def satW (w : Nat) (x : Int) : BitVec w := BitVec.ofInt w (clamp w x)

/-- The flag of sat_w(x). -/
def satF (w : Nat) (x : Int) : Nat := if clamp w x = x then 0 else SAT

/-- rnd(x, sh, rm) (R141). -/
def rnd (x : Int) (sh : Nat) (rm : BitVec 2) : Int :=
  if sh = 0 then x
  else
    let p : Int := (2 : Int) ^ sh
    let h : Int := (2 : Int) ^ (sh - 1)
    match rm with
    | 0#2 => x / p
    | 1#2 => (x + h) / p
    | 2#2 =>
      let q := x / p
      let f := x - q * p
      if h < f then q + 1 else if f = h ∧ q % 2 = 1 then q + 1 else q
    | _ => x.sign * ((x.natAbs + h) / p)

/-- A 48-bit lane after an exact sum (R142). -/
def lane48 (x : Int) : BitVec 48 := BitVec.ofInt 48 x

/-- The flag of an accumulation (R142). -/
def aovF (x : Int) : Nat := if -(2 : Int) ^ 47 ≤ x ∧ x ≤ (2 : Int) ^ 47 - 1 then 0 else AOV

/-! Floating point (R143). A format is its significand width: 24 for F, 8 for BF; the fraction has one bit less and
the exponent eight bits. -/

/-- A floating-point operand, exactly: a finite value is `m * 2 ^ e` with its sign bit. -/
inductive FVal where
  | nan
  | inf (neg : Bool)
  | fin (neg : Bool) (m : Nat) (e : Int)
  deriving DecidableEq, Repr

/-- Read an operand: a subnormal is zero of the same sign (R143). -/
def fread (p : Nat) (v : Nat) : FVal :=
  let frac := v % 2 ^ (p - 1)
  let ex := v / 2 ^ (p - 1) % 256
  let neg := decide (v / 2 ^ (p + 7) % 2 = 1)
  if ex = 255 then (if frac = 0 then .inf neg else .nan)
  else if ex = 0 then .fin neg 0 0
  else .fin neg (2 ^ (p - 1) + frac) ((ex : Int) - 127 - ((p : Int) - 1))

def fsign (p : Nat) (neg : Bool) : Nat := if neg then 2 ^ (p + 7) else 0

/-- The canonical NaN (R143). -/
def fnan (p : Nat) : Nat := 255 * 2 ^ (p - 1) + 2 ^ (p - 2)

def finf (p : Nat) (neg : Bool) : Nat := fsign p neg + 255 * 2 ^ (p - 1)

/-- Round a nonzero exact value once, to nearest with ties to even, with the flags (R143). -/
def fround (p : Nat) (neg : Bool) (m : Nat) (e : Int) : Nat × Nat :=
  let n := m.log2 + 1
  let (q, e1) : Nat × Int :=
    if p < n then
      let sh := n - p
      let q0 := m / 2 ^ sh
      let r := m % 2 ^ sh
      let h := 2 ^ (sh - 1)
      let q1 := if h < r ∨ (r = h ∧ q0 % 2 = 1) then q0 + 1 else q0
      (q1, e + sh)
    else (m * 2 ^ (p - n), e - ((p : Int) - n))
  let (q, e1) : Nat × Int := if q = 2 ^ p then (2 ^ (p - 1), e1 + 1) else (q, e1)
  let ex := e1 + ((p : Int) - 1)
  if ex < -126 then (fsign p neg, FUF)
  else if 128 ≤ ex then (finf p neg, FOF)
  else (fsign p neg + (ex + 127).toNat * 2 ^ (p - 1) + (q - 2 ^ (p - 1)), 0)

/-- The exact product of two operands, or an invalid operation (R143). -/
def fmul (a b : FVal) : Option FVal :=
  match a, b with
  | .nan, _ => some .nan
  | _, .nan => some .nan
  | .inf x, .inf y => some (.inf (x ^^ y))
  | .inf x, .fin y m _ => if m = 0 then none else some (.inf (x ^^ y))
  | .fin x m _, .inf y => if m = 0 then none else some (.inf (x ^^ y))
  | .fin x m e, .fin y k f => some (.fin (x ^^ y) (m * k) (e + f))

def fneg : FVal → FVal
  | .nan => .nan
  | .inf x => .inf !x
  | .fin x m e => .fin (!x) m e

/-- One value rounded to precision p; a zero keeps its sign. -/
def fone (p : Nat) (a : FVal) : Nat × Nat :=
  match a with
  | .nan => (fnan p, 0)
  | .inf x => (finf p x, 0)
  | .fin x m e => if m = 0 then (fsign p x, 0) else fround p x m e

/-- The sum of two exact values, rounded once (R143). -/
def fadd (p : Nat) (a b : FVal) : Nat × Nat :=
  match a, b with
  | .nan, _ => (fnan p, 0)
  | _, .nan => (fnan p, 0)
  | .inf x, .inf y => if x = y then (finf p x, 0) else (fnan p, FIV)
  | .inf x, _ => (finf p x, 0)
  | _, .inf y => (finf p y, 0)
  | .fin x m e, .fin y k f =>
    let lo := min e f
    let sm : Int := (m * 2 ^ (e - lo).toNat : Nat)
    let sk : Int := (k * 2 ^ (f - lo).toNat : Nat)
    let t := (if x then -sm else sm) + (if y then -sk else sk)
    if t = 0 then (fsign p (m = 0 && k = 0 && x && y), 0)
    else fround p (t < 0) t.natAbs lo

/-- A product, rounded once. -/
def fmulR (p : Nat) (a b : FVal) : Nat × Nat :=
  match a, b with
  | .nan, _ => (fnan p, 0)
  | _, .nan => (fnan p, 0)
  | a, b => match fmul a b with
    | none => (fnan p, FIV)
    | some x => fone p x

/-- ±(a × b) + c, rounded once: a NaN operand sets no flag (R143). -/
def ffma (p : Nat) (sub : Bool) (a b c : FVal) : Nat × Nat :=
  if a = .nan ∨ b = .nan ∨ c = .nan then (fnan p, 0)
  else match fmul a b with
    | none => (fnan p, FIV)
    | some x => fadd p (if sub then fneg x else x) c

end Sys2Proof.Machine
end

