-- ==== Sys2Proof/Machine/RegTable.lean ====
section
/-! DEFINITION. The register table of the spec: every register its chapters define, with the
address, width, reset value and field access codes that its register table gives (R12 to R18, R38, R41). -/

namespace Sys2Proof.Machine

/-- The names of the registers of the spec, one for each register table. -/
inductive RegName where
  | idOrigin
  | caseEngCtl
  | caseEngStartPc
  | caseEngStatus
  | caseEngCycles
  | caseEngNdcycles
  | caseStart
  | ctlRun
  | ctlBoot
  | ctlStatus
  | caseImpSlot
  | caseImpLive
  | caseImpCtl
  | caseImpStatus
  | caseImpRevokes
  | caseDmaRing
  | caseDmaCtl
  | nocXportImpWord
  | nocXportLiveWord
  | nocXportImpCs
  | caseEngReplays
  | caseEngRlog
  | caseSpareCtl
  | caseSpareStatus
  | caseSpareRemap
  | galleyClk
  | galleyClksel
  | galleyUpllCfg
  | galleyUpllStatus
  | galleyFportCfg
  | galleyFportWin
  | ioPinCfg
  | ioQpinCfg
  | ioQpinDly
  | ioBankStatus
  | nocExit
  | nocTmoCfg
  | nocEstat
  | nocEcount
  | linkPortCtl
  | linkPortStatus
  | linkPortRxmap
  | linkPortRxmapHi
  | linkPortRings
  | linkPortErrs
  | linkPortCnt
  | linkPortFlags
  | photonLaser
  | photonLflags
  | photonInpwr
  | integEcnt
  | integElog
  | integEflags
  | integCmapClr
  | integScrubBase
  | integScrubEnd
  | integScrubSheet
  | integScrubCtl
  | integScrubStatus
  | ddrCfg
  | ddrCtl
  | ddrStatus
  | ddrSched
  | ddrTrain
  | ddrEcnt
  | ddrElog
  | ddrEflags
  | ddrMap
  | ddrMapcap
  | lgrpPll
  | lgrpLaneCfg
  | lgrpLaneTxeq
  | lgrpLaneRxeq
  | lgrpLanePat
  | lgrpLaneErrs
  | lgrpLaneBits
  | lgrpLaneHist
  | lgrpLaneStatus
  | lgrpLaneFlags
  | ethPortCfg
  | ethPortRxq
  | ethPortTxq
  | ethPortCnt
  | ethPortStatus
  | ethSaload
  | ethNet
  | pcieCfg
  | pcieStatus
  | pcieBar
  | lgrpJesdCfg
  | lgrpJesdStatus
  | timeNow
  | timeNowHi
  | timeCtl
  | timeFreq
  | timeStep
  | timeStatus
  | timeFlags
  | timeTod
  | timeVote
  | timeModel0
  | timeModel1
  | timeTsense
  | timeDac
  | timeCode
  | timeOut
  | timeUart
  | timeAuthload
  | timeAuthcnt
  | timeSrcCfg
  | timeSrcMeas
  | timeSrcStat
  | ethPortTsadj
  | guardFsel
  | guardFfail
  | guardPload
  | guardPstat
  | guardFop
  | guardFarg
  | guardFbuf
  | galleyQuoin
  | galleySwap
  | galleyDrain
  | caseQuoin
  | ctlXswap
  | secFsum
  | secSfloor
  | secReq
  | secSstat
  | secIdkey
  | secIdcert
  | secDchal
  | secDresp
  | secDctl
  | powerClkstat
  | powerClkflags
  | powerClkctl
  | powerDom
  | powerPdom
  | powerDie
  | powerRcause
  | bistCtl
  | bistStatus
  | bistSig
  | bistMfail
  | bistLockout
  | bistSrep
  | pcieDbgwin
  | debugAcc
  | debugData
  | debugCtl
  | debugHreq
  | debugHstat
  | caseEngWdog
  | ctlWdog
  | debugLoupe
  | eventPend
  | eventRaise
  | eventRoute
  | eventPerr
  | powerTemp
  | powerSupstat
  | idIdcode
  | secMbox
  deriving DecidableEq, Repr

/-- A field of a register: its lowest bit and its width (R6). -/
structure Fld where
  lo : Nat
  width : Nat
  deriving DecidableEq, Repr

/-- One register table: where its instances lie (R13: window and block base plus one stride for each
index), its width (R14), its reset value (R17) and its fields by access code (R18). A bit that no mask
holds is RO or reserved. `lock` is the lock bit of the RWL fields. -/
structure RegSpec where
  base  : Nat
  dims  : List (Nat × Nat)
  w64   : Bool
  reset : Nat
  rw    : Nat := 0
  w1c   : Nat := 0
  w1s   : Nat := 0
  rc    : Nat := 0
  wo    : Nat := 0
  rwl   : Nat := 0
  lock  : Nat := 0
  deriving DecidableEq, Repr

/-! The register tables, one definition for each name. -/

def Table.idOrigin : RegSpec :=
  { base := 0xb000100000, dims := [], w64 := false, reset := 0x0 }
def Table.caseEngCtl : RegSpec :=
  { base := 0xa001080000, dims := [(4, 0x100000000), (16, 0x100000), (8, 0x1000)], w64 := false, reset := 0x0, rw := 0x19, w1s := 0x6 }
def Table.caseEngStartPc : RegSpec :=
  { base := 0xa001080008, dims := [(4, 0x100000000), (16, 0x100000), (8, 0x1000)], w64 := false, reset := 0x0, rw := 0x7ff8 }
def Table.caseEngStatus : RegSpec :=
  { base := 0xa001080010, dims := [(4, 0x100000000), (16, 0x100000), (8, 0x1000)], w64 := false, reset := 0x0 }
def Table.caseEngCycles : RegSpec :=
  { base := 0xa001080018, dims := [(4, 0x100000000), (16, 0x100000), (8, 0x1000)], w64 := true, reset := 0x0 }
def Table.caseEngNdcycles : RegSpec :=
  { base := 0xa001080020, dims := [(4, 0x100000000), (16, 0x100000), (8, 0x1000)], w64 := false, reset := 0x0, rc := 0xffffffff }
def Table.caseStart : RegSpec :=
  { base := 0xa001088000, dims := [(4, 0x100000000), (16, 0x100000)], w64 := false, reset := 0x0, w1s := 0x1 }
def Table.ctlRun : RegSpec :=
  { base := 0xa000000000, dims := [(4, 0x100000000)], w64 := false, reset := 0x0, w1s := 0x6 }
def Table.ctlBoot : RegSpec :=
  { base := 0xa000000008, dims := [(4, 0x100000000)], w64 := true, reset := 0x0, rw := 0xfffffffffffc }
def Table.ctlStatus : RegSpec :=
  { base := 0xa000000010, dims := [(4, 0x100000000)], w64 := true, reset := 0x0 }
def Table.caseImpSlot : RegSpec :=
  { base := 0xa001000000, dims := [(4, 0x100000000), (16, 0x100000), (64, 0x8)], w64 := true, reset := 0xffffffffffffffff, rw := 0xffffffffffffffff }
def Table.caseImpLive : RegSpec :=
  { base := 0xa001000200, dims := [(4, 0x100000000), (16, 0x100000), (64, 0x8)], w64 := true, reset := 0xffffffffffffffff }
def Table.caseImpCtl : RegSpec :=
  { base := 0xa001000400, dims := [(4, 0x100000000), (16, 0x100000)], w64 := false, reset := 0x0, rw := 0xff00, w1s := 0x2 }
def Table.caseImpStatus : RegSpec :=
  { base := 0xa001000408, dims := [(4, 0x100000000), (16, 0x100000)], w64 := false, reset := 0x0, w1c := 0xe }
def Table.caseImpRevokes : RegSpec :=
  { base := 0xa001000410, dims := [(4, 0x100000000), (16, 0x100000)], w64 := false, reset := 0x0, rc := 0xffffffff }
def Table.caseDmaRing : RegSpec :=
  { base := 0xa00108b000, dims := [(4, 0x100000000), (16, 0x100000), (4, 0x100)], w64 := true, reset := 0x0, rw := 0xffc3c00fffc0 }
def Table.caseDmaCtl : RegSpec :=
  { base := 0xa00108b008, dims := [(4, 0x100000000), (16, 0x100000), (4, 0x100)], w64 := false, reset := 0x0, rw := 0x1, w1c := 0xc, w1s := 0x2 }
def Table.nocXportImpWord : RegSpec :=
  { base := 0xa000180000, dims := [(4, 0x100000000), (12, 0x1000), (4, 0x40), (8, 0x8)], w64 := true, reset := 0xffffffffffffffff, rw := 0xffffffffffffffff }
def Table.nocXportLiveWord : RegSpec :=
  { base := 0xa000180100, dims := [(4, 0x100000000), (12, 0x1000), (4, 0x40), (8, 0x8)], w64 := true, reset := 0xffffffffffffffff }
def Table.nocXportImpCs : RegSpec :=
  { base := 0xa000180200, dims := [(4, 0x100000000), (12, 0x1000)], w64 := false, reset := 0x0, w1c := 0xc, w1s := 0x1 }
def Table.caseEngReplays : RegSpec :=
  { base := 0xa001080028, dims := [(4, 0x100000000), (16, 0x100000), (8, 0x1000)], w64 := false, reset := 0x0, rc := 0xffffffff }
def Table.caseEngRlog : RegSpec :=
  { base := 0xa001080030, dims := [(4, 0x100000000), (16, 0x100000), (8, 0x1000)], w64 := true, reset := 0x0 }
def Table.caseSpareCtl : RegSpec :=
  { base := 0xa001089000, dims := [(4, 0x100000000), (16, 0x100000)], w64 := false, reset := 0x1, rw := 0x703, w1s := 0x1c }
def Table.caseSpareStatus : RegSpec :=
  { base := 0xa001089008, dims := [(4, 0x100000000), (16, 0x100000)], w64 := false, reset := 0x0, w1c := 0x1f80 }
def Table.caseSpareRemap : RegSpec :=
  { base := 0xa001089010, dims := [(4, 0x100000000), (16, 0x100000)], w64 := true, reset := 0x876543210 }
def Table.galleyClk : RegSpec :=
  { base := 0xa002000000, dims := [(4, 0x100000000), (16, 0x100000)], w64 := false, reset := 0x0, rw := 0xffffffff }
def Table.galleyClksel : RegSpec :=
  { base := 0xa002000100, dims := [(4, 0x100000000), (16, 0x100000), (32, 0x8)], w64 := false, reset := 0xffff, rw := 0xff, w1s := 0x20000 }
def Table.galleyUpllCfg : RegSpec :=
  { base := 0xa002000800, dims := [(4, 0x100000000), (16, 0x100000), (8, 0x10)], w64 := true, reset := 0x0, rw := 0xffffffffffffff07 }
def Table.galleyUpllStatus : RegSpec :=
  { base := 0xa002000808, dims := [(4, 0x100000000), (16, 0x100000), (8, 0x10)], w64 := false, reset := 0x0, w1c := 0x2 }
def Table.galleyFportCfg : RegSpec :=
  { base := 0xa002001000, dims := [(4, 0x100000000), (16, 0x100000), (4, 0x100)], w64 := false, reset := 0x0, rw := 0x77f }
def Table.galleyFportWin : RegSpec :=
  { base := 0xa002001008, dims := [(4, 0x100000000), (16, 0x100000), (4, 0x100)], w64 := true, reset := 0x0, rw := 0x1f3ffff000 }
def Table.ioPinCfg : RegSpec :=
  { base := 0xa000a00000, dims := [(4, 0x100000000), (96, 0x8)], w64 := false, reset := 0x0 }
def Table.ioQpinCfg : RegSpec :=
  { base := 0xa000a00400, dims := [(4, 0x100000000), (64, 0x8)], w64 := false, reset := 0x0 }
def Table.ioQpinDly : RegSpec :=
  { base := 0xa000a00800, dims := [(4, 0x100000000), (64, 0x8)], w64 := false, reset := 0x0, rw := 0x1ff01ff }
def Table.ioBankStatus : RegSpec :=
  { base := 0xa000a00c00, dims := [(4, 0x100000000), (8, 0x8)], w64 := false, reset := 0x0, w1c := 0x80 }
def Table.nocExit : RegSpec :=
  { base := 0xa000101000, dims := [(4, 0x100000000), (48, 0x8)], w64 := false, reset := 0x0, rw := 0xffffffff }
def Table.nocTmoCfg : RegSpec :=
  { base := 0xa000100000, dims := [(4, 0x100000000), (212, 0x8)], w64 := false, reset := 0x111, rw := 0xffff131f }
def Table.nocEstat : RegSpec :=
  { base := 0xa000102000, dims := [(4, 0x100000000)], w64 := false, reset := 0x0, w1c := 0x1f }
def Table.nocEcount : RegSpec :=
  { base := 0xa000102008, dims := [(4, 0x100000000)], w64 := true, reset := 0x0, rc := 0xffffffffffffffff }
def Table.linkPortCtl : RegSpec :=
  { base := 0xa000200000, dims := [(4, 0x100000000), (12, 0x1000)], w64 := false, reset := 0xa01400c0, rw := 0xf03f03c1, w1s := 0x6 }
def Table.linkPortStatus : RegSpec :=
  { base := 0xa000200008, dims := [(4, 0x100000000), (12, 0x1000)], w64 := true, reset := 0x200 }
def Table.linkPortRxmap : RegSpec :=
  { base := 0xa000200010, dims := [(4, 0x100000000), (12, 0x1000)], w64 := true, reset := 0x0 }
def Table.linkPortRxmapHi : RegSpec :=
  { base := 0xa000200018, dims := [(4, 0x100000000), (12, 0x1000)], w64 := false, reset := 0x0 }
def Table.linkPortRings : RegSpec :=
  { base := 0xa000200020, dims := [(4, 0x100000000), (12, 0x1000)], w64 := true, reset := 0x0 }
def Table.linkPortErrs : RegSpec :=
  { base := 0xa000200028, dims := [(4, 0x100000000), (12, 0x1000)], w64 := true, reset := 0x0, rc := 0xffffffffffffffff }
def Table.linkPortCnt : RegSpec :=
  { base := 0xa000200030, dims := [(4, 0x100000000), (12, 0x1000)], w64 := true, reset := 0x0, rc := 0xffffffffffffffff }
def Table.linkPortFlags : RegSpec :=
  { base := 0xa000200038, dims := [(4, 0x100000000), (12, 0x1000)], w64 := false, reset := 0x0, w1c := 0x1ff }
def Table.photonLaser : RegSpec :=
  { base := 0xb000200000, dims := [], w64 := false, reset := 0x2, rw := 0x3 }
def Table.photonLflags : RegSpec :=
  { base := 0xb000200008, dims := [], w64 := false, reset := 0x0, w1c := 0xf }
def Table.photonInpwr : RegSpec :=
  { base := 0xb000200010, dims := [(2, 0x8)], w64 := true, reset := 0x0 }
def Table.integEcnt : RegSpec :=
  { base := 0xa000900000, dims := [(4, 0x100000000)], w64 := true, reset := 0x0, rc := 0xffffffffffffffff }
def Table.integElog : RegSpec :=
  { base := 0xa000900008, dims := [(4, 0x100000000)], w64 := true, reset := 0x0 }
def Table.integEflags : RegSpec :=
  { base := 0xa000900010, dims := [(4, 0x100000000)], w64 := false, reset := 0x0, w1c := 0xf }
def Table.integCmapClr : RegSpec :=
  { base := 0xa000900100, dims := [(4, 0x100000000), (2, 0x10)], w64 := true, reset := 0x0, rw := 0x1fffff000fffff, w1s := 0x4000000000000000 }
def Table.integScrubBase : RegSpec :=
  { base := 0xa000900200, dims := [(4, 0x100000000)], w64 := true, reset := 0x0, rw := 0xffffffffffc0 }
def Table.integScrubEnd : RegSpec :=
  { base := 0xa000900208, dims := [(4, 0x100000000)], w64 := true, reset := 0x0, rw := 0xffffffffffc0 }
def Table.integScrubSheet : RegSpec :=
  { base := 0xa000900210, dims := [(4, 0x100000000)], w64 := true, reset := 0x0, rw := 0xffffffffffc0 }
def Table.integScrubCtl : RegSpec :=
  { base := 0xa000900218, dims := [(4, 0x100000000)], w64 := false, reset := 0x0, rw := 0xf04, w1s := 0x3 }
def Table.integScrubStatus : RegSpec :=
  { base := 0xa000900220, dims := [(4, 0x100000000)], w64 := false, reset := 0x0, w1c := 0x3c }
def Table.ddrCfg : RegSpec :=
  { base := 0xa000300000, dims := [(4, 0x100000000), (2, 0x40000)], w64 := false, reset := 0x0, rw := 0x7e393c33 }
def Table.ddrCtl : RegSpec :=
  { base := 0xa000300008, dims := [(4, 0x100000000), (2, 0x40000)], w64 := false, reset := 0x0, w1s := 0x3 }
def Table.ddrStatus : RegSpec :=
  { base := 0xa000300010, dims := [(4, 0x100000000), (2, 0x40000)], w64 := true, reset := 0x0 }
def Table.ddrSched : RegSpec :=
  { base := 0xa000300018, dims := [(4, 0x100000000), (2, 0x40000)], w64 := true, reset := 0x102801ff200802, rw := 0x3f3fffffffffff }
def Table.ddrTrain : RegSpec :=
  { base := 0xa000300020, dims := [(4, 0x100000000), (2, 0x40000)], w64 := false, reset := 0x40, rw := 0xffff }
def Table.ddrEcnt : RegSpec :=
  { base := 0xa000300100, dims := [(4, 0x100000000), (2, 0x40000)], w64 := true, reset := 0x0, rc := 0xffffffffffffffff }
def Table.ddrElog : RegSpec :=
  { base := 0xa000300108, dims := [(4, 0x100000000), (2, 0x40000)], w64 := true, reset := 0x0 }
def Table.ddrEflags : RegSpec :=
  { base := 0xa000300110, dims := [(4, 0x100000000), (2, 0x40000)], w64 := false, reset := 0x0, w1c := 0x3f }
def Table.ddrMap : RegSpec :=
  { base := 0xa000300200, dims := [(4, 0x100000000), (2, 0x40000), (4, 0x8)], w64 := true, reset := 0x0, rw := 0x873fff0fff0007ff }
def Table.ddrMapcap : RegSpec :=
  { base := 0xa000300220, dims := [(4, 0x100000000), (2, 0x40000)], w64 := false, reset := 0x0, rw := 0xfff }
def Table.lgrpPll : RegSpec :=
  { base := 0xa000400000, dims := [(4, 0x100000000), (3, 0x40000), (2, 0x8)], w64 := true, reset := 0x0, rw := 0x1ffffffff31, w1c := 0x8 }
def Table.lgrpLaneCfg : RegSpec :=
  { base := 0xa000401000, dims := [(4, 0x100000000), (3, 0x40000), (8, 0x100)], w64 := true, reset := 0x0, rw := 0x1ff3ff8007 }
def Table.lgrpLaneTxeq : RegSpec :=
  { base := 0xa000401008, dims := [(4, 0x100000000), (3, 0x40000), (8, 0x100)], w64 := false, reset := 0xcc000000, rw := 0xffffffff }
def Table.lgrpLaneRxeq : RegSpec :=
  { base := 0xa000401010, dims := [(4, 0x100000000), (3, 0x40000), (8, 0x100)], w64 := false, reset := 0x10000, rw := 0xfffb001f }
def Table.lgrpLanePat : RegSpec :=
  { base := 0xa000401018, dims := [(4, 0x100000000), (3, 0x40000), (8, 0x100)], w64 := false, reset := 0x0, rw := 0xf0f }
def Table.lgrpLaneErrs : RegSpec :=
  { base := 0xa000401020, dims := [(4, 0x100000000), (3, 0x40000), (8, 0x100)], w64 := true, reset := 0x0, rc := 0xffffffffffffffff }
def Table.lgrpLaneBits : RegSpec :=
  { base := 0xa000401028, dims := [(4, 0x100000000), (3, 0x40000), (8, 0x100)], w64 := true, reset := 0x0, rc := 0xffffffffffff }
def Table.lgrpLaneHist : RegSpec :=
  { base := 0xa000401030, dims := [(4, 0x100000000), (3, 0x40000), (8, 0x100)], w64 := false, reset := 0x0, rw := 0xffbc0000, w1s := 0x400000 }
def Table.lgrpLaneStatus : RegSpec :=
  { base := 0xa000401038, dims := [(4, 0x100000000), (3, 0x40000), (8, 0x100)], w64 := false, reset := 0x1 }
def Table.lgrpLaneFlags : RegSpec :=
  { base := 0xa000401040, dims := [(4, 0x100000000), (3, 0x40000), (8, 0x100)], w64 := false, reset := 0x0, w1c := 0x7f }
def Table.ethPortCfg : RegSpec :=
  { base := 0xa000500000, dims := [(4, 0x100000000), (4, 0x40000), (8, 0x1000)], w64 := false, reset := 0x0, rw := 0xfffffff0 }
def Table.ethPortRxq : RegSpec :=
  { base := 0xa000500100, dims := [(4, 0x100000000), (4, 0x40000), (8, 0x1000), (8, 0x8)], w64 := true, reset := 0x0, rw := 0xffffffffffff0000 }
def Table.ethPortTxq : RegSpec :=
  { base := 0xa000500180, dims := [(4, 0x100000000), (4, 0x40000), (8, 0x1000), (8, 0x8)], w64 := true, reset := 0x0, rw := 0xffffffffffff0000 }
def Table.ethPortCnt : RegSpec :=
  { base := 0xa000500200, dims := [(4, 0x100000000), (4, 0x40000), (8, 0x1000)], w64 := true, reset := 0x0, rc := 0xffffffffffffffff }
def Table.ethPortStatus : RegSpec :=
  { base := 0xa000500208, dims := [(4, 0x100000000), (4, 0x40000), (8, 0x1000)], w64 := false, reset := 0x0, w1c := 0xfc }
def Table.ethSaload : RegSpec :=
  { base := 0xa000508000, dims := [(4, 0x100000000), (4, 0x40000)], w64 := true, reset := 0x0, rw := 0x1ff8ffffffffffc0, w1c := 0x2000000000000000, w1s := 0x8000000000000000 }
def Table.ethNet : RegSpec :=
  { base := 0xa000509000, dims := [(4, 0x100000000), (4, 0x40000)], w64 := false, reset := 0x11, rw := 0xffff001f }
def Table.pcieCfg : RegSpec :=
  { base := 0xa000600000, dims := [(4, 0x100000000)], w64 := true, reset := 0xb0, rw := 0x1fffffffff00ff }
def Table.pcieStatus : RegSpec :=
  { base := 0xa000600008, dims := [(4, 0x100000000)], w64 := false, reset := 0x0, w1c := 0xe0000000 }
def Table.pcieBar : RegSpec :=
  { base := 0xa000600100, dims := [(4, 0x100000000), (3, 0x8)], w64 := true, reset := 0x0, rw := 0x3ffffffff00000 }
def Table.lgrpJesdCfg : RegSpec :=
  { base := 0xa000402000, dims := [(4, 0x100000000), (3, 0x40000), (4, 0x100)], w64 := true, reset := 0x0, rw := 0xfffffffffff80001 }
def Table.lgrpJesdStatus : RegSpec :=
  { base := 0xa000402008, dims := [(4, 0x100000000), (3, 0x40000), (4, 0x100)], w64 := false, reset := 0x0, w1c := 0x1c }
def Table.timeNow : RegSpec :=
  { base := 0xb000000000, dims := [], w64 := true, reset := 0x0 }
def Table.timeNowHi : RegSpec :=
  { base := 0xb000000008, dims := [], w64 := false, reset := 0x0 }
def Table.timeCtl : RegSpec :=
  { base := 0xb000000010, dims := [], w64 := false, reset := 0x18800000, rw := 0xfff0f809, w1s := 0xf0004 }
def Table.timeFreq : RegSpec :=
  { base := 0xb000000018, dims := [], w64 := true, reset := 0x0, rw := 0xffffffffff }
def Table.timeStep : RegSpec :=
  { base := 0xb000000020, dims := [], w64 := true, reset := 0x0, rw := 0xffffffffffffffff }
def Table.timeStatus : RegSpec :=
  { base := 0xb000000028, dims := [], w64 := false, reset := 0xf00 }
def Table.timeFlags : RegSpec :=
  { base := 0xb000000030, dims := [], w64 := false, reset := 0x0, w1c := 0x3d }
def Table.timeTod : RegSpec :=
  { base := 0xb000000038, dims := [], w64 := true, reset := 0x0, rw := 0x1ffffffffffff }
def Table.timeVote : RegSpec :=
  { base := 0xb000000040, dims := [], w64 := true, reset := 0x12c0508140fa0c8, rw := 0xffffffffffffffff }
def Table.timeModel0 : RegSpec :=
  { base := 0xb000000048, dims := [], w64 := true, reset := 0x0 }
def Table.timeModel1 : RegSpec :=
  { base := 0xb000000050, dims := [], w64 := true, reset := 0x0 }
def Table.timeTsense : RegSpec :=
  { base := 0xb000000058, dims := [], w64 := true, reset := 0x80048, rw := 0x18fff7f }
def Table.timeDac : RegSpec :=
  { base := 0xb000000060, dims := [], w64 := true, reset := 0x18140040, rw := 0xffffff3f3ffff0 }
def Table.timeCode : RegSpec :=
  { base := 0xb000000068, dims := [], w64 := false, reset := 0x0, rw := 0xffffff }
def Table.timeOut : RegSpec :=
  { base := 0xb000000070, dims := [], w64 := true, reset := 0x11640000, rw := 0x7fffffff3fffffff }
def Table.timeUart : RegSpec :=
  { base := 0xb000000078, dims := [], w64 := false, reset := 0x0, rw := 0xf0000, w1c := 0x40000000, rc := 0xff, wo := 0xff00 }
def Table.timeAuthload : RegSpec :=
  { base := 0xb000000080, dims := [], w64 := true, reset := 0x0, rw := 0xf00ffffffffffc0, w1c := 0x2000000000000000, w1s := 0x8000000000000000 }
def Table.timeAuthcnt : RegSpec :=
  { base := 0xb000000088, dims := [], w64 := false, reset := 0x0, rc := 0xffffffff }
def Table.timeSrcCfg : RegSpec :=
  { base := 0xb000000100, dims := [(4, 0x20)], w64 := false, reset := 0x0, rw := 0x7f37 }
def Table.timeSrcMeas : RegSpec :=
  { base := 0xb000000108, dims := [(4, 0x20)], w64 := true, reset := 0x0, wo := 0xffffffffffffffff }
def Table.timeSrcStat : RegSpec :=
  { base := 0xb000000110, dims := [(4, 0x20)], w64 := true, reset := 0x0, w1c := 0x700 }
def Table.ethPortTsadj : RegSpec :=
  { base := 0xa000500210, dims := [(4, 0x100000000), (4, 0x40000), (8, 0x1000)], w64 := true, reset := 0x0, rw := 0xffffffff00000006 }
def Table.guardFsel : RegSpec :=
  { base := 0xb000400000, dims := [], w64 := true, reset := 0x300 }
def Table.guardFfail : RegSpec :=
  { base := 0xb000400008, dims := [], w64 := true, reset := 0x0 }
def Table.guardPload : RegSpec :=
  { base := 0xb000400010, dims := [], w64 := true, reset := 0x0, rw := 0xffffffffffc0, w1s := 0x8000000000000000 }
def Table.guardPstat : RegSpec :=
  { base := 0xb000400018, dims := [], w64 := false, reset := 0x0, w1c := 0x1e }
def Table.guardFop : RegSpec :=
  { base := 0xb000400020, dims := [], w64 := false, reset := 0x0, rw := 0x3, w1c := 0x38000000, w1s := 0x80000010 }
def Table.guardFarg : RegSpec :=
  { base := 0xb000400028, dims := [], w64 := true, reset := 0x0, rw := 0xffffffffffffff }
def Table.guardFbuf : RegSpec :=
  { base := 0xb000400030, dims := [], w64 := true, reset := 0x0, rw := 0xffffffffffc0 }
def Table.galleyQuoin : RegSpec :=
  { base := 0xa002002000, dims := [(4, 0x100000000), (16, 0x100000)], w64 := false, reset := 0x3, rw := 0x1 }
def Table.galleySwap : RegSpec :=
  { base := 0xa002002008, dims := [(4, 0x100000000), (16, 0x100000)], w64 := false, reset := 0x0, w1c := 0x8, w1s := 0x2 }
def Table.galleyDrain : RegSpec :=
  { base := 0xa002002010, dims := [(4, 0x100000000), (16, 0x100000)], w64 := true, reset := 0x0, rw := 0xfffff00000001, w1c := 0x40000000 }
def Table.caseQuoin : RegSpec :=
  { base := 0xa00108a000, dims := [(4, 0x100000000), (16, 0x100000)], w64 := false, reset := 0x0, rw := 0x1 }
def Table.ctlXswap : RegSpec :=
  { base := 0xa000000100, dims := [(4, 0x100000000)], w64 := true, reset := 0x0, rw := 0xffff0f000000, w1c := 0xe0, w1s := 0x1 }
def Table.secFsum : RegSpec :=
  { base := 0xb000500000, dims := [], w64 := true, reset := 0x0 }
def Table.secSfloor : RegSpec :=
  { base := 0xb000500008, dims := [], w64 := false, reset := 0x0 }
def Table.secReq : RegSpec :=
  { base := 0xb000500010, dims := [(2, 0x8)], w64 := true, reset := 0x0, rw := 0xffffffffffc0, w1s := 0x8000000000000000 }
def Table.secSstat : RegSpec :=
  { base := 0xb000500020, dims := [], w64 := false, reset := 0x0, w1c := 0x7e }
def Table.secIdkey : RegSpec :=
  { base := 0xb000500040, dims := [(7, 0x8)], w64 := true, reset := 0x0 }
def Table.secIdcert : RegSpec :=
  { base := 0xb000500080, dims := [(12, 0x8)], w64 := true, reset := 0x0 }
def Table.secDchal : RegSpec :=
  { base := 0xb000500100, dims := [(6, 0x8)], w64 := true, reset := 0x0 }
def Table.secDresp : RegSpec :=
  { base := 0xb000500140, dims := [(32, 0x8)], w64 := true, reset := 0x0, wo := 0xffffffffffffffff }
def Table.secDctl : RegSpec :=
  { base := 0xb000500240, dims := [], w64 := false, reset := 0x0, w1s := 0x3 }
def Table.powerClkstat : RegSpec :=
  { base := 0xb000308000, dims := [], w64 := false, reset := 0x0 }
def Table.powerClkflags : RegSpec :=
  { base := 0xb000308008, dims := [], w64 := false, reset := 0x0, w1c := 0xf }
def Table.powerClkctl : RegSpec :=
  { base := 0xb000308010, dims := [], w64 := false, reset := 0x0, rw := 0x1f }
def Table.powerDom : RegSpec :=
  { base := 0xa000800000, dims := [(4, 0x100000000), (39, 0x8)], w64 := false, reset := 0x21, rw := 0x1, w1c := 0x300, w1s := 0x2 }
def Table.powerPdom : RegSpec :=
  { base := 0xb000300000, dims := [(4, 0x8)], w64 := false, reset := 0x21, rw := 0x1, w1c := 0x300, w1s := 0x2 }
def Table.powerDie : RegSpec :=
  { base := 0xb000300100, dims := [(4, 0x8)], w64 := false, reset := 0x105, rw := 0x1, w1c := 0xc0, w1s := 0x2 }
def Table.powerRcause : RegSpec :=
  { base := 0xb000300200, dims := [], w64 := false, reset := 0x1, w1s := 0x10 }
def Table.bistCtl : RegSpec :=
  { base := 0xa000b00000, dims := [(4, 0x100000000)], w64 := false, reset := 0x0, rw := 0x30ff7, w1s := 0xc0000000 }
def Table.bistStatus : RegSpec :=
  { base := 0xa000b00008, dims := [(4, 0x100000000)], w64 := false, reset := 0x0, w1c := 0x3f0 }
def Table.bistSig : RegSpec :=
  { base := 0xa000b00010, dims := [(4, 0x100000000)], w64 := true, reset := 0x0 }
def Table.bistMfail : RegSpec :=
  { base := 0xa000b00018, dims := [(4, 0x100000000)], w64 := true, reset := 0x0 }
def Table.bistLockout : RegSpec :=
  { base := 0xa000b00020, dims := [(4, 0x100000000)], w64 := false, reset := 0x0 }
def Table.bistSrep : RegSpec :=
  { base := 0xa000b00100, dims := [(4, 0x100000000), (64, 0x8)], w64 := false, reset := 0x0, rw := 0xffffffff }
def Table.pcieDbgwin : RegSpec :=
  { base := 0xa000600200, dims := [(4, 0x100000000)], w64 := false, reset := 0x0, rw := 0x1 }
def Table.debugAcc : RegSpec :=
  { base := 0xb000600100, dims := [], w64 := true, reset := 0x0, rw := 0x3e3ffffffffffff, w1s := 0x8000000000000000 }
def Table.debugData : RegSpec :=
  { base := 0xb000600108, dims := [], w64 := true, reset := 0x0, rw := 0xffffffffffffffff }
def Table.debugCtl : RegSpec :=
  { base := 0xb000600000, dims := [], w64 := false, reset := 0x0, rw := 0x1 }
def Table.debugHreq : RegSpec :=
  { base := 0xb000600008, dims := [], w64 := true, reset := 0x0, rw := 0x7030000000001ff, w1s := 0x8000000000000000 }
def Table.debugHstat : RegSpec :=
  { base := 0xb000600010, dims := [], w64 := false, reset := 0x0, w1c := 0xf }
def Table.caseEngWdog : RegSpec :=
  { base := 0xa001080038, dims := [(4, 0x100000000), (16, 0x100000), (8, 0x1000)], w64 := true, reset := 0x0, w1c := 0x40000000, w1s := 0x80000000, rwl := 0xffffff, lock := 31 }
def Table.ctlWdog : RegSpec :=
  { base := 0xa000000018, dims := [(4, 0x100000000)], w64 := true, reset := 0x0, w1c := 0x40000000, w1s := 0x80000000, rwl := 0xffffff, lock := 31 }
def Table.debugLoupe : RegSpec :=
  { base := 0xb000601000, dims := [(4, 0x100), (16, 0x8)], w64 := true, reset := 0x0, rw := 0x83ff000000ffffff }
def Table.eventPend : RegSpec :=
  { base := 0xa000700000, dims := [(4, 0x100000000), (16, 0x8)], w64 := false, reset := 0x0, w1c := 0xffffffff }
def Table.eventRaise : RegSpec :=
  { base := 0xa000700100, dims := [(4, 0x100000000)], w64 := false, reset := 0x0, rw := 0x1ff, w1s := 0x80000000 }
def Table.eventRoute : RegSpec :=
  { base := 0xa000701000, dims := [(4, 0x100000000), (512, 0x8)], w64 := false, reset := 0x0, rw := 0xb1ffe07f }
def Table.eventPerr : RegSpec :=
  { base := 0xa000702000, dims := [(4, 0x100000000), (129, 0x8)], w64 := false, reset := 0x0, rc := 0xffffffff }
def Table.powerTemp : RegSpec :=
  { base := 0xb000300400, dims := [(4, 0x8)], w64 := false, reset := 0x69, rw := 0xff, w1c := 0x200 }
def Table.powerSupstat : RegSpec :=
  { base := 0xb000300300, dims := [], w64 := false, reset := 0x0 }
def Table.idIdcode : RegSpec :=
  { base := 0xb000100008, dims := [], w64 := true, reset := 0x0 }
def Table.secMbox : RegSpec :=
  { base := 0xb000501000, dims := [(64, 0x8)], w64 := true, reset := 0x0, rw := 0xffffffffffffffff }

/-- The register table of each name. -/
def RegName.spec : RegName → RegSpec
  | .idOrigin => Table.idOrigin
  | .caseEngCtl => Table.caseEngCtl
  | .caseEngStartPc => Table.caseEngStartPc
  | .caseEngStatus => Table.caseEngStatus
  | .caseEngCycles => Table.caseEngCycles
  | .caseEngNdcycles => Table.caseEngNdcycles
  | .caseStart => Table.caseStart
  | .ctlRun => Table.ctlRun
  | .ctlBoot => Table.ctlBoot
  | .ctlStatus => Table.ctlStatus
  | .caseImpSlot => Table.caseImpSlot
  | .caseImpLive => Table.caseImpLive
  | .caseImpCtl => Table.caseImpCtl
  | .caseImpStatus => Table.caseImpStatus
  | .caseImpRevokes => Table.caseImpRevokes
  | .caseDmaRing => Table.caseDmaRing
  | .caseDmaCtl => Table.caseDmaCtl
  | .nocXportImpWord => Table.nocXportImpWord
  | .nocXportLiveWord => Table.nocXportLiveWord
  | .nocXportImpCs => Table.nocXportImpCs
  | .caseEngReplays => Table.caseEngReplays
  | .caseEngRlog => Table.caseEngRlog
  | .caseSpareCtl => Table.caseSpareCtl
  | .caseSpareStatus => Table.caseSpareStatus
  | .caseSpareRemap => Table.caseSpareRemap
  | .galleyClk => Table.galleyClk
  | .galleyClksel => Table.galleyClksel
  | .galleyUpllCfg => Table.galleyUpllCfg
  | .galleyUpllStatus => Table.galleyUpllStatus
  | .galleyFportCfg => Table.galleyFportCfg
  | .galleyFportWin => Table.galleyFportWin
  | .ioPinCfg => Table.ioPinCfg
  | .ioQpinCfg => Table.ioQpinCfg
  | .ioQpinDly => Table.ioQpinDly
  | .ioBankStatus => Table.ioBankStatus
  | .nocExit => Table.nocExit
  | .nocTmoCfg => Table.nocTmoCfg
  | .nocEstat => Table.nocEstat
  | .nocEcount => Table.nocEcount
  | .linkPortCtl => Table.linkPortCtl
  | .linkPortStatus => Table.linkPortStatus
  | .linkPortRxmap => Table.linkPortRxmap
  | .linkPortRxmapHi => Table.linkPortRxmapHi
  | .linkPortRings => Table.linkPortRings
  | .linkPortErrs => Table.linkPortErrs
  | .linkPortCnt => Table.linkPortCnt
  | .linkPortFlags => Table.linkPortFlags
  | .photonLaser => Table.photonLaser
  | .photonLflags => Table.photonLflags
  | .photonInpwr => Table.photonInpwr
  | .integEcnt => Table.integEcnt
  | .integElog => Table.integElog
  | .integEflags => Table.integEflags
  | .integCmapClr => Table.integCmapClr
  | .integScrubBase => Table.integScrubBase
  | .integScrubEnd => Table.integScrubEnd
  | .integScrubSheet => Table.integScrubSheet
  | .integScrubCtl => Table.integScrubCtl
  | .integScrubStatus => Table.integScrubStatus
  | .ddrCfg => Table.ddrCfg
  | .ddrCtl => Table.ddrCtl
  | .ddrStatus => Table.ddrStatus
  | .ddrSched => Table.ddrSched
  | .ddrTrain => Table.ddrTrain
  | .ddrEcnt => Table.ddrEcnt
  | .ddrElog => Table.ddrElog
  | .ddrEflags => Table.ddrEflags
  | .ddrMap => Table.ddrMap
  | .ddrMapcap => Table.ddrMapcap
  | .lgrpPll => Table.lgrpPll
  | .lgrpLaneCfg => Table.lgrpLaneCfg
  | .lgrpLaneTxeq => Table.lgrpLaneTxeq
  | .lgrpLaneRxeq => Table.lgrpLaneRxeq
  | .lgrpLanePat => Table.lgrpLanePat
  | .lgrpLaneErrs => Table.lgrpLaneErrs
  | .lgrpLaneBits => Table.lgrpLaneBits
  | .lgrpLaneHist => Table.lgrpLaneHist
  | .lgrpLaneStatus => Table.lgrpLaneStatus
  | .lgrpLaneFlags => Table.lgrpLaneFlags
  | .ethPortCfg => Table.ethPortCfg
  | .ethPortRxq => Table.ethPortRxq
  | .ethPortTxq => Table.ethPortTxq
  | .ethPortCnt => Table.ethPortCnt
  | .ethPortStatus => Table.ethPortStatus
  | .ethSaload => Table.ethSaload
  | .ethNet => Table.ethNet
  | .pcieCfg => Table.pcieCfg
  | .pcieStatus => Table.pcieStatus
  | .pcieBar => Table.pcieBar
  | .lgrpJesdCfg => Table.lgrpJesdCfg
  | .lgrpJesdStatus => Table.lgrpJesdStatus
  | .timeNow => Table.timeNow
  | .timeNowHi => Table.timeNowHi
  | .timeCtl => Table.timeCtl
  | .timeFreq => Table.timeFreq
  | .timeStep => Table.timeStep
  | .timeStatus => Table.timeStatus
  | .timeFlags => Table.timeFlags
  | .timeTod => Table.timeTod
  | .timeVote => Table.timeVote
  | .timeModel0 => Table.timeModel0
  | .timeModel1 => Table.timeModel1
  | .timeTsense => Table.timeTsense
  | .timeDac => Table.timeDac
  | .timeCode => Table.timeCode
  | .timeOut => Table.timeOut
  | .timeUart => Table.timeUart
  | .timeAuthload => Table.timeAuthload
  | .timeAuthcnt => Table.timeAuthcnt
  | .timeSrcCfg => Table.timeSrcCfg
  | .timeSrcMeas => Table.timeSrcMeas
  | .timeSrcStat => Table.timeSrcStat
  | .ethPortTsadj => Table.ethPortTsadj
  | .guardFsel => Table.guardFsel
  | .guardFfail => Table.guardFfail
  | .guardPload => Table.guardPload
  | .guardPstat => Table.guardPstat
  | .guardFop => Table.guardFop
  | .guardFarg => Table.guardFarg
  | .guardFbuf => Table.guardFbuf
  | .galleyQuoin => Table.galleyQuoin
  | .galleySwap => Table.galleySwap
  | .galleyDrain => Table.galleyDrain
  | .caseQuoin => Table.caseQuoin
  | .ctlXswap => Table.ctlXswap
  | .secFsum => Table.secFsum
  | .secSfloor => Table.secSfloor
  | .secReq => Table.secReq
  | .secSstat => Table.secSstat
  | .secIdkey => Table.secIdkey
  | .secIdcert => Table.secIdcert
  | .secDchal => Table.secDchal
  | .secDresp => Table.secDresp
  | .secDctl => Table.secDctl
  | .powerClkstat => Table.powerClkstat
  | .powerClkflags => Table.powerClkflags
  | .powerClkctl => Table.powerClkctl
  | .powerDom => Table.powerDom
  | .powerPdom => Table.powerPdom
  | .powerDie => Table.powerDie
  | .powerRcause => Table.powerRcause
  | .bistCtl => Table.bistCtl
  | .bistStatus => Table.bistStatus
  | .bistSig => Table.bistSig
  | .bistMfail => Table.bistMfail
  | .bistLockout => Table.bistLockout
  | .bistSrep => Table.bistSrep
  | .pcieDbgwin => Table.pcieDbgwin
  | .debugAcc => Table.debugAcc
  | .debugData => Table.debugData
  | .debugCtl => Table.debugCtl
  | .debugHreq => Table.debugHreq
  | .debugHstat => Table.debugHstat
  | .caseEngWdog => Table.caseEngWdog
  | .ctlWdog => Table.ctlWdog
  | .debugLoupe => Table.debugLoupe
  | .eventPend => Table.eventPend
  | .eventRaise => Table.eventRaise
  | .eventRoute => Table.eventRoute
  | .eventPerr => Table.eventPerr
  | .powerTemp => Table.powerTemp
  | .powerSupstat => Table.powerSupstat
  | .idIdcode => Table.idIdcode
  | .secMbox => Table.secMbox

/-! Every register name, in the order of the spec's files. -/

def RegName.part0 : List RegName :=
  [.idOrigin, .caseEngCtl, .caseEngStartPc, .caseEngStatus, .caseEngCycles, .caseEngNdcycles, .caseStart, .ctlRun, .ctlBoot, .ctlStatus, .caseImpSlot, .caseImpLive, .caseImpCtl, .caseImpStatus, .caseImpRevokes, .caseDmaRing]
def RegName.part1 : List RegName :=
  [.caseDmaCtl, .nocXportImpWord, .nocXportLiveWord, .nocXportImpCs, .caseEngReplays, .caseEngRlog, .caseSpareCtl, .caseSpareStatus, .caseSpareRemap, .galleyClk, .galleyClksel, .galleyUpllCfg, .galleyUpllStatus, .galleyFportCfg, .galleyFportWin, .ioPinCfg]
def RegName.part2 : List RegName :=
  [.ioQpinCfg, .ioQpinDly, .ioBankStatus, .nocExit, .nocTmoCfg, .nocEstat, .nocEcount, .linkPortCtl, .linkPortStatus, .linkPortRxmap, .linkPortRxmapHi, .linkPortRings, .linkPortErrs, .linkPortCnt, .linkPortFlags, .photonLaser]
def RegName.part3 : List RegName :=
  [.photonLflags, .photonInpwr, .integEcnt, .integElog, .integEflags, .integCmapClr, .integScrubBase, .integScrubEnd, .integScrubSheet, .integScrubCtl, .integScrubStatus, .ddrCfg, .ddrCtl, .ddrStatus, .ddrSched, .ddrTrain]
def RegName.part4 : List RegName :=
  [.ddrEcnt, .ddrElog, .ddrEflags, .ddrMap, .ddrMapcap, .lgrpPll, .lgrpLaneCfg, .lgrpLaneTxeq, .lgrpLaneRxeq, .lgrpLanePat, .lgrpLaneErrs, .lgrpLaneBits, .lgrpLaneHist, .lgrpLaneStatus, .lgrpLaneFlags, .ethPortCfg]
def RegName.part5 : List RegName :=
  [.ethPortRxq, .ethPortTxq, .ethPortCnt, .ethPortStatus, .ethSaload, .ethNet, .pcieCfg, .pcieStatus, .pcieBar, .lgrpJesdCfg, .lgrpJesdStatus, .timeNow, .timeNowHi, .timeCtl, .timeFreq, .timeStep]
def RegName.part6 : List RegName :=
  [.timeStatus, .timeFlags, .timeTod, .timeVote, .timeModel0, .timeModel1, .timeTsense, .timeDac, .timeCode, .timeOut, .timeUart, .timeAuthload, .timeAuthcnt, .timeSrcCfg, .timeSrcMeas, .timeSrcStat]
def RegName.part7 : List RegName :=
  [.ethPortTsadj, .guardFsel, .guardFfail, .guardPload, .guardPstat, .guardFop, .guardFarg, .guardFbuf, .galleyQuoin, .galleySwap, .galleyDrain, .caseQuoin, .ctlXswap, .secFsum, .secSfloor, .secReq]
def RegName.part8 : List RegName :=
  [.secSstat, .secIdkey, .secIdcert, .secDchal, .secDresp, .secDctl, .powerClkstat, .powerClkflags, .powerClkctl, .powerDom, .powerPdom, .powerDie, .powerRcause, .bistCtl, .bistStatus, .bistSig]
def RegName.part9 : List RegName :=
  [.bistMfail, .bistLockout, .bistSrep, .pcieDbgwin, .debugAcc, .debugData, .debugCtl, .debugHreq, .debugHstat, .caseEngWdog, .ctlWdog, .debugLoupe, .eventPend, .eventRaise, .eventRoute, .eventPerr]
def RegName.part10 : List RegName :=
  [.powerTemp, .powerSupstat, .idIdcode, .secMbox]

def RegName.all : List RegName :=
  List.flatten [RegName.part0, RegName.part1, RegName.part2, RegName.part3, RegName.part4, RegName.part5, RegName.part6, RegName.part7, RegName.part8, RegName.part9, RegName.part10]

/-! The named fields of the register tables. -/

def F.idOrigin_ENGINE : Fld := ⟨11, 9⟩
def F.idOrigin_GALLEY : Fld := ⟨7, 4⟩
def F.idOrigin_KIND : Fld := ⟨4, 3⟩
def F.idOrigin_DIE : Fld := ⟨0, 2⟩
def F.caseEngCtl_CASE_MODE : Fld := ⟨4, 1⟩
def F.caseEngCtl_OVERLAY : Fld := ⟨3, 1⟩
def F.caseEngCtl_STOP : Fld := ⟨2, 1⟩
def F.caseEngCtl_GO : Fld := ⟨1, 1⟩
def F.caseEngCtl_ARM : Fld := ⟨0, 1⟩
def F.caseEngStartPc_START_PC : Fld := ⟨3, 12⟩
def F.caseEngStatus_CAUSE : Fld := ⟨24, 8⟩
def F.caseEngStatus_PC : Fld := ⟨6, 15⟩
def F.caseEngStatus_PRIV : Fld := ⟨3, 1⟩
def F.caseEngStatus_STATE : Fld := ⟨0, 3⟩
def F.caseEngCycles_COUNT : Fld := ⟨0, 64⟩
def F.caseEngNdcycles_ND : Fld := ⟨0, 32⟩
def F.caseStart_GO : Fld := ⟨0, 1⟩
def F.ctlRun_STOP : Fld := ⟨2, 1⟩
def F.ctlRun_GO : Fld := ⟨1, 1⟩
def F.ctlBoot_BOOT_PC : Fld := ⟨2, 46⟩
def F.ctlStatus_CAUSE : Fld := ⟨56, 8⟩
def F.ctlStatus_PRIV : Fld := ⟨51, 2⟩
def F.ctlStatus_STATE : Fld := ⟨48, 3⟩
def F.ctlStatus_PC : Fld := ⟨0, 48⟩
def F.caseImpSlot_OWN15 : Fld := ⟨60, 4⟩
def F.caseImpSlot_OWN0 : Fld := ⟨0, 4⟩
def F.caseImpCtl_REV_WAIT : Fld := ⟨8, 8⟩
def F.caseImpCtl_SWAP : Fld := ⟨1, 1⟩
def F.caseImpStatus_VOID : Fld := ⟨3, 1⟩
def F.caseImpStatus_SWAP_ERR : Fld := ⟨2, 1⟩
def F.caseImpStatus_SWAP_DONE : Fld := ⟨1, 1⟩
def F.caseImpStatus_PENDING : Fld := ⟨0, 1⟩
def F.caseImpRevokes_COUNT : Fld := ⟨0, 32⟩
def F.caseDmaRing_TAIL : Fld := ⟨38, 10⟩
def F.caseDmaRing_LOG2N : Fld := ⟨30, 4⟩
def F.caseDmaRing_HEAD : Fld := ⟨20, 10⟩
def F.caseDmaRing_RBASE : Fld := ⟨6, 14⟩
def F.caseDmaCtl_CAUSE : Fld := ⟨4, 4⟩
def F.caseDmaCtl_HALTED : Fld := ⟨3, 1⟩
def F.caseDmaCtl_DONE : Fld := ⟨2, 1⟩
def F.caseDmaCtl_STOP : Fld := ⟨1, 1⟩
def F.caseDmaCtl_RUN : Fld := ⟨0, 1⟩
def F.nocXportImpWord_OWN15 : Fld := ⟨60, 4⟩
def F.nocXportImpWord_OWN0 : Fld := ⟨0, 4⟩
def F.nocXportImpCs_PLANE : Fld := ⟨6, 2⟩
def F.nocXportImpCs_SWAP_ERR : Fld := ⟨3, 1⟩
def F.nocXportImpCs_SWAP_DONE : Fld := ⟨2, 1⟩
def F.nocXportImpCs_PENDING : Fld := ⟨1, 1⟩
def F.nocXportImpCs_SWAP : Fld := ⟨0, 1⟩
def F.caseEngReplays_COUNT : Fld := ⟨0, 32⟩
def F.caseEngRlog_POS : Fld := ⟨36, 4⟩
def F.caseEngRlog_UNIT : Fld := ⟨32, 4⟩
def F.caseEngRlog_VSLOT : Fld := ⟨31, 1⟩
def F.caseEngRlog_RUN : Fld := ⟨29, 2⟩
def F.caseEngRlog_PC : Fld := ⟨0, 15⟩
def F.caseSpareCtl_TARGET : Fld := ⟨8, 3⟩
def F.caseSpareCtl_RETIRE : Fld := ⟨4, 1⟩
def F.caseSpareCtl_RETURN : Fld := ⟨3, 1⟩
def F.caseSpareCtl_MIGRATE : Fld := ⟨2, 1⟩
def F.caseSpareCtl_WARM : Fld := ⟨1, 1⟩
def F.caseSpareCtl_AUTO : Fld := ⟨0, 1⟩
def F.caseSpareStatus_LAST : Fld := ⟨16, 3⟩
def F.caseSpareStatus_THRESH : Fld := ⟨12, 1⟩
def F.caseSpareStatus_PERSIST : Fld := ⟨11, 1⟩
def F.caseSpareStatus_NOSPARE : Fld := ⟨10, 1⟩
def F.caseSpareStatus_REFUSED : Fld := ⟨9, 1⟩
def F.caseSpareStatus_ABORTED : Fld := ⟨8, 1⟩
def F.caseSpareStatus_DONE : Fld := ⟨7, 1⟩
def F.caseSpareStatus_BUSY : Fld := ⟨3, 1⟩
def F.caseSpareStatus_USTATE : Fld := ⟨0, 3⟩
def F.caseSpareRemap_UNNUM : Fld := ⟨32, 4⟩
def F.caseSpareRemap_POS7 : Fld := ⟨28, 4⟩
def F.caseSpareRemap_POS0 : Fld := ⟨0, 4⟩
def F.galleyClk_EN : Fld := ⟨0, 32⟩
def F.galleyClksel_FORCE : Fld := ⟨17, 1⟩
def F.galleyClksel_SWITCHING : Fld := ⟨16, 1⟩
def F.galleyClksel_CUR : Fld := ⟨8, 8⟩
def F.galleyClksel_SRC : Fld := ⟨0, 8⟩
def F.galleyUpllCfg_DIV3 : Fld := ⟨56, 8⟩
def F.galleyUpllCfg_DIV2 : Fld := ⟨48, 8⟩
def F.galleyUpllCfg_DIV1 : Fld := ⟨40, 8⟩
def F.galleyUpllCfg_DIV0 : Fld := ⟨32, 8⟩
def F.galleyUpllCfg_FB : Fld := ⟨24, 8⟩
def F.galleyUpllCfg_PRE : Fld := ⟨18, 6⟩
def F.galleyUpllCfg_REFSEL : Fld := ⟨8, 10⟩
def F.galleyUpllCfg_ENABLE : Fld := ⟨2, 1⟩
def F.galleyUpllCfg_MODE : Fld := ⟨0, 2⟩
def F.galleyUpllStatus_LOL : Fld := ⟨1, 1⟩
def F.galleyUpllStatus_LOCK : Fld := ⟨0, 1⟩
def F.galleyFportCfg_TGT_EN : Fld := ⟨10, 1⟩
def F.galleyFportCfg_INIT_EN : Fld := ⟨9, 1⟩
def F.galleyFportCfg_RT : Fld := ⟨8, 1⟩
def F.galleyFportCfg_NET : Fld := ⟨2, 5⟩
def F.galleyFportCfg_MODE : Fld := ⟨0, 2⟩
def F.galleyFportWin_LOG2SZ : Fld := ⟨32, 5⟩
def F.galleyFportWin_BASE : Fld := ⟨12, 18⟩
def F.ioPinCfg_SAFE : Fld := ⟨18, 2⟩
def F.ioPinCfg_DIR : Fld := ⟨16, 2⟩
def F.ioPinCfg_HYST : Fld := ⟨14, 1⟩
def F.ioPinCfg_PULL : Fld := ⟨12, 2⟩
def F.ioPinCfg_SLEW : Fld := ⟨11, 1⟩
def F.ioPinCfg_DRIVE : Fld := ⟨8, 3⟩
def F.ioPinCfg_STD : Fld := ⟨0, 5⟩
def F.ioQpinCfg_SAFE : Fld := ⟨22, 2⟩
def F.ioQpinCfg_DIR : Fld := ⟨20, 2⟩
def F.ioQpinCfg_RATIO : Fld := ⟨16, 4⟩
def F.ioQpinCfg_PLL : Fld := ⟨13, 3⟩
def F.ioQpinCfg_BITOUT : Fld := ⟨11, 2⟩
def F.ioQpinCfg_WNET : Fld := ⟨6, 5⟩
def F.ioQpinCfg_STD : Fld := ⟨0, 5⟩
def F.ioQpinDly_BUSY : Fld := ⟨31, 1⟩
def F.ioQpinDly_TX_TAP : Fld := ⟨16, 9⟩
def F.ioQpinDly_RX_TAP : Fld := ⟨0, 9⟩
def F.ioBankStatus_VMIS : Fld := ⟨7, 1⟩
def F.ioBankStatus_STRAP : Fld := ⟨4, 1⟩
def F.ioBankStatus_VCCO : Fld := ⟨2, 2⟩
def F.ioBankStatus_PG : Fld := ⟨0, 1⟩
def F.nocExit_RSP3 : Fld := ⟨28, 4⟩
def F.nocExit_RSP2 : Fld := ⟨24, 4⟩
def F.nocExit_RSP1 : Fld := ⟨20, 4⟩
def F.nocExit_RSP0 : Fld := ⟨16, 4⟩
def F.nocExit_REQ3 : Fld := ⟨12, 4⟩
def F.nocExit_REQ2 : Fld := ⟨8, 4⟩
def F.nocExit_REQ1 : Fld := ⟨4, 4⟩
def F.nocExit_REQ0 : Fld := ⟨0, 4⟩
def F.nocTmoCfg_P3_RATE : Fld := ⟨24, 8⟩
def F.nocTmoCfg_P3_BURST : Fld := ⟨16, 8⟩
def F.nocTmoCfg_ORD : Fld := ⟨12, 1⟩
def F.nocTmoCfg_PRI : Fld := ⟨8, 2⟩
def F.nocTmoCfg_TMO_EXP : Fld := ⟨0, 5⟩
def F.nocEstat_HELD : Fld := ⟨16, 11⟩
def F.nocEstat_DROP : Fld := ⟨4, 1⟩
def F.nocEstat_WHELD : Fld := ⟨3, 1⟩
def F.nocEstat_ROUTE : Fld := ⟨2, 1⟩
def F.nocEstat_LATE : Fld := ⟨1, 1⟩
def F.nocEstat_TMO : Fld := ⟨0, 1⟩
def F.nocEcount_LATE : Fld := ⟨32, 32⟩
def F.nocEcount_TMO : Fld := ⟨0, 32⟩
def F.linkPortCtl_ALT : Fld := ⟨28, 4⟩
def F.linkPortCtl_HOLD_EXP : Fld := ⟨16, 6⟩
def F.linkPortCtl_CAP_W : Fld := ⟨8, 2⟩
def F.linkPortCtl_FLOOR_W : Fld := ⟨6, 2⟩
def F.linkPortCtl_RETURN : Fld := ⟨2, 1⟩
def F.linkPortCtl_RETRAIN : Fld := ⟨1, 1⟩
def F.linkPortCtl_DISABLE : Fld := ⟨0, 1⟩
def F.linkPortStatus_EPOCH : Fld := ⟨32, 32⟩
def F.linkPortStatus_CARRIER : Fld := ⟨28, 4⟩
def F.linkPortStatus_GRP_TX : Fld := ⟨20, 4⟩
def F.linkPortStatus_GRP_RX : Fld := ⟨16, 4⟩
def F.linkPortStatus_CLK : Fld := ⟨14, 2⟩
def F.linkPortStatus_NOSTATE : Fld := ⟨9, 1⟩
def F.linkPortStatus_W : Fld := ⟨6, 2⟩
def F.linkPortStatus_STATE : Fld := ⟨0, 3⟩
def F.linkPortRxmap_GOOD : Fld := ⟨0, 64⟩
def F.linkPortRxmapHi_CLKGOOD : Fld := ⟨4, 2⟩
def F.linkPortRxmapHi_SPGOOD : Fld := ⟨0, 4⟩
def F.linkPortRings_RX_LOCK : Fld := ⟨32, 18⟩
def F.linkPortRings_TX_LOCK : Fld := ⟨0, 18⟩
def F.linkPortErrs_CRC : Fld := ⟨32, 32⟩
def F.linkPortErrs_RETRY : Fld := ⟨0, 32⟩
def F.linkPortCnt_TRAIN : Fld := ⟨48, 16⟩
def F.linkPortCnt_FLUSH : Fld := ⟨32, 16⟩
def F.linkPortCnt_DISC : Fld := ⟨16, 16⟩
def F.linkPortCnt_LATE : Fld := ⟨0, 16⟩
def F.linkPortFlags_TFAIL : Fld := ⟨8, 1⟩
def F.linkPortFlags_DISC : Fld := ⟨7, 1⟩
def F.linkPortFlags_LATE : Fld := ⟨6, 1⟩
def F.linkPortFlags_EPOCH_MIS : Fld := ⟨5, 1⟩
def F.linkPortFlags_FLUSH : Fld := ⟨4, 1⟩
def F.linkPortFlags_RETURNED : Fld := ⟨3, 1⟩
def F.linkPortFlags_REDIRECT : Fld := ⟨2, 1⟩
def F.linkPortFlags_WCHG : Fld := ⟨1, 1⟩
def F.linkPortFlags_SPARE : Fld := ⟨0, 1⟩
def F.photonLaser_B_OK : Fld := ⟨15, 1⟩
def F.photonLaser_A_OK : Fld := ⟨14, 1⟩
def F.photonLaser_ACT : Fld := ⟨11, 1⟩
def F.photonLaser_SWITCHING : Fld := ⟨8, 1⟩
def F.photonLaser_AUTO : Fld := ⟨1, 1⟩
def F.photonLaser_SEL : Fld := ⟨0, 1⟩
def F.photonLflags_LINE : Fld := ⟨3, 1⟩
def F.photonLflags_SWITCHED : Fld := ⟨2, 1⟩
def F.photonLflags_B_LOS : Fld := ⟨1, 1⟩
def F.photonLflags_A_LOS : Fld := ⟨0, 1⟩
def F.photonInpwr_POWER : Fld := ⟨32, 16⟩
def F.photonInpwr_LINE_OK : Fld := ⟨0, 18⟩
def F.integEcnt_UE : Fld := ⟨32, 32⟩
def F.integEcnt_CE : Fld := ⟨0, 32⟩
def F.integElog_CLASS : Fld := ⟨60, 4⟩
def F.integElog_BYTE : Fld := ⟨48, 6⟩
def F.integElog_ADDR : Fld := ⟨0, 48⟩
def F.integEflags_MAPLOST : Fld := ⟨3, 1⟩
def F.integEflags_OVER : Fld := ⟨2, 1⟩
def F.integEflags_UE : Fld := ⟨1, 1⟩
def F.integEflags_CE : Fld := ⟨0, 1⟩
def F.integCmapClr_BUSY : Fld := ⟨63, 1⟩
def F.integCmapClr_GO : Fld := ⟨62, 1⟩
def F.integCmapClr_COUNT : Fld := ⟨32, 21⟩
def F.integCmapClr_FIRST : Fld := ⟨0, 20⟩
def F.integScrubBase_BASE : Fld := ⟨6, 42⟩
def F.integScrubEnd_END : Fld := ⟨6, 42⟩
def F.integScrubSheet_SHEET : Fld := ⟨6, 42⟩
def F.integScrubCtl_RATE : Fld := ⟨8, 4⟩
def F.integScrubCtl_REPAIR : Fld := ⟨2, 1⟩
def F.integScrubCtl_STOP : Fld := ⟨1, 1⟩
def F.integScrubCtl_START : Fld := ⟨0, 1⟩
def F.integScrubStatus_PASS : Fld := ⟨16, 16⟩
def F.integScrubStatus_SHEET_ERR : Fld := ⟨5, 1⟩
def F.integScrubStatus_REFUSED : Fld := ⟨4, 1⟩
def F.integScrubStatus_ABORTED : Fld := ⟨3, 1⟩
def F.integScrubStatus_DONE : Fld := ⟨2, 1⟩
def F.integScrubStatus_BUSY : Fld := ⟨0, 1⟩
def F.ddrCfg_ERASE_DEV : Fld := ⟨26, 5⟩
def F.ddrCfg_ERASE_EN : Fld := ⟨25, 1⟩
def F.ddrCfg_FGR : Fld := ⟨20, 2⟩
def F.ddrCfg_REF2X : Fld := ⟨19, 1⟩
def F.ddrCfg_RDIMM : Fld := ⟨16, 1⟩
def F.ddrCfg_DENS : Fld := ⟨12, 2⟩
def F.ddrCfg_X4 : Fld := ⟨11, 1⟩
def F.ddrCfg_RANKS : Fld := ⟨10, 1⟩
def F.ddrCfg_GRADE : Fld := ⟨4, 2⟩
def F.ddrCfg_RATE : Fld := ⟨0, 2⟩
def F.ddrCtl_RETRAIN : Fld := ⟨1, 1⟩
def F.ddrCtl_INIT : Fld := ⟨0, 1⟩
def F.ddrStatus_CAPG : Fld := ⟨48, 8⟩
def F.ddrStatus_DEBT1 : Fld := ⟨40, 5⟩
def F.ddrStatus_DEBT0 : Fld := ⟨32, 5⟩
def F.ddrStatus_QUEUED : Fld := ⟨24, 8⟩
def F.ddrStatus_RTWAIT : Fld := ⟨16, 8⟩
def F.ddrStatus_STATE : Fld := ⟨0, 4⟩
def F.ddrSched_WR_LO : Fld := ⟨48, 6⟩
def F.ddrSched_WR_HI : Fld := ⟨40, 6⟩
def F.ddrSched_PANIC_AGE : Fld := ⟨32, 8⟩
def F.ddrSched_AGE_BULK : Fld := ⟨24, 8⟩
def F.ddrSched_AGE_NORM : Fld := ⟨16, 8⟩
def F.ddrSched_AGE_HI : Fld := ⟨8, 8⟩
def F.ddrSched_AGE_RT : Fld := ⟨0, 8⟩
def F.ddrTrain_INTERVAL : Fld := ⟨0, 16⟩
def F.ddrEcnt_UE : Fld := ⟨32, 32⟩
def F.ddrEcnt_CE : Fld := ⟨0, 32⟩
def F.ddrElog_LASTDEV : Fld := ⟨59, 5⟩
def F.ddrElog_POISON : Fld := ⟨48, 1⟩
def F.ddrElog_SAMEDEV : Fld := ⟨32, 16⟩
def F.ddrElog_LINE : Fld := ⟨0, 30⟩
def F.ddrEflags_EMERG : Fld := ⟨5, 1⟩
def F.ddrEflags_TFAIL : Fld := ⟨4, 1⟩
def F.ddrEflags_DEVREP : Fld := ⟨3, 1⟩
def F.ddrEflags_OVER : Fld := ⟨2, 1⟩
def F.ddrEflags_UE : Fld := ⟨1, 1⟩
def F.ddrEflags_CE : Fld := ⟨0, 1⟩
def F.ddrMap_EN : Fld := ⟨63, 1⟩
def F.ddrMap_FIRST : Fld := ⟨56, 3⟩
def F.ddrMap_WAYS : Fld := ⟨52, 2⟩
def F.ddrMap_GRAIN : Fld := ⟨48, 4⟩
def F.ddrMap_CHOFF : Fld := ⟨40, 8⟩
def F.ddrMap_SIZE : Fld := ⟨24, 12⟩
def F.ddrMap_BASE : Fld := ⟨0, 11⟩
def F.ddrMapcap_CAP : Fld := ⟨0, 12⟩
def F.lgrpPll_N : Fld := ⟨32, 9⟩
def F.lgrpPll_F : Fld := ⟨8, 24⟩
def F.lgrpPll_REF : Fld := ⟨4, 2⟩
def F.lgrpPll_LOL : Fld := ⟨3, 1⟩
def F.lgrpPll_LOCK : Fld := ⟨2, 1⟩
def F.lgrpPll_ENABLE : Fld := ⟨0, 1⟩
def F.lgrpLaneCfg_TXNET : Fld := ⟨32, 5⟩
def F.lgrpLaneCfg_WIDTH : Fld := ⟨30, 2⟩
def F.lgrpLaneCfg_LOOP : Fld := ⟨28, 2⟩
def F.lgrpLaneCfg_RXPOL : Fld := ⟨25, 1⟩
def F.lgrpLaneCfg_TXPOL : Fld := ⟨24, 1⟩
def F.lgrpLaneCfg_RXPRE : Fld := ⟨23, 1⟩
def F.lgrpLaneCfg_TXPRE : Fld := ⟨22, 1⟩
def F.lgrpLaneCfg_DIV : Fld := ⟨19, 3⟩
def F.lgrpLaneCfg_TXPLL : Fld := ⟨18, 1⟩
def F.lgrpLaneCfg_MODE : Fld := ⟨17, 1⟩
def F.lgrpLaneCfg_RXEN : Fld := ⟨16, 1⟩
def F.lgrpLaneCfg_TXEN : Fld := ⟨15, 1⟩
def F.lgrpLaneCfg_OWNER : Fld := ⟨0, 3⟩
def F.lgrpLaneTxeq_AMP : Fld := ⟨28, 4⟩
def F.lgrpLaneTxeq_MAIN : Fld := ⟨22, 6⟩
def F.lgrpLaneTxeq_POST1 : Fld := ⟨16, 6⟩
def F.lgrpLaneTxeq_PRE1 : Fld := ⟨10, 6⟩
def F.lgrpLaneTxeq_PRE2 : Fld := ⟨5, 5⟩
def F.lgrpLaneTxeq_PRE3 : Fld := ⟨0, 5⟩
def F.lgrpLaneRxeq_DFE : Fld := ⟨24, 8⟩
def F.lgrpLaneRxeq_TAPSEL : Fld := ⟨19, 5⟩
def F.lgrpLaneRxeq_ADAPT : Fld := ⟨16, 2⟩
def F.lgrpLaneRxeq_TAP : Fld := ⟨8, 8⟩
def F.lgrpLaneRxeq_CTLE : Fld := ⟨0, 5⟩
def F.lgrpLanePat_CHKLOCK : Fld := ⟨16, 1⟩
def F.lgrpLanePat_CHK : Fld := ⟨8, 4⟩
def F.lgrpLanePat_GEN : Fld := ⟨0, 4⟩
def F.lgrpLaneErrs_SYM : Fld := ⟨32, 32⟩
def F.lgrpLaneErrs_BIT : Fld := ⟨0, 32⟩
def F.lgrpLaneBits_BITS : Fld := ⟨0, 48⟩
def F.lgrpLaneHist_LEVEL : Fld := ⟨30, 2⟩
def F.lgrpLaneHist_BIN : Fld := ⟨23, 7⟩
def F.lgrpLaneHist_RUN : Fld := ⟨22, 1⟩
def F.lgrpLaneHist_EXP : Fld := ⟨18, 4⟩
def F.lgrpLaneHist_COUNT : Fld := ⟨0, 16⟩
def F.lgrpLaneStatus_ADAPTED : Fld := ⟨3, 1⟩
def F.lgrpLaneStatus_CDRLOCK : Fld := ⟨2, 1⟩
def F.lgrpLaneStatus_SIGDET : Fld := ⟨1, 1⟩
def F.lgrpLaneStatus_IDLE : Fld := ⟨0, 1⟩
def F.lgrpLaneFlags_RATEERR : Fld := ⟨6, 1⟩
def F.lgrpLaneFlags_TXOF : Fld := ⟨5, 1⟩
def F.lgrpLaneFlags_TXUF : Fld := ⟨4, 1⟩
def F.lgrpLaneFlags_UNLOCK : Fld := ⟨3, 1⟩
def F.lgrpLaneFlags_TXEQ_ERR : Fld := ⟨2, 1⟩
def F.lgrpLaneFlags_CDRLOL : Fld := ⟨1, 1⟩
def F.lgrpLaneFlags_LOS : Fld := ⟨0, 1⟩
def F.ethPortCfg_MODE : Fld := ⟨28, 4⟩
def F.ethPortCfg_FIRST : Fld := ⟨23, 5⟩
def F.ethPortCfg_FEC : Fld := ⟨21, 2⟩
def F.ethPortCfg_AN : Fld := ⟨20, 1⟩
def F.ethPortCfg_LT : Fld := ⟨19, 1⟩
def F.ethPortCfg_MACSEC : Fld := ⟨18, 1⟩
def F.ethPortCfg_PFC : Fld := ⟨17, 1⟩
def F.ethPortCfg_EN : Fld := ⟨16, 1⟩
def F.ethPortCfg_RXBUF : Fld := ⟨12, 4⟩
def F.ethPortCfg_TXAN : Fld := ⟨10, 2⟩
def F.ethPortCfg_RWEXP : Fld := ⟨6, 4⟩
def F.ethPortCfg_COFF : Fld := ⟨4, 2⟩
def F.ethPortRxq_TAIL : Fld := ⟨52, 12⟩
def F.ethPortRxq_LOG2N : Fld := ⟨48, 4⟩
def F.ethPortRxq_BASE : Fld := ⟨16, 32⟩
def F.ethPortRxq_HEAD : Fld := ⟨4, 12⟩
def F.ethPortTxq_TAIL : Fld := ⟨52, 12⟩
def F.ethPortTxq_LOG2N : Fld := ⟨48, 4⟩
def F.ethPortTxq_BASE : Fld := ⟨16, 32⟩
def F.ethPortTxq_HEAD : Fld := ⟨4, 12⟩
def F.ethPortCnt_DROP : Fld := ⟨48, 16⟩
def F.ethPortCnt_UCW : Fld := ⟨24, 24⟩
def F.ethPortCnt_CCW : Fld := ⟨0, 24⟩
def F.ethPortStatus_PNEXH : Fld := ⟨7, 1⟩
def F.ethPortStatus_PNTHR : Fld := ⟨6, 1⟩
def F.ethPortStatus_RXDROP : Fld := ⟨5, 1⟩
def F.ethPortStatus_FECUNC : Fld := ⟨4, 1⟩
def F.ethPortStatus_CFGERR : Fld := ⟨3, 1⟩
def F.ethPortStatus_LINKCHG : Fld := ⟨2, 1⟩
def F.ethPortStatus_LINK : Fld := ⟨0, 1⟩
def F.ethSaload_GO : Fld := ⟨63, 1⟩
def F.ethSaload_BUSY : Fld := ⟨62, 1⟩
def F.ethSaload_ERR : Fld := ⟨61, 1⟩
def F.ethSaload_PORT : Fld := ⟨58, 3⟩
def F.ethSaload_DIR : Fld := ⟨57, 1⟩
def F.ethSaload_SC : Fld := ⟨53, 4⟩
def F.ethSaload_AN : Fld := ⟨51, 2⟩
def F.ethSaload_ADDR : Fld := ⟨6, 42⟩
def F.ethNet_P3_RATE : Fld := ⟨24, 8⟩
def F.ethNet_P3_BURST : Fld := ⟨16, 8⟩
def F.ethNet_TMO_EXP : Fld := ⟨0, 5⟩
def F.pcieCfg_OBOFF : Fld := ⟨32, 21⟩
def F.pcieCfg_TCPRI : Fld := ⟨16, 16⟩
def F.pcieCfg_MAXGEN : Fld := ⟨5, 3⟩
def F.pcieCfg_MAXW : Fld := ⟨2, 3⟩
def F.pcieCfg_ROLE : Fld := ⟨1, 1⟩
def F.pcieCfg_EN : Fld := ⟨0, 1⟩
def F.pcieStatus_OBERR : Fld := ⟨31, 1⟩
def F.pcieStatus_IBERR : Fld := ⟨30, 1⟩
def F.pcieStatus_LINKCHG : Fld := ⟨29, 1⟩
def F.pcieStatus_LTSSM : Fld := ⟨12, 6⟩
def F.pcieStatus_REV : Fld := ⟨11, 1⟩
def F.pcieStatus_GEN : Fld := ⟨8, 3⟩
def F.pcieStatus_WIDTH : Fld := ⟨3, 5⟩
def F.pcieStatus_UP : Fld := ⟨0, 1⟩
def F.pcieBar_LOG2SZ : Fld := ⟨48, 6⟩
def F.pcieBar_TRANS : Fld := ⟨20, 28⟩
def F.lgrpJesdCfg_RBD : Fld := ⟨54, 10⟩
def F.lgrpJesdCfg_EM1 : Fld := ⟨49, 5⟩
def F.lgrpJesdCfg_KM1 : Fld := ⟨41, 8⟩
def F.lgrpJesdCfg_FM1 : Fld := ⟨33, 8⟩
def F.lgrpJesdCfg_SCR : Fld := ⟨32, 1⟩
def F.lgrpJesdCfg_SYSSRC : Fld := ⟨28, 4⟩
def F.lgrpJesdCfg_SUBCLASS : Fld := ⟨27, 1⟩
def F.lgrpJesdCfg_LM1 : Fld := ⟨24, 3⟩
def F.lgrpJesdCfg_FIRST : Fld := ⟨21, 3⟩
def F.lgrpJesdCfg_ENC : Fld := ⟨20, 1⟩
def F.lgrpJesdCfg_DIR : Fld := ⟨19, 1⟩
def F.lgrpJesdCfg_EN : Fld := ⟨0, 1⟩
def F.lgrpJesdStatus_SYSERR : Fld := ⟨4, 1⟩
def F.lgrpJesdStatus_CRCERR : Fld := ⟨3, 1⟩
def F.lgrpJesdStatus_LINKERR : Fld := ⟨2, 1⟩
def F.lgrpJesdStatus_ALIGNED : Fld := ⟨1, 1⟩
def F.lgrpJesdStatus_SYNC : Fld := ⟨0, 1⟩
def F.timeNow_SEC_LO : Fld := ⟨32, 32⟩
def F.timeNow_NS : Fld := ⟨0, 30⟩
def F.timeNowHi_SEC_HI : Fld := ⟨0, 16⟩
def F.timeCtl_HOLDLIM : Fld := ⟨24, 8⟩
def F.timeCtl_BW : Fld := ⟨20, 4⟩
def F.timeCtl_ADMIT : Fld := ⟨16, 4⟩
def F.timeCtl_STEPEN : Fld := ⟨15, 1⟩
def F.timeCtl_ADMIT_AUTO : Fld := ⟨14, 1⟩
def F.timeCtl_XOFREQ : Fld := ⟨12, 2⟩
def F.timeCtl_TUNE : Fld := ⟨11, 1⟩
def F.timeCtl_HOLD : Fld := ⟨3, 1⟩
def F.timeCtl_STEP : Fld := ⟨2, 1⟩
def F.timeCtl_EN : Fld := ⟨0, 1⟩
def F.timeFreq_FREQ : Fld := ⟨0, 40⟩
def F.timeStep_STEP : Fld := ⟨0, 64⟩
def F.timeStatus_HOLDMIN : Fld := ⟨16, 16⟩
def F.timeStatus_FALIGN : Fld := ⟨12, 4⟩
def F.timeStatus_SEL : Fld := ⟨8, 4⟩
def F.timeStatus_STEPPING : Fld := ⟨4, 1⟩
def F.timeStatus_MODEL : Fld := ⟨3, 1⟩
def F.timeStatus_STATE : Fld := ⟨0, 3⟩
def F.timeFlags_AUTHFAIL : Fld := ⟨5, 1⟩
def F.timeFlags_FOLLOW : Fld := ⟨4, 1⟩
def F.timeFlags_TSLOST : Fld := ⟨3, 1⟩
def F.timeFlags_XOLOS : Fld := ⟨2, 1⟩
def F.timeFlags_STATECHG : Fld := ⟨0, 1⟩
def F.timeTod_VALID : Fld := ⟨48, 1⟩
def F.timeTod_TOD_SEC : Fld := ⟨0, 48⟩
def F.timeVote_REQUAL : Fld := ⟨48, 16⟩
def F.timeVote_LOSS : Fld := ⟨40, 8⟩
def F.timeVote_PERSIST : Fld := ⟨32, 8⟩
def F.timeVote_FTHRESH : Fld := ⟨24, 8⟩
def F.timeVote_PTHRESH : Fld := ⟨12, 12⟩
def F.timeVote_THRESH : Fld := ⟨0, 12⟩
def F.timeModel0_A : Fld := ⟨32, 32⟩
def F.timeModel0_Y0 : Fld := ⟨0, 32⟩
def F.timeModel1_HOURS : Fld := ⟨48, 16⟩
def F.timeModel1_C : Fld := ⟨0, 32⟩
def F.timeTsense_TEMP : Fld := ⟨48, 16⟩
def F.timeTsense_EN : Fld := ⟨24, 1⟩
def F.timeTsense_FAST : Fld := ⟨23, 1⟩
def F.timeTsense_TSCALE : Fld := ⟨16, 4⟩
def F.timeTsense_TREG : Fld := ⟨8, 8⟩
def F.timeTsense_TADDR : Fld := ⟨0, 7⟩
def F.timeDac_KDAC : Fld := ⟨32, 24⟩
def F.timeDac_WLEN : Fld := ⟨24, 6⟩
def F.timeDac_CODEBITS : Fld := ⟨16, 6⟩
def F.timeDac_PREFIX : Fld := ⟨8, 8⟩
def F.timeDac_DIV : Fld := ⟨4, 4⟩
def F.timeCode_CODE : Fld := ⟨0, 24⟩
def F.timeOut_SYSPER : Fld := ⟨32, 31⟩
def F.timeOut_F10EN : Fld := ⟨29, 1⟩
def F.timeOut_SQUELCH : Fld := ⟨24, 5⟩
def F.timeOut_PPSW : Fld := ⟨16, 8⟩
def F.timeOut_PPSOFF : Fld := ⟨0, 16⟩
def F.timeUart_RXV : Fld := ⟨31, 1⟩
def F.timeUart_OVR : Fld := ⟨30, 1⟩
def F.timeUart_TXBUSY : Fld := ⟨29, 1⟩
def F.timeUart_BAUD : Fld := ⟨16, 4⟩
def F.timeUart_TXB : Fld := ⟨8, 8⟩
def F.timeUart_RXB : Fld := ⟨0, 8⟩
def F.timeAuthload_GO : Fld := ⟨63, 1⟩
def F.timeAuthload_BUSY : Fld := ⟨62, 1⟩
def F.timeAuthload_ERR : Fld := ⟨61, 1⟩
def F.timeAuthload_SLOT : Fld := ⟨56, 4⟩
def F.timeAuthload_ADDR : Fld := ⟨6, 42⟩
def F.timeAuthcnt_COUNT : Fld := ⟨0, 32⟩
def F.timeSrcCfg_LANE : Fld := ⟨8, 7⟩
def F.timeSrcCfg_PRIO : Fld := ⟨4, 2⟩
def F.timeSrcCfg_KIND : Fld := ⟨0, 3⟩
def F.timeSrcMeas_OFFSET : Fld := ⟨0, 64⟩
def F.timeSrcStat_LAST : Fld := ⟨32, 32⟩
def F.timeSrcStat_TODMIS : Fld := ⟨10, 1⟩
def F.timeSrcStat_SUSP : Fld := ⟨9, 1⟩
def F.timeSrcStat_LOSTF : Fld := ⟨8, 1⟩
def F.timeSrcStat_DISAG : Fld := ⟨3, 1⟩
def F.timeSrcStat_SSTATE : Fld := ⟨0, 3⟩
def F.ethPortTsadj_RXADJ : Fld := ⟨48, 16⟩
def F.ethPortTsadj_TXADJ : Fld := ⟨32, 16⟩
def F.ethPortTsadj_CALOK : Fld := ⟨3, 1⟩
def F.ethPortTsadj_AUTHREQ : Fld := ⟨2, 1⟩
def F.ethPortTsadj_AUTHEN : Fld := ⟨1, 1⟩
def F.guardFsel_FOLIO : Fld := ⟨32, 32⟩
def F.guardFsel_STAND_RES : Fld := ⟨28, 4⟩
def F.guardFsel_VERSO_RES : Fld := ⟨24, 4⟩
def F.guardFsel_RECTO_RES : Fld := ⟨20, 4⟩
def F.guardFsel_POLICY : Fld := ⟨16, 2⟩
def F.guardFsel_POLSRC : Fld := ⟨15, 1⟩
def F.guardFsel_FLASHN : Fld := ⟨12, 3⟩
def F.guardFsel_LOADED : Fld := ⟨8, 2⟩
def F.guardFsel_GSTATE : Fld := ⟨0, 4⟩
def F.guardFfail_CODE : Fld := ⟨60, 4⟩
def F.guardFfail_DETAIL : Fld := ⟨56, 4⟩
def F.guardFfail_DIE : Fld := ⟨54, 2⟩
def F.guardFfail_PARTIAL : Fld := ⟨53, 1⟩
def F.guardFfail_SEG : Fld := ⟨40, 12⟩
def F.guardFfail_POS : Fld := ⟨0, 32⟩
def F.guardPload_GO : Fld := ⟨63, 1⟩
def F.guardPload_BUSY : Fld := ⟨62, 1⟩
def F.guardPload_ADDR : Fld := ⟨6, 42⟩
def F.guardPstat_RES : Fld := ⟨28, 4⟩
def F.guardPstat_MISMATCH : Fld := ⟨8, 16⟩
def F.guardPstat_REFUSED : Fld := ⟨4, 1⟩
def F.guardPstat_FAILW : Fld := ⟨3, 1⟩
def F.guardPstat_REJECT : Fld := ⟨2, 1⟩
def F.guardPstat_DONE : Fld := ⟨1, 1⟩
def F.guardFop_GO : Fld := ⟨31, 1⟩
def F.guardFop_BUSY : Fld := ⟨30, 1⟩
def F.guardFop_DENY : Fld := ⟨29, 1⟩
def F.guardFop_ERR : Fld := ⟨28, 1⟩
def F.guardFop_DONE : Fld := ⟨27, 1⟩
def F.guardFop_RESELECT : Fld := ⟨4, 1⟩
def F.guardFop_OP : Fld := ⟨0, 2⟩
def F.guardFarg_LEN : Fld := ⟨32, 24⟩
def F.guardFarg_FADDR : Fld := ⟨0, 32⟩
def F.guardFbuf_BUF : Fld := ⟨6, 42⟩
def F.galleyQuoin_CLOSED : Fld := ⟨1, 1⟩
def F.galleyQuoin_CLOSE : Fld := ⟨0, 1⟩
def F.galleySwap_COUNT : Fld := ⟨24, 8⟩
def F.galleySwap_SWAPPED : Fld := ⟨3, 1⟩
def F.galleySwap_CLONING : Fld := ⟨2, 1⟩
def F.galleySwap_CLONE : Fld := ⟨1, 1⟩
def F.galleyDrain_LIMIT : Fld := ⟨32, 20⟩
def F.galleyDrain_DRAINED : Fld := ⟨31, 1⟩
def F.galleyDrain_DEXP : Fld := ⟨30, 1⟩
def F.galleyDrain_INFLIGHT : Fld := ⟨16, 13⟩
def F.galleyDrain_QUIESCE : Fld := ⟨0, 1⟩
def F.caseQuoin_CLOSED : Fld := ⟨1, 1⟩
def F.caseQuoin_CLOSE : Fld := ⟨0, 1⟩
def F.ctlXswap_GMASK : Fld := ⟨32, 16⟩
def F.ctlXswap_DMASK : Fld := ⟨24, 4⟩
def F.ctlXswap_LATE : Fld := ⟨7, 1⟩
def F.ctlXswap_REFUSED : Fld := ⟨6, 1⟩
def F.ctlXswap_DONE : Fld := ⟨5, 1⟩
def F.ctlXswap_PENDING : Fld := ⟨4, 1⟩
def F.ctlXswap_GO : Fld := ⟨0, 1⟩
def F.secFsum_FLOOR : Fld := ⟨32, 32⟩
def F.secFsum_FREE : Fld := ⟨25, 7⟩
def F.secFsum_SFREE : Fld := ⟨20, 5⟩
def F.secFsum_REVOKED : Fld := ⟨16, 4⟩
def F.secFsum_KEYSET : Fld := ⟨12, 4⟩
def F.secFsum_DBG : Fld := ⟨10, 2⟩
def F.secFsum_FK_SET : Fld := ⟨9, 1⟩
def F.secFsum_ENC_REQ : Fld := ⟨8, 1⟩
def F.secFsum_POLICY_LOCK : Fld := ⟨7, 1⟩
def F.secFsum_POLICY : Fld := ⟨5, 2⟩
def F.secSfloor_SFLOOR : Fld := ⟨0, 32⟩
def F.secReq_GO : Fld := ⟨63, 1⟩
def F.secReq_BUSY : Fld := ⟨62, 1⟩
def F.secReq_ADDR : Fld := ⟨6, 42⟩
def F.secSstat_WAIT : Fld := ⟨24, 8⟩
def F.secSstat_FAILS : Fld := ⟨16, 8⟩
def F.secSstat_REASON : Fld := ⟨12, 4⟩
def F.secSstat_UNLOCKED : Fld := ⟨8, 1⟩
def F.secSstat_IDFAIL : Fld := ⟨7, 1⟩
def F.secSstat_DDENY : Fld := ⟨6, 1⟩
def F.secSstat_DGRANT : Fld := ⟨5, 1⟩
def F.secSstat_AERR : Fld := ⟨4, 1⟩
def F.secSstat_ADONE : Fld := ⟨3, 1⟩
def F.secSstat_FREF : Fld := ⟨2, 1⟩
def F.secSstat_FDONE : Fld := ⟨1, 1⟩
def F.secIdkey_VAL : Fld := ⟨0, 64⟩
def F.secIdcert_VAL : Fld := ⟨0, 64⟩
def F.secDchal_VAL : Fld := ⟨0, 64⟩
def F.secDresp_VAL : Fld := ⟨0, 64⟩
def F.secDctl_DLOCK : Fld := ⟨1, 1⟩
def F.secDctl_DGO : Fld := ⟨0, 1⟩
def F.powerClkstat_ROOTLOCK : Fld := ⟨28, 4⟩
def F.powerClkstat_WINCNT : Fld := ⟨14, 14⟩
def F.powerClkstat_CAUSE : Fld := ⟨8, 4⟩
def F.powerClkstat_REFSRC : Fld := ⟨4, 1⟩
def F.powerClkstat_CKSTATE : Fld := ⟨0, 3⟩
def F.powerClkflags_WLIM : Fld := ⟨3, 1⟩
def F.powerClkflags_RETURNED : Fld := ⟨2, 1⟩
def F.powerClkflags_CKFAIL : Fld := ⟨1, 1⟩
def F.powerClkflags_REFFAIL : Fld := ⟨0, 1⟩
def F.powerClkctl_WAITLIM : Fld := ⟨0, 5⟩
def F.powerDom_REFUSED : Fld := ⟨9, 1⟩
def F.powerDom_CHG : Fld := ⟨8, 1⟩
def F.powerDom_STATE : Fld := ⟨4, 2⟩
def F.powerDom_RESET : Fld := ⟨1, 1⟩
def F.powerDom_ON : Fld := ⟨0, 1⟩
def F.powerPdom_REFUSED : Fld := ⟨9, 1⟩
def F.powerPdom_CHG : Fld := ⟨8, 1⟩
def F.powerPdom_STATE : Fld := ⟨4, 2⟩
def F.powerPdom_RESET : Fld := ⟨1, 1⟩
def F.powerPdom_ON : Fld := ⟨0, 1⟩
def F.powerDie_DCAUSE : Fld := ⟨8, 4⟩
def F.powerDie_SUPFAIL : Fld := ⟨7, 1⟩
def F.powerDie_REFUSED : Fld := ⟨6, 1⟩
def F.powerDie_DSTATE : Fld := ⟨2, 2⟩
def F.powerDie_RST : Fld := ⟨1, 1⟩
def F.powerDie_ON : Fld := ⟨0, 1⟩
def F.powerRcause_GCOUNT : Fld := ⟨16, 16⟩
def F.powerRcause_GRST : Fld := ⟨4, 1⟩
def F.powerRcause_GCAUSE : Fld := ⟨0, 4⟩
def F.bistCtl_GO : Fld := ⟨31, 1⟩
def F.bistCtl_STOP : Fld := ⟨30, 1⟩
def F.bistCtl_TKIND : Fld := ⟨16, 2⟩
def F.bistCtl_POS : Fld := ⟨8, 4⟩
def F.bistCtl_UNIT : Fld := ⟨4, 4⟩
def F.bistCtl_REPAIR : Fld := ⟨2, 1⟩
def F.bistCtl_MEM : Fld := ⟨1, 1⟩
def F.bistCtl_LOGIC : Fld := ⟨0, 1⟩
def F.bistStatus_MFAIL : Fld := ⟨17, 1⟩
def F.bistStatus_LFAIL : Fld := ⟨16, 1⟩
def F.bistStatus_REPAIRED : Fld := ⟨9, 1⟩
def F.bistStatus_UNREP : Fld := ⟨8, 1⟩
def F.bistStatus_ABORTED : Fld := ⟨7, 1⟩
def F.bistStatus_REFUSED : Fld := ⟨6, 1⟩
def F.bistStatus_FAIL : Fld := ⟨5, 1⟩
def F.bistStatus_DONE : Fld := ⟨4, 1⟩
def F.bistStatus_STATE : Fld := ⟨0, 3⟩
def F.bistSig_GOLDEN : Fld := ⟨32, 32⟩
def F.bistSig_SIG : Fld := ⟨0, 32⟩
def F.bistMfail_MACRO : Fld := ⟨47, 17⟩
def F.bistMfail_BIT : Fld := ⟨40, 4⟩
def F.bistMfail_ADDR : Fld := ⟨16, 16⟩
def F.bistMfail_COUNT : Fld := ⟨0, 16⟩
def F.bistLockout_CASE : Fld := ⟨16, 16⟩
def F.bistLockout_GALLEY : Fld := ⟨0, 16⟩
def F.bistSrep_ENTRY : Fld := ⟨0, 32⟩
def F.pcieDbgwin_EN : Fld := ⟨0, 1⟩
def F.debugAcc_GO : Fld := ⟨63, 1⟩
def F.debugAcc_BUSY : Fld := ⟨62, 1⟩
def F.debugAcc_STATUS : Fld := ⟨59, 3⟩
def F.debugAcc_P : Fld := ⟨58, 1⟩
def F.debugAcc_AUTOINC : Fld := ⟨57, 1⟩
def F.debugAcc_NOQUIET : Fld := ⟨56, 1⟩
def F.debugAcc_SIZE : Fld := ⟨54, 2⟩
def F.debugAcc_WRITE : Fld := ⟨53, 1⟩
def F.debugAcc_PRI : Fld := ⟨48, 2⟩
def F.debugAcc_ADDR : Fld := ⟨0, 48⟩
def F.debugData_DATA : Fld := ⟨0, 64⟩
def F.debugCtl_BRKHALT : Fld := ⟨0, 1⟩
def F.debugHreq_GO : Fld := ⟨63, 1⟩
def F.debugHreq_BUSY : Fld := ⟨62, 1⟩
def F.debugHreq_CMD : Fld := ⟨56, 3⟩
def F.debugHreq_KIND : Fld := ⟨48, 2⟩
def F.debugHreq_NUM : Fld := ⟨0, 9⟩
def F.debugHstat_SCANREF : Fld := ⟨3, 1⟩
def F.debugHstat_HALTED : Fld := ⟨2, 1⟩
def F.debugHstat_REFUSED : Fld := ⟨1, 1⟩
def F.debugHstat_DONE : Fld := ⟨0, 1⟩
def F.caseEngWdog_REMAIN : Fld := ⟨32, 32⟩
def F.caseEngWdog_LOCK : Fld := ⟨31, 1⟩
def F.caseEngWdog_WEXP : Fld := ⟨30, 1⟩
def F.caseEngWdog_PERIOD : Fld := ⟨0, 24⟩
def F.ctlWdog_REMAIN : Fld := ⟨32, 32⟩
def F.ctlWdog_LOCK : Fld := ⟨31, 1⟩
def F.ctlWdog_WEXP : Fld := ⟨30, 1⟩
def F.ctlWdog_PERIOD : Fld := ⟨0, 24⟩
def F.debugLoupe_EN : Fld := ⟨63, 1⟩
def F.debugLoupe_NET : Fld := ⟨53, 5⟩
def F.debugLoupe_REG : Fld := ⟨52, 1⟩
def F.debugLoupe_GALLEY : Fld := ⟨48, 4⟩
def F.debugLoupe_WIRE : Fld := ⟨0, 24⟩
def F.eventPend_PEND : Fld := ⟨0, 32⟩
def F.eventRaise_GO : Fld := ⟨31, 1⟩
def F.eventRaise_NUM : Fld := ⟨0, 9⟩
def F.eventRoute_EN : Fld := ⟨31, 1⟩
def F.eventRoute_TAKEN : Fld := ⟨30, 1⟩
def F.eventRoute_KIND : Fld := ⟨28, 2⟩
def F.eventRoute_TARGET : Fld := ⟨16, 9⟩
def F.eventRoute_PINEN : Fld := ⟨15, 1⟩
def F.eventRoute_PDIE : Fld := ⟨13, 2⟩
def F.eventRoute_PIN : Fld := ⟨0, 7⟩
def F.eventPerr_COUNT : Fld := ⟨0, 32⟩
def F.powerTemp_TEMP : Fld := ⟨20, 12⟩
def F.powerTemp_THOT : Fld := ⟨9, 1⟩
def F.powerTemp_TLIM : Fld := ⟨0, 8⟩
def F.powerSupstat_HK33 : Fld := ⟨26, 1⟩
def F.powerSupstat_VDDQ : Fld := ⟨18, 8⟩
def F.powerSupstat_VCCLT : Fld := ⟨14, 4⟩
def F.powerSupstat_VCCLA : Fld := ⟨10, 4⟩
def F.powerSupstat_VCCHTR : Fld := ⟨9, 1⟩
def F.powerSupstat_VCCIP : Fld := ⟨8, 1⟩
def F.powerSupstat_VCCFL : Fld := ⟨7, 1⟩
def F.powerSupstat_VCCAUX : Fld := ⟨6, 1⟩
def F.powerSupstat_VCCHK : Fld := ⟨5, 1⟩
def F.powerSupstat_VCCGRD : Fld := ⟨4, 1⟩
def F.powerSupstat_VCCINT : Fld := ⟨0, 4⟩
def F.idIdcode_PART : Fld := ⟨48, 16⟩
def F.idIdcode_STEPPING : Fld := ⟨44, 4⟩
def F.idIdcode_GRADE : Fld := ⟨42, 2⟩
def F.idIdcode_YEAR : Fld := ⟨36, 6⟩
def F.idIdcode_WEEK : Fld := ⟨30, 6⟩
def F.idIdcode_SERIAL : Fld := ⟨0, 30⟩
def F.secMbox_VAL : Fld := ⟨0, 64⟩

end Sys2Proof.Machine
end

