-- ==== Sys2Proof/Machine/Tbl.lean ====
section
/-! DEFINITION. Sparse tables: a list of key and value pairs, and what an unlisted key reads as is
given at the read. Memory contents use the canonical form of `Store` (R29: one copy of each byte). -/

namespace Sys2Proof.Machine

/-- A sparse table from keys to values. -/
abbrev Tbl (κ α : Type) := List (κ × α)

/-- The value at a key, or the default when the key is not listed. -/
def Tbl.get {κ α : Type} [DecidableEq κ] (t : Tbl κ α) (dflt : α) (k : κ) : α :=
  match t with
  | [] => dflt
  | (k', v) :: r => if k' = k then v else Tbl.get r dflt k

/-- Remove a key. -/
def Tbl.erase {κ α : Type} [DecidableEq κ] (t : Tbl κ α) (k : κ) : Tbl κ α :=
  match t with
  | [] => []
  | (k', v) :: r => if k' = k then Tbl.erase r k else (k', v) :: Tbl.erase r k

/-- Give a key a value. -/
def Tbl.set {κ α : Type} [DecidableEq κ] (t : Tbl κ α) (k : κ) (v : α) : Tbl κ α :=
  (k, v) :: t.erase k

/-- Keep the entries whose key meets a test. -/
def Tbl.keep {κ α : Type} (t : Tbl κ α) (f : κ → Bool) : Tbl κ α := t.filter (fun e => f e.1)

theorem Tbl.get_erase_other {κ α : Type} [DecidableEq κ] (t : Tbl κ α) (d : α) (k j : κ) (h : k ≠ j) :
    (Tbl.erase t k).get d j = t.get d j := by
  induction t with
  | nil => rfl
  | cons e r ih =>
    obtain ⟨a, b⟩ := e
    by_cases hak : a = k
    · subst hak
      simp [Tbl.erase, Tbl.get, ih, h]
    · simp [Tbl.erase, hak, Tbl.get, ih]

@[simp] theorem Tbl.get_set_same {κ α : Type} [DecidableEq κ] (t : Tbl κ α) (d : α) (k : κ) (v : α) :
    (Tbl.set t k v).get d k = v := by
  simp [Tbl.set, Tbl.get]

theorem Tbl.get_set_other {κ α : Type} [DecidableEq κ] (t : Tbl κ α) (d : α) (k j : κ) (v : α)
    (h : k ≠ j) : (Tbl.set t k v).get d j = t.get d j := by
  simp [Tbl.set, Tbl.get, h, Tbl.get_erase_other t d k j h]

theorem Tbl.get_set {κ α : Type} [DecidableEq κ] (t : Tbl κ α) (d : α) (k j : κ) (v : α) :
    (Tbl.set t k v).get d j = if k = j then v else t.get d j := by
  by_cases h : k = j
  · subst h; simp
  · simp [h, Tbl.get_set_other t d k j v h]

/-- A canonical store of nonzero words: addresses strictly rising, no entry zero (an unlisted
address reads as zero: R383, R390). -/
abbrev Store (w : Nat) := List (Nat × BitVec w)

/-- The word at an address. -/
def Store.get {w : Nat} : Store w → Nat → BitVec w
  | [], _ => 0
  | (b, x) :: r, a => if b = a then x else Store.get r a

/-- Remove an address. -/
def Store.erase {w : Nat} : Store w → Nat → Store w
  | [], _ => []
  | (b, x) :: r, a => if b = a then Store.erase r a else (b, x) :: Store.erase r a

/-- Insert in ascending order. -/
def Store.ins {w : Nat} : Store w → Nat → BitVec w → Store w
  | [], a, v => [(a, v)]
  | (b, x) :: r, a, v => if a < b then (a, v) :: (b, x) :: r else (b, x) :: Store.ins r a v

/-- Write a word: zero removes the entry. -/
def Store.set {w : Nat} (t : Store w) (a : Nat) (v : BitVec w) : Store w :=
  if v = 0 then t.erase a else (t.erase a).ins a v

/-- Remove every address of a range. -/
def Store.clear {w : Nat} : Store w → Nat → Nat → Store w
  | [], _, _ => []
  | (b, x) :: r, lo, n =>
    if decide (lo ≤ b) && decide (b < lo + n) then Store.clear r lo n else (b, x) :: Store.clear r lo n

/-- Every listed address is above a bound. -/
def Store.above {w : Nat} : Store w → Nat → Bool
  | [], _ => true
  | (b, _) :: r, a => decide (a < b) && Store.above r a

/-- The canonical form. -/
def Store.wf {w : Nat} : Store w → Bool
  | [] => true
  | (b, x) :: r => decide (x ≠ 0) && Store.above r b && Store.wf r

@[simp] theorem Store.get_erase_same {w : Nat} (t : Store w) (a : Nat) : (t.erase a).get a = 0 := by
  induction t with
  | nil => rfl
  | cons e r ih =>
    obtain ⟨b, x⟩ := e
    by_cases h : b = a <;> simp [Store.erase, Store.get, h, ih]

theorem Store.get_erase_other {w : Nat} (t : Store w) (a b : Nat) (h : a ≠ b) :
    (t.erase a).get b = t.get b := by
  induction t with
  | nil => rfl
  | cons e r ih =>
    obtain ⟨c, x⟩ := e
    by_cases hc : c = a
    · subst hc; simp [Store.erase, Store.get, h, ih]
    · simp [Store.erase, Store.get, hc, ih]

theorem Store.get_ins {w : Nat} (t : Store w) (a b : Nat) (v : BitVec w)
    (hm : ∀ e ∈ t, e.1 ≠ a) : (t.ins a v).get b = if a = b then v else t.get b := by
  induction t with
  | nil => by_cases hb : a = b <;> simp [Store.ins, Store.get, hb]
  | cons e r ih =>
    obtain ⟨c, x⟩ := e
    have hc : c ≠ a := hm (c, x) (by simp)
    have hr : ∀ e ∈ r, e.1 ≠ a := fun e he => hm e (by simp [he])
    by_cases hlt : a < c
    · simp [Store.ins, hlt, Store.get]
    · by_cases hb : a = b
      · subst hb; simp [Store.ins, Store.get, hlt, hc, ih hr]
      · simp [Store.ins, Store.get, hlt, hb, ih hr]

theorem Store.not_mem_erase {w : Nat} (t : Store w) (a : Nat) : ∀ e ∈ t.erase a, e.1 ≠ a := by
  induction t with
  | nil => simp [Store.erase]
  | cons e r ih =>
    obtain ⟨b, x⟩ := e
    by_cases h : b = a
    · subst h; simpa [Store.erase] using ih
    · intro e he
      simp only [Store.erase, h, if_false, List.mem_cons] at he
      rcases he with rfl | he
      · exact h
      · exact ih e he

/-- Read after write, at any two addresses. -/
theorem Store.get_set {w : Nat} (t : Store w) (a b : Nat) (v : BitVec w) :
    (t.set a v).get b = if a = b then v else t.get b := by
  unfold Store.set
  by_cases hv : v = 0
  · subst hv
    by_cases hb : a = b
    · subst hb; simp
    · simp [hb, Store.get_erase_other t a b hb]
  · simp only [hv, if_false]
    rw [Store.get_ins (t.erase a) a b v (Store.not_mem_erase t a)]
    by_cases hb : a = b
    · simp [hb]
    · simp [hb, Store.get_erase_other t a b hb]

theorem Store.above_erase {w : Nat} (t : Store w) (a k : Nat) (h : t.above k = true) :
    (t.erase a).above k = true := by
  induction t with
  | nil => rfl
  | cons e r ih =>
    obtain ⟨b, x⟩ := e
    simp only [Store.above, Bool.and_eq_true, decide_eq_true_eq] at h
    by_cases hb : b = a <;> simp [Store.erase, Store.above, hb, ih h.2]
    omega

theorem Store.wf_erase {w : Nat} (t : Store w) (a : Nat) (h : t.wf = true) : (t.erase a).wf = true := by
  induction t with
  | nil => rfl
  | cons e r ih =>
    obtain ⟨b, x⟩ := e
    simp only [Store.wf, Bool.and_eq_true] at h
    by_cases hb : b = a
    · simp [Store.erase, hb, ih h.2]
    · simp only [Store.erase, hb, if_false, Store.wf, Bool.and_eq_true]
      exact ⟨⟨h.1.1, Store.above_erase r a b h.1.2⟩, ih h.2⟩

theorem Store.above_ins {w : Nat} (t : Store w) (a k : Nat) (v : BitVec w) (h : t.above k = true)
    (hk : k < a) : (t.ins a v).above k = true := by
  induction t with
  | nil => simp [Store.ins, Store.above, hk]
  | cons e r ih =>
    obtain ⟨b, x⟩ := e
    simp only [Store.above, Bool.and_eq_true, decide_eq_true_eq] at h
    by_cases hb : a < b
    · simp [Store.ins, hb, Store.above, hk, h.1, h.2]
    · simp [Store.ins, hb, Store.above, h.1, ih h.2]

theorem Store.above_mono {w : Nat} (t : Store w) (a b : Nat) (h : t.above b = true) (hab : a ≤ b) :
    t.above a = true := by
  induction t with
  | nil => rfl
  | cons e r ih =>
    obtain ⟨c, x⟩ := e
    simp only [Store.above, Bool.and_eq_true, decide_eq_true_eq] at h ⊢
    exact ⟨by omega, ih h.2⟩

theorem Store.wf_ins {w : Nat} (t : Store w) (a : Nat) (v : BitVec w) (h : t.wf = true) (hv : v ≠ 0)
    (hm : ∀ e ∈ t, e.1 ≠ a) : (t.ins a v).wf = true := by
  induction t with
  | nil => simpa [Store.ins, Store.wf, Store.above] using hv
  | cons e r ih =>
    obtain ⟨b, x⟩ := e
    have hw := h
    simp only [Store.wf, Bool.and_eq_true, decide_eq_true_eq] at h
    have hne : b ≠ a := hm (b, x) (by simp)
    by_cases hb : a < b
    · simp only [Store.ins, hb, if_true]
      have h2 : Store.above ((b, x) :: r) a = true := by
        simp [Store.above, hb, Store.above_mono r a b h.1.2 (by omega)]
      rw [Store.wf, h2, hw]
      simpa using hv
    · simp only [Store.ins, hb, if_false, Store.wf, Bool.and_eq_true, decide_eq_true_eq]
      exact ⟨⟨h.1.1, Store.above_ins r a b v h.1.2 (by omega)⟩,
        ih h.2 (fun e he => hm e (by simp [he]))⟩

/-- A write keeps the canonical form. -/
theorem Store.wf_set {w : Nat} (t : Store w) (a : Nat) (v : BitVec w) (h : t.wf = true) :
    (t.set a v).wf = true := by
  unfold Store.set
  by_cases hv : v = 0
  · simp [hv, Store.wf_erase t a h]
  · simp only [hv, if_false]
    exact Store.wf_ins _ a v (Store.wf_erase t a h) hv (Store.not_mem_erase t a)

theorem Store.above_clear {w : Nat} (t : Store w) (lo n k : Nat) (h : t.above k = true) :
    (t.clear lo n).above k = true := by
  induction t with
  | nil => rfl
  | cons e r ih =>
    obtain ⟨b, x⟩ := e
    simp only [Store.above, Bool.and_eq_true, decide_eq_true_eq] at h
    unfold Store.clear
    split
    · exact ih h.2
    · simp [Store.above, h.1, ih h.2]

theorem Store.wf_clear {w : Nat} (t : Store w) (lo n : Nat) (h : t.wf = true) :
    (t.clear lo n).wf = true := by
  induction t with
  | nil => rfl
  | cons e r ih =>
    obtain ⟨b, x⟩ := e
    simp only [Store.wf, Bool.and_eq_true] at h
    unfold Store.clear
    split
    · exact ih h.2
    · simp only [Store.wf, Bool.and_eq_true]
      exact ⟨⟨h.1.1, Store.above_clear r lo n b h.1.2⟩, ih h.2⟩

theorem Store.get_clear {w : Nat} (t : Store w) (lo n a : Nat) :
    (t.clear lo n).get a = if lo ≤ a ∧ a < lo + n then 0 else t.get a := by
  induction t with
  | nil => simp [Store.clear, Store.get]
  | cons e r ih =>
    obtain ⟨b, x⟩ := e
    unfold Store.clear
    split
    · rename_i hc
      simp only [Bool.and_eq_true, decide_eq_true_eq] at hc
      rw [ih]
      by_cases hb : b = a
      · subst hb; simp [hc]
      · simp [Store.get, hb]
    · rename_i hc
      simp only [Bool.and_eq_true, decide_eq_true_eq] at hc
      by_cases hb : b = a
      · subst hb; simp [Store.get, hc]
      · simp [Store.get, hb, ih]

end Sys2Proof.Machine
end

