-- ==== Sys2Proof/Machine/State.lean ====
section
/-! DEFINITION. The state of the device as plain data: the registers of the register map, the processors,
the cases, the network, the memories and every sequencer of the spec, and the queue of waiting commands. -/

namespace Sys2Proof.Machine
open Sys2Proof

/-- A register instance: its name and its indices, die first (R13). -/
structure RKey where
  n : RegName
  ix : List Nat
  deriving DecidableEq, Repr

/-- The hidden mark of a general or vector register (R87, R133): poison and error hold the address of the load. -/
inductive Mark where
  | none
  | poison (a : W64)
  | error (a : W64)
  deriving DecidableEq, Repr

/-- A register of a register file (R378, classes 3, 4 and 7). -/
inductive RfRef where
  | g (n : Nat) | v (n : Nat) | a (n : Nat) | p (n : Nat) | sys (n : Nat)
  deriving DecidableEq, Repr

/-- The states of R72 and of `die[d].ctl.status`. -/
inductive RunState where
  | stopped | running | armed | halted | faultStopped | migrating
  deriving DecidableEq, Repr

/-- A reservation: its 64-byte granule and the size of its access (R105). -/
structure Resv where
  granule : Nat
  size : Nat
  deriving DecidableEq, Repr

/-- What becomes of the result of a case or remote access of a processor. -/
inductive Dest where
  | load (rd : Nat) (sz : BitVec 3)
  | atomic (rd : Nat) (dw : Bool)
  | lkl (rd : Nat) (dw : Bool)
  | stu (rd : Nat)
  | store
  /-- a cached load of a core: the line that its cache reads (R100); `keep` says that the cache may hold the line -/
  | line (rd : Nat) (sz : BitVec 3) (keep : Bool)
  /-- the fetch of a core's next instruction (R112), from `addr`; `keep` as for a line -/
  | fetch (keep : Bool)
  /-- the result of a pair that its engine never issues again (R208, R215): written nowhere -/
  | drop
  deriving DecidableEq, Repr

/-- An outstanding access of a processor (R70): `remote` is false at the case port. -/
structure Pend where
  id : Nat
  remote : Bool
  addr : Nat
  len : Nat
  dest : Dest
  deriving DecidableEq, Repr

/-- A return that arrived while its engine was halted (R224, R659). -/
structure Held where
  id : Nat
  status : Nat
  data : Nat
  bad : Nat
  deriving DecidableEq, Repr

/-- One processor: an engine, a die control core or the guard core (R85, R88, R125, R128, R136). -/
structure UnitState where
  g : Tbl Nat W64
  gm : Tbl Nat Mark
  v : Tbl Nat W512
  vm : Tbl Nat Mark
  a : Tbl Nat W1536
  p : Tbl Nat W32
  /-- The stored 13-bit words of the register files that are not the code word of the byte that they deliver, by register and
  byte (R378, R385): the registers hold what R380 delivers. -/
  rf : Tbl (RfRef × Nat) (BitVec 13)
  sys : Tbl Nat W64
  pc : W64
  st : RunState
  /-- The state that Halted and Migrating return to (R72). -/
  back : RunState
  /-- STOP is requested or HALT has executed (R72). -/
  stopping : Bool
  lastCause : BitVec 8
  outs : List Pend
  nextId : Nat
  resv : Option Resv
  /-- Cause 33 is pending, with the access address (R123). -/
  posted : Option W64
  /-- Cause 34 is pending (R666). -/
  wdog : Bool
  /-- Events that have reached this processor and are not yet taken (R681). -/
  delivered : List Nat
  /-- The pair that waits at issue on WEV (R119). -/
  wev : Option (SInstr × VInstr)
  /-- Why the unit waits at issue: 0 it does not, 1 a wait that R78 covers, 2 a wait that R81 counts. -/
  stall : Nat
  /-- Returns that wait for the end of a halt, oldest first (R659). -/
  held : List Held
  /-- A resume (1) or a step (2) waits for the recorded slot (R659, R660). -/
  resume : Nat
  /-- The processor issues one pair and then halts (R660). -/
  stepping : Bool
  /-- Successive residue mismatches of the pair at pc (R212, RUN of `rlog`). -/
  mismRun : Nat
  /-- The locked sequence under way (R110): 0 none, 1 to 17 one more than the fetch units since LKL, 18 a sequence that
  breaks the rule. -/
  lkSeq : Nat
  /-- The requests that discarded pairs have already sent, in program order: the address of the pair and the access (R209). -/
  sent : List (W64 × Nat)
  /-- A debug halt that waits for the end of a migration pause (R230). -/
  haltDue : Bool
  /-- The lines of DRAM that the data cache of a core holds, by address / 64 (R100, R102). -/
  dlines : Tbl Nat W512
  /-- The lines that the instruction cache of a core holds. -/
  ilines : List Nat
  /-- The stored 13-bit words of the caches that are not the code word of their byte (R378, R385): whether of the instruction
  cache, the line and the byte. -/
  cflaws : Tbl (Bool × Nat × Nat) (BitVec 13)
  /-- The fetch of a core that has arrived and not yet issued: its address, its STATUS and its poisoned bytes (R112,
  R121). -/
  fetched : Option (Nat × Nat × Nat)
  deriving DecidableEq, Repr

/-- The requesters of a bank (R165), an engine by its position. -/
inductive Requester where
  | eng (p : Nat) | dma | inb | dbg
  deriving DecidableEq, Repr

/-- One bank access (R164); `status` is the read of a scrub engine (R398). -/
inductive BankOp where
  | read
  | status
  | write (data : Nat) (bad : Nat)
  | atomic (afn : BitVec 3) (dw : Bool) (b c : W64)
  | stu (data : W64)
  deriving DecidableEq, Repr

/-- What a bank access is for: the outstanding access of an engine, a piece of a DMA channel, a line of an
inbound request, or a debug access. -/
inductive BankUse where
  | eng (id : Nat)
  | dma (k piece : Nat)
  | inb (id : Nat) (off : Nat)
  | dbg (id : Nat) (off : Nat)
  deriving DecidableEq, Repr

/-- A request waiting at a bank: `age` counts the arbitration phases it has entered (R177), `pri` the packet
priority of an inbound request (R167). -/
structure BankReq where
  who : Requester
  off : Nat
  len : Nat
  op : BankOp
  use : BankUse
  pri : Nat
  age : Nat
  deriving DecidableEq, Repr

/-- A request (R306, R308): `data` is the payload of a write, low byte first, or the operand of an atomic; `acc`
names the open access of its initiator and `off` the place of this request in it (R309); `ca` is the channel address that the map
of its die gave, for DRAM (R310, R411). -/
structure Req where
  who : Who
  op : ReqOp
  addr : Nat
  len : Nat
  data : Nat
  cmp : W64
  afn : BitVec 3
  lock : Bool
  quiet : Bool
  ord : Bool
  pri : Nat
  pmask : Nat
  acc : Nat
  off : Nat
  ca : Nat := 0
  deriving DecidableEq, Repr

/-- A response (R308, R313, R331). -/
structure Resp where
  who : Who
  op : ReqOp
  tag : Nat
  gen : Nat
  status : Nat
  data : Nat
  len : Nat
  pmask : Nat
  deriving DecidableEq, Repr

/-- A packet in flight: a request with its tag and its destination, or a response; `xport` is the crossing port that it
has still to cross (R320), and `hdr` the header that it was injected with (R306). -/
inductive Pkt where
  | req (r : Req) (tag gen : Nat) (dst : Nat) (xport : Nat) (hdr : Nat)
  | resp (r : Resp) (xport : Nat) (hdr : Nat)
  deriving DecidableEq, Repr

/-- A flit in the mesh (R305, R316), with the header of its packet and its number in it. -/
structure MeshFlit where
  hdr : Nat
  head : Bool
  last : Bool
  flit : Nat
  idx : Nat := 0
  deriving DecidableEq, Repr

/-- A flit that waits at a crossing port (R323): its queue (R348), the `noc` cycle in which it came (R197), and the port
that it was handed to (R368); `hdr`, `idx` and `last` as for a flit in the mesh. -/
structure OutFlit where
  q : Nat
  head : Bool
  flit : Nat
  stamp : Nat
  at_ : Nat
  hdr : Nat := 0
  idx : Nat := 0
  last : Bool := true
  deriving DecidableEq, Repr

/-- An error in a buffer of class 5 (R378): the die, the place (ADDR of `elog`: a router, or 64 and a crossing port), the flit by its
packet and its number in it, the byte of the flit, and the bits by which its stored word differs from a code word. -/
structure NetFlaw where
  die : Nat
  place : Nat
  hdr : Nat
  idx : Nat
  byte : Nat
  bits : BitVec 13
  deriving DecidableEq, Repr

/-- A sequenced frame (R348, R349); `pid` is the port whose traffic it carries, `first` the `noc` cycle in which it was
first sent and `last` that of its last transmission (R354, R355); `hdr` and `idx` name its flit as for a flit in the mesh. -/
structure SentFrame where
  seq : Nat
  q : Nat
  crdQ : Nat
  crdN : Nat
  head : Bool
  flit : Nat
  pid : Nat
  first : Nat
  last : Nat
  hdr : Nat := 0
  idx : Nat := 0
  deriving DecidableEq, Repr

/-- What a training message says (R359). -/
structure TrainMsg where
  mapX : Nat
  mapY : Nat
  epoch : Nat
  nextSeq : Nat
  w : Nat
  capW : Nat
  floorW : Nat
  noState : Bool
  deriving DecidableEq, Repr

/-- A crossing port: `coming` holds the flits of a packet that comes from the mesh, by queue, `out` those of its own traffic
that wait to be sent, `retry` the frames that are not yet acknowledged and `resend` how many of the last of them are still to
be sent again (R354), `credits` those spent and `earned` those to return, by queue (R353), `rxq` the frames that wait for
their hand-over, `part` the flits of an incomplete packet (R355, R357) and `enter` those of the complete ones, which enter the
mesh. `propose`, `confirm` and `commit` are the messages of the present attempt, `theirs` the partner's PROPOSE, `fails` an
agreement that fails (R358 to R360). -/
structure LinkState where
  coming : Tbl Nat (List MeshFlit)
  out : List OutFlit
  retry : List SentFrame
  resend : Nat
  txSeq : Nat
  rxSeq : Nat
  nak : Bool
  nakDue : Bool
  credits : Tbl Nat Nat
  earned : Tbl Nat Nat
  rxq : List SentFrame
  part : Tbl Nat (List Nat)
  enter : Tbl Nat (List MeshFlit)
  badRun : Nat
  sameRun : Nat
  beat : Bool
  heard : Option Nat
  initial : Bool
  late : Bool
  hold : Bool
  propose : Option TrainMsg
  theirs : Option TrainMsg
  confirm : Option TrainMsg
  commit : Option TrainMsg
  fails : Bool
  /-- the traffic has left the port and not returned; the hold of R367 has passed -/
  left : Bool
  held : Bool
  /-- the spares and the width step of the last commit (R377) -/
  spares : Nat
  cw : Nat
  /-- one more than the port that sends this port's traffic (R368); 0 for the port itself -/
  via : Nat
  /-- the `noc` cycles in which the port entered its state, its deadline timer started (R366), its last good frame came
  (R363), its last heartbeat fell due (R350), the last flit left the carrier that the traffic leaves (R368), a frame of
  a queue was last handed over (R356), and the last commit (R367) -/
  since : Nat
  dead : Nat
  goodAt : Nat
  beatAt : Nat
  drainAt : Nat
  handAt : Tbl Nat Nat
  commitAt : Nat
  deriving DecidableEq, Repr

/-- What the outcome of an open access is for. -/
inductive AccUse where
  /-- the outstanding access of a processor -/
  | unit (id : Nat)
  /-- a piece of case DMA channel `k`: its network read or its network write -/
  | dmaRead (k : Nat) (piece : Nat)
  | dmaWrite (k : Nat) (piece : Nat)
  /-- a scrub read, a scrub repair and the proof sheet (R398, R399, R401) -/
  | scrubRead | scrubRepair | scrubSheet
  /-- the debug initiator (R654) -/
  | debug
  /-- a stage of a frame of an Ethernet controller, and its MACsec record (R464, R468) -/
  | ethJob (job : Nat)
  | ethSa
  /-- an inbound request of PCI Express (R475) -/
  | pcieIn
  /-- a request of the composing context of a die (R524) -/
  | comp
  /-- a design: the outcome leaves the model's state -/
  | outside
  deriving DecidableEq, Repr

/-- An open access: one outcome for all its pieces (R309). -/
structure Acc where
  id : Nat
  use : AccUse
  op : ReqOp
  addr : Nat
  len : Nat
  left : Nat
  data : Nat
  bad : Nat
  /-- the lowest failing piece: its address and STATUS -/
  fail : Option (Nat × Nat)
  deriving DecidableEq, Repr

/-- A tag in use (R326): TMO_EXP as it was at the injection, the `noc` cycles that its timer has counted, and the response
that a fabric port holds behind its quoins (R556). -/
structure OutTag where
  tag : Nat
  gen : Nat
  req : Req
  dst : Nat
  xport : Nat
  exp : Nat
  age : Nat
  /-- the response that the interface holds, and its header (R318, R556) -/
  got : Option Resp
  gotHdr : Nat := 0
  deriving DecidableEq, Repr

/-- One initiator interface. -/
structure InitState where
  queue : List Req
  outs : List OutTag
  accs : List Acc
  nextAcc : Nat
  /-- the generation of each tag, and its expired requests without a genuine response (R327, R329) -/
  gens : Tbl Nat Nat
  stale : Tbl Nat Nat
  /-- the tokens of the priority-3 regulator that are taken, in units of 1/256 token (R325) -/
  p3 : Nat
  deriving DecidableEq, Repr

/-- A descriptor of the case DMA (R187). -/
structure DmaDesc where
  ext : Nat
  coff : Nat
  len : Nat
  rows : Nat
  dir : Bool
  loc : Bool
  slot : Nat
  evt : Bool
  ord : Bool
  pri : Nat
  estr : Int
  cstr : Int
  deriving DecidableEq, Repr

/-- A piece that has been issued and not yet written (R188); `got` is source data that waits for an engine in a migration
pause (R229). -/
structure DmaPiece where
  id : Nat
  coff : Nat
  ext : Nat
  len : Nat
  got : Option Nat
  deriving DecidableEq, Repr

/-- One channel of the case DMA. -/
structure DmaChan where
  desc : Option DmaDesc
  row : Nat
  off : Nat
  live : List DmaPiece
  nextPiece : Nat
  /-- STAT and CAUSE of a failure that waits for outstanding responses (R189) -/
  err : Option (Nat × Nat)
  deriving DecidableEq, Repr

/-- A network request that waits for its lines at the inbound port, or a debug access (R167). -/
structure InbReq where
  id : Nat
  req : Req
  tag : Nat
  gen : Nat
  left : Nat
  data : Nat
  bad : Nat
  deriving DecidableEq, Repr

/-- A migration in its pause (R220): the source position, the recorded slot counter q, the former state, and how far it
is: 1 after step 2, 2 and 3 after step 8 with both comparisons equal or not, 4 and 5 after step 10 likewise. -/
structure Migr where
  src : Nat
  q : Nat
  stage : Nat
  deriving DecidableEq, Repr

/-- One case: the requests at its banks, its DMA channels, its mismatch histories (R213), the events held back
by its quoin (R557), and the migration in its pause (R220). -/
structure CaseState where
  waiting : List BankReq
  inb : List InbReq
  dma : Tbl Nat DmaChan
  nextId : Nat
  mism : Tbl Nat (List Nat)
  defer : List Nat
  migr : Option Migr
  deriving DecidableEq, Repr

/-- A block RAM: its queue controller (R265 to R271) and the read outputs of its ports (R260, R261). -/
structure BlockState where
  cnt : Nat
  rd : Nat
  wr : Nat
  ovf : Bool
  unf : Bool
  outA : Nat
  outB : Nat
  corrA : Bool
  corrB : Bool
  poisonA : Bool
  poisonB : Bool
  /-- the write and the read edges for which FULL and EMPTY, and AFULL and AEMPTY, still show the state before (R269) -/
  lateW : Nat
  lateR : Nat
  lateAf : Nat := 0
  lateAe : Nat := 0
  deriving DecidableEq, Repr

/-- A storage element of the fabric and of the pads, by its die and galley. -/
inductive FabKey where
  /-- a user register (R237, R238), 1 when it differs from its initial value, and a wire register (R247) -/
  | reg (d g col cl r : Nat)
  | wire (d g w : Nat)
  /-- an arithmetic block (R254, R255): its output with PREOVF at bit 96 and ACCOVF at bit 97, and its pipeline registers -/
  | arith (d g col row : Nat)
  | pipe (d g col row k : Nat)
  /-- a seam group (R249, R250): the transmit stage, the phase-tracking buffer and the receive stage, by edge and group -/
  | seamTx (d g e grp : Nat)
  | seamBuf (d g e grp : Nat)
  | seamRx (d g e grp : Nat)
  /-- the value that a quoin holds (R554) -/
  | held (d g : Nat) (sig : QSig)
  /-- the pad registers (R294), 0 input and 1 output, and the words of a serialised pin (R298), by the pin's place in its galley -/
  | pad (d g k dir : Nat)
  | wordIn (d g k : Nat)
  | wordOut (d g k : Nat)
  /-- the level that the net of a local clock last had (R272) -/
  | localClk (d g k : Nat)
  /-- a registered loupe pin (R668) -/
  | loupe (d k : Nat)
  deriving DecidableEq, Repr

/-- The die and galley of a storage element; none for a loupe pin. -/
def FabKey.home : FabKey → Option (Nat × Nat)
  | .reg d g _ _ _ | .wire d g _ | .arith d g _ _ | .pipe d g _ _ _ | .seamTx d g _ _ | .seamBuf d g _ _ | .seamRx d g _ _
  | .held d g _ | .pad d g _ _ | .wordIn d g _ | .wordOut d g _ | .localClk d g _ => some (d, g)
  | .loupe _ _ => none

/-- A latch of a quoin. -/
def FabKey.isHeld : FabKey → Bool
  | .held _ _ _ => true
  | _ => false

/-- A line of a request that waits at a DDR4 controller (R422): `off` is its place in the request, `lo` and `len` its
bytes in the line, `cls` its service class (R423), `age` its `mem` cycles in the queue, `panic` a line that panic
raised (R427). -/
structure DramEntry where
  id : Nat
  rid : Nat
  line : Nat
  lo : Nat
  len : Nat
  off : Nat
  op : ReqOp
  data : Nat
  bad : Nat
  cls : Nat
  age : Nat
  panic : Bool
  /-- the line is in the real-time input buffer, before the queue (R422) -/
  buf : Bool := false
  deriving DecidableEq, Repr

/-- A request under way at a DDR4 controller; `perf` is whether a locked write is performed, once its first line has decided
(R312). -/
structure DramReq where
  rid : Nat
  req : Req
  tag : Nat
  gen : Nat
  left : Nat
  data : Nat
  bad : Nat
  status : Nat
  perf : Option Bool := none
  deriving DecidableEq, Repr

/-- A fill slot: its granule, the done vector of its 1,024 lines (R392), and the `mem` cycles for which its next line has waited
(R394, R423). -/
structure FillSlot where
  granule : Nat
  done : Nat
  age : Nat := 0
  deriving DecidableEq, Repr

/-- One DDR4 controller: its queue, the open row of each bank, its fill slots (R392), the map bytes in map loss
(R396), and its locked reservations by source endpoint (R312). -/
structure DdrState where
  queue : List DramEntry
  reqs : List DramReq
  nextId : Nat
  rows : Tbl Nat Nat
  slots : List FillSlot
  lost : List Nat
  resv : List (Nat × Nat)
  /-- a clear that waits for the requests accepted before it: the first later entry, FIRST and COUNT (R395) -/
  clr : Option (Nat × Nat × Nat)
  deriving DecidableEq, Repr

/-- A scrub pass (R397 to R403). -/
structure ScrubState where
  base : Nat
  last : Nat
  sheet : Nat
  repair : Bool
  next : Nat
  lines : Nat
  clean : Nat
  corr : Nat
  uncorr : Nat
  unwr : Nat
  lost : Nat
  repaired : Nat
  repfail : Nat
  firstUe : Nat
  /-- one more than the `noc` cycle of the last read (R398); 0 before the first -/
  readAt : Nat
  deriving DecidableEq, Repr

/-- The on-chip memories and DRAM: the byte at each location, the bits by which its stored 13-bit word differs from
the code word of that byte (R378 to R382), and the bits by which the 72 symbols of a stored DRAM line differ from
the code word of its bytes, by line (R413). -/
structure Mem where
  bytes : List Host.Cell
  flaws : Store 13
  lines : Store 576
  deriving DecidableEq, Repr

/-- The outcome of the last access made by a command: STATUS, data and the poisoned sectors (R313, R331). It is the
model's own observation of the response. -/
structure Answer where
  status : Nat
  data : W64
  pmask : Nat
  deriving DecidableEq, Repr

/-- A pattern checker (R455): the last bits of its pattern, how many of them it has taken from the received data, the bits
without an error since then, and which of the last 128 bits were wrong. -/
structure Checker where
  state : Nat
  seed : Nat
  good : Nat
  win : List Bool
  deriving DecidableEq, Repr

/-- A serial lane: the bins of its histogram by level and bin (R457), the words of its raw transmit buffer (R459),
whether less than 1 µs has passed since its OWNER changed (R440), and whether its `cfg` has been written (R440); the last
symbols of the two precoders (R448), one more than the state of the pattern generator (R453), the levels of the last word on
the transmit pins (R447, R449), and the last word received (R459); the FFE taps in use (R451), the checker (R455) and the
elastic buffer of far-end loopback (R458). -/
structure LaneState where
  bins : Tbl Nat Nat
  tx : List Nat
  settling : Bool
  written : Bool
  txSym : Nat
  rxSym : Nat
  gen : Nat
  line : List Int
  rx : Nat
  ffe : List (BitVec 8) := []
  chk : Checker := { state := 0, seed := 0, good := 0, win := [] }
  elastic : List Int := []
  deriving DecidableEq, Repr

/-- A frame under way at an Ethernet port (R464): its ring, the index of its descriptor and what is still to do: 0 the
descriptor is read, 1 the data moves, 2 the descriptor is written back, 3 done; 4 a frame to send waits for a packet number
(R469). `ts` is the timestamp of a received frame, or until it leaves the delay that its command gave. -/
structure EthJob where
  id : Nat
  port : Nat
  tx : Bool
  ring : Nat
  idx : Nat
  stage : Nat
  data : Nat
  len : Nat
  ts : Nat
  desc : Nat
  deriving DecidableEq, Repr

/-- A MACsec association (R467, R468): its record, its next or lowest PN. -/
structure EthSa where
  record : Nat
  pn : Nat
  deriving DecidableEq, Repr

/-- An Ethernet controller: its frames, its associations by port, direction, channel and AN, and the ports that hold
their lanes (R462). -/
structure EthState where
  jobs : List EthJob
  nextId : Nat
  sas : Tbl (List Nat) EthSa
  up : List Nat
  /-- `saload` as it was at its GO (R468) -/
  load : W64
  /-- the last frame that each port has sent: its length and its bytes, as the line carries them (R464 to R467) -/
  line : Tbl Nat (Nat × Nat) := []
  /-- the pause of each priority of each port, in units of 1/8 bit time (R463) -/
  paused : Tbl Nat Nat := []
  deriving DecidableEq, Repr

/-- The timing unit: the bytes that its UART has received (R508), its authentication keys by die and slot with their KEYID
(R499), and the state of its sources and its servo. Times are in units of 2^−48 ns. -/
structure TimeState where
  now : Nat
  follow : Tbl Nat Nat
  uart : List Nat
  keys : Tbl (Nat × Nat) (Nat × Nat)
  /-- edges of PPS_IN near an even and an odd second: how many, the offset in units of 2^−16 ns, a TOD mismatch -/
  pps : Tbl Nat (Nat × Int × Bool)
  /-- the value last written to `meas` of a source in this second (R491) -/
  meas : Tbl Nat Int
  /-- successive evaluations that agree and disagree, and silent seconds, of a source (R493) -/
  agree : Tbl Nat Nat
  disagree : Tbl Nat Nat
  silent : Tbl Nat Nat
  /-- sources that ADMIT has admitted -/
  admitted : List Nat
  /-- the model clock M minus device time, in units of 2^−16 ns (R494) -/
  model : Int
  /-- successive seconds within, or beyond, 100 ns; the seconds in holdover (R497) -/
  good : Nat
  bad : Nat
  holdSecs : Nat
  /-- NS has carried into SEC and the evaluation of that second is still to come (R493) -/
  due : Bool
  /-- a step of the servo that is pending, in units of 2^−16 ns (R484) -/
  servoStep : Option Int
  /-- successive failed sensor reads (R501), the last frame of the tuning port (R502), the oscillator is lost (R503) -/
  sensorFails : Nat
  dacFrame : Nat
  xoLost : Bool
  /-- the level of PPS_OUT, and the last byte sent on TODTX -/
  ppsOut : Bool
  uartTx : Nat
  /-- the rate of each follower, in units of 2^−48 ns a `time` cycle (R485) -/
  rates : Tbl Nat Int := []
  /-- in the last frame NS has passed 500,000,000 with a step pending (R484), device time has crossed a second plus PPSOFF (R505),
  and SYSREF has had this many ticks (R506) -/
  halfDue : Bool := false
  ppsDue : Bool := false
  sysDue : Nat := 0
  /-- `src[s].cfg` and `vote` as the last evaluation took them (R495) -/
  cfgs : Tbl Nat W64 := []
  vote : W64 := 0x012C0508140FA0C8#64
  /-- the offset of the selected source in the last evaluation (R484) -/
  selOff : Option Int := none
  /-- the evaluations since M was aligned to device time (R494) -/
  alignSecs : Nat := 0
  /-- the Locked seconds in each of the last 72 hours, the newest first, and the seconds of the newest (R500) -/
  window : List Nat := []
  windowSecs : Nat := 0
  /-- the address, the register and the rate in kHz of the last read of the sensor (R501) -/
  i2c : Nat × Nat × Nat := (0, 0, 0)
  /-- the `noc` cycles that the byte on TODTX still takes (R508), and `authload` as it was at a GO that is under way (R499) -/
  uartLeft : Nat := 0
  auth : Option W64 := none
  deriving DecidableEq, Repr

/-- A request that waits for the guard core (R543, R580), in the order of the GO writes. `unlock` is a debug unlock
attempt; `fop` says whether the debug initiator wrote GO. -/
inductive GuardJob where
  | pload | fop | fuse | attest | unlock
  deriving DecidableEq, Repr

/-- Bytes of one CONFIG segment in a forme queue (R523): `pos` is the payload offset of the first of them. -/
structure QSeg where
  seg : Nat
  plen : Nat
  pos : Nat
  data : Nat
  len : Nat
  deriving DecidableEq, Repr

/-- The configuration instruction under way in a composing context (R526): what is left of it. -/
inductive Doing where
  | idle
  | wreg (w64 : Bool) (addr left : Nat)
  | wmem (addr left : Nat)
  | frame (g fa left : Nat)
  | rbc (g fa left : Nat) (strict shadow : Bool)
  | poll (w64 : Bool) (addr : Nat) (mask value : W64) (asked : Bool)
  | call
  | sync (m tag : Nat)
  deriving DecidableEq, Repr

/-- The composing context of a die (R523): its forme queue, the instruction under way with its segment and payload
offset, its requests without a response, the value last polled, a failed request, and the ENTRY of its FINAL. -/
structure CompState where
  q : List QSeg
  doing : Doing
  seg : Nat
  pos : Nat
  outs : Nat
  got : Option W64
  failed : Bool
  final : Option Nat
  /-- M and TAG of each SYNC that the die has executed (R526) -/
  syncs : List (Nat × Nat) := []
  deriving DecidableEq, Repr

/-- The preamble of a forme (R515), and the hash that its signature covers (R520). -/
structure Preamble where
  partial_ : Bool
  folio : Nat
  length : Nat
  nseg : Nat
  owner : Nat
  enc : Bool
  gmask : Nat
  cmask : Nat
  salt : Nat
  hash : Nat
  deriving DecidableEq, Repr

/-- A directory entry (R516), with its 64 bytes. -/
structure DirEntry where
  code : Bool
  die : Nat
  sramOff : Nat
  offset : Nat
  plen : Nat
  hash : Nat
  raw : Nat
  deriving DecidableEq, Repr

/-- Where a load stands: none, a full or partial load that delivers chunks, and a partial load that has failed, which
PLOAD_END has still to report (R535, R540, R541). -/
inductive LoadStage where
  | idle | full | writing | reject | failw
  deriving DecidableEq, Repr

/-- The load under way: where its forme starts, its header and directory, the next segment and chunk, the chunk table of
that segment, and the released bytes that wait for room in the queue of a die (R522, R523). -/
structure LoadState where
  stage : LoadStage
  base : Nat
  pre : Preamble
  dir : List DirEntry
  seg : Nat
  chunk : Nat
  table : Nat
  rest : Option (Nat × QSeg)
  /-- the result code of a partial load that has failed -/
  res : Nat
  deriving DecidableEq, Repr

/-- Forme selection (R535): the copy chosen (0 recto, 1 verso, 2 standing), the copies tried, and those that passed
their header checks, with their FOLIO. -/
structure SelState where
  chosen : Option Nat
  tried : List Nat
  good : List (Nat × Nat)
  deriving DecidableEq, Repr

/-- What the guard core keeps for security: the SCOPE and DURATION of the unlock in force (R587), whether debug was
unlocked since guard domain start, OWNER and FHASH of the loaded forme, PHASH and PCOUNT (R584, R585). -/
structure SecState where
  scope : Nat
  duration : Nat
  ever : Bool
  owner : Nat
  fhash : Nat
  phash : Nat
  pcount : Nat
  deriving DecidableEq, Repr

/-- The IEEE 1149.1 port: the opcode in effect, the boundary register as captured and as driven (R670, R671), and what
DREG captures (R649). -/
structure TapState where
  ir : Nat
  captured : Nat
  boundary : Nat
  dr : W64
  res : Nat
  deriving DecidableEq, Repr

/-- The variables of the device's sequencers that no register of the register map shows. -/
inductive HidName where
  /-- The slot counter of a case (R69). -/
  | slotCtr
  /-- The `eng` cycles of a case that its arbitration has counted (R177, R182). -/
  | caseCycle
  /-- The cycle in which SWAP of `imp.ctl` took effect (R171). -/
  | swapAt
  /-- The cycle in which GO of the case start took effect (R73). -/
  | startAt
  /-- One more than the cycle of the last emergency revoke of a case; 0 when none has been taken (R182). -/
  | lastRevoke
  /-- The case DMA channel served last, plus one (R188). -/
  | dmaTurn
  /-- 1 while the device is in a clock wait (R602). -/
  | clkWait
  /-- The slot counter q that the halt of an engine recorded, by die, case and position (R658). -/
  | haltSlot
  /-- 1 while a case is halted as a whole (R657, R661). -/
  | caseHalted
  /-- 1 when a self-test of the unnumbered position passed since the migration that vacated it (R218). -/
  | spareTested
  /-- TKIND of the self-test under way of a die (R629). -/
  | bistKind
  /-- UNIT of the self-test under way of a die (R629). -/
  | bistUnit
  /-- POS of the self-test under way of a die (R629). -/
  | bistPos
  /-- The parts of the self-test under way that are still to run: bit 0 logic, bit 1 memory (R630); bit 2 is REPAIR, bit 3 says that it ended early (R643), bit 4 that a reset of the case around a position is still due (R612). -/
  | bistParts
  /-- Which of the two configuration planes of a galley is live (R546). -/
  | livePlane
  /-- 1 when the live data array of a block RAM is not that of the live plane (R551). -/
  | ramSkew
  /-- The present tap of the transmit delay line of a quick pin (R299). -/
  | txTap
  /-- The present tap of the receive delay line of a quick pin (R299). -/
  | rxTap
  /-- The `cfg` of a DDR4 controller as it was at its last INIT (R437). -/
  | ddrCfg
  /-- 1 while writes rank before reads at a DDR4 controller (R425). -/
  | wrMode
  /-- Refresh issued to a rank beyond its whole 1x-equivalents, in quarters (R433). -/
  | refPart
  /-- 1 while a rank is in precharge power-down (R426). -/
  | powerDown
  /-- Ranks that still owe a centring pass for RETRAIN, one bit each (R436). -/
  | centring
  /-- 1 while the PANIC input of a fabric port is 1 (R427). -/
  | panic
  /-- The SRAM line that the patrol of a control core reads next (R400). -/
  | patrol
  /-- 1 while a port that has committed owes its echo exchange (R486). -/
  | echo
  /-- The one-way delay of a port, in units of 2^−16 ns, as its last echo exchange measured it (R486). -/
  | echoDelay
  /-- 1 while FAULT is deasserted, its line driven low (R302). -/
  | faultOff
  /-- 1 after guard domain start (R625). -/
  | guardUp
  /-- 1 when the helper data have rebuilt K_puf at the last guard domain start (R575). -/
  | identity
  /-- 1 while the reference is proven (R597). -/
  | proven
  /-- 1 for a port that was Active at a source failure and has not yet resumed (R603). -/
  | ckPort
  /-- 1 for a die that stays Held until the guard core next enters Probe (R617, R622). -/
  | dieWait
  /-- 1 while a core supply of the die is out of tolerance (R622). -/
  | supplyOut
  /-- 1 when TEMP has not fallen below TLIM − 5 °C since THOT was set (R704). -/
  | thotArmed
  /-- Triggers of a die's own GO that wait for their check (R565). -/
  | xswapOwn
  /-- A trigger under way from a die to another: 1 sent, 2 sent while no port was Active (R565, R566). -/
  | xswapSent
  /-- The run of a memory self-test under way: 0 the first, 1 the second, 2 the second after a bit that could not be repaired (R635, R637). -/
  | bistRun
  /-- OP, farg and fbuf of the flash operation that waits, as they were at its GO (R543). -/
  | fopArg
  /-- The address of a security request that waits, as it was at its GO (R577, R584). -/
  | reqAddr
  /-- 1 when the forme key was unwrapped at the last guard domain start (R583). -/
  | fkReady
  /-- 1 when the flash operation at the front has moved its data, 2 when it failed (R543). -/
  | fopRan
  /-- 1 after a wait limit has reset the dies: the guard core enters Probe when the source returns (R605). -/
  | reselect
  /-- CYCLE of a die control core, by die, or of the guard core: the clock cycles since its reset (R125). -/
  | ctlCycle
  /-- The `noc` cycles that have passed (R192, R326, R354, R355). -/
  | nocCycle
  /-- The slot counter of the crossing ports of a die (R192). -/
  | portSlot
  /-- One more than the cycle in which a crossing port last sent a flit of its table (R192). -/
  | portSent
  /-- One more than the width step whose plane a crossing port reads from the next slot 0 (R196, R362); 0 when none waits. -/
  | planeNext
  /-- The cycle in which SWAP of a crossing port took effect (R198). -/
  | xportAt
  /-- One more than the input whose packet an output of a router is sending, by die, router, output and queue (R324). -/
  | meshOpen
  /-- One more than the crossing port by which a channel of a die last sent to another die (R370). -/
  | chanPort
  /-- The `mem` cycles for which a rank has had no queued entry and no refresh due (R426). -/
  | rankIdle
  /-- 1 while the last command of a channel was a refresh of the rank (R436). -/
  | refNow
  /-- The edges that have passed of a source change of a user clock network: three of the old source and three of the new (R273). -/
  | clkEdges
  /-- 1 while the net of a local clock of a galley rises (R272). -/
  | localRise
  /-- One more than the `noc` cycle in which a local clock of a galley last rose; 0 before the first (R272). -/
  | localAt
  /-- 1 while the quoins of a galley open (R555). -/
  | quoinOpening
  /-- The user clock networks of a galley that have had an edge since its quoins began to open, one bit each (R555). -/
  | openNets
  /-- The packet whose flits a fabric port is writing into its queue: 0 for none (R287). -/
  | portPkt
  /-- The entries of that packet that are in the queue (R287). -/
  | portDone
  /-- 1 while a JESD204C link holds a boundary of its local clock (R479). -/
  | jesdBound
  /-- The `noc` cycles, up to 4, for which an event net of a galley has been high; 4 for a level that raises nothing more (R679). -/
  | eventHigh
  /-- 1 when an event net of a galley has risen and held for two `ctl` cycles, and its event is still to be raised (R679). -/
  | eventOwed
  deriving DecidableEq, Repr

/-- A sequencer variable with its indices. -/
structure HKey where
  n : HidName
  ix : List Nat
  deriving DecidableEq, Repr

/-- The state of the device. -/
structure State where
  /-- the registers of the register map (R12 to R18); an unlisted register holds its reset value -/
  regs : Tbl RKey W64
  /-- the variables of the device's sequencers -/
  hid : Tbl HKey Nat
  /-- the processors (R84, R85) -/
  units : Tbl UnitId UnitState
  /-- the cases, by die and case -/
  cases : Tbl (Nat × Nat) CaseState
  /-- the block RAMs, by die, galley and block -/
  blocks : Tbl (List Nat) BlockState
  /-- the storage elements of the fabric and of the pads: an unlisted user register holds its initial value, any other 0 -/
  fab : Tbl FabKey Nat
  /-- the DDR4 controllers, by die and controller -/
  ddrs : Tbl (Nat × Nat) DdrState
  /-- the scrub engines, by die -/
  scrubs : Tbl Nat ScrubState
  /-- the initiator interfaces -/
  inits : Tbl Who InitState
  /-- the crossing ports, by die and port -/
  links : Tbl (Nat × Nat) LinkState
  /-- the serial lanes, by die, group and position -/
  lanes : Tbl (List Nat) LaneState
  /-- the Ethernet controllers, by die and controller -/
  eths : Tbl (Nat × Nat) EthState
  /-- the requests at the PCI Express controllers that wait for their completion (R474), by die -/
  pcies : Tbl Nat (List (Req × Nat × Nat × Nat))
  /-- the requests that a design has accepted and not answered (R552, R560): tag, generation and destination -/
  accepted : List (Req × Nat × Nat × Nat)
  /-- the timing unit -/
  time : TimeState
  /-- what the board fixes (R510, R511, R534) -/
  board : Board
  /-- the requests that wait for the guard core, oldest first -/
  jobs : List GuardJob
  /-- forme selection, the load under way and the composing contexts, by die -/
  sel : SelState
  load : LoadState
  comps : Tbl Nat CompState
  /-- the guard core's security state and the test access port -/
  sec : SecState
  tap : TapState
  /-- the counts of the last proving windows, newest first (R597) -/
  windows : List Nat
  /-- the packets in flight, oldest first -/
  flight : List Pkt
  /-- the queues of the router inputs (R316), by die, router, input and queue; an input is an attachment by its PORT, 8 to 11 the
  west, east, north and south link, and 12 + p crossing port p -/
  mesh : Tbl (List Nat) (List MeshFlit)
  /-- the responses that wait at their units for room in the router, in order: the endpoint of the target, PRI and the response (R316,
  R322) -/
  replies : List (Nat × Nat × Resp)
  /-- the flits of channels 8 to 11 that wait to leave a die for another, in order, by the two dies (R197, R370) -/
  sides : Tbl (Nat × Nat) (List OutFlit)
  /-- the errors in the buffers of class 5 (R378, R385) -/
  netFlaws : List NetFlaw
  /-- the soft repairs that the macros have (R640): die, macro, kind (0 row, 1 column) and index -/
  repairs : List (Nat × Nat × Nat × Nat)
  /-- the memories -/
  mem : Mem
  /-- how many free values have been drawn: the model's own field (an open value of the spec is an opaque
  function of Config applied to it) -/
  freeCtr : Nat
  /-- the response of the last access made by a command: the model's own observation -/
  answer : Answer
  /-- the commands that wait, first in, first out -/
  pending : List Instr
  deriving DecidableEq, Repr

/-- Why the machine stops with a fault. No meaning raises one: every error of the spec is a response, a flag or a
trap, and all of these are state. -/
inductive Fault where
  /-- No command raises it. Safe. -/
  | none
  deriving DecidableEq, Repr

/-- Why a command is refused. -/
inductive Refusal where
  /-- A command without a meaning in this model, by its mnemonic in the opcode table. Safe: the model stops. -/
  | notModelled (mnemonic : String)
  deriving DecidableEq, Repr

/-- A die control core starts at control level (1), every other processor at level 0 (R88, the reset value of
STATUS). -/
def UnitState.init (u : UnitId) : UnitState :=
  { g := [], gm := [], v := [], vm := [], a := [], p := [], rf := [],
    sys := match u with | .core _ => [(0, 1)] | _ => [],
    pc := 0, st := .stopped, back := .stopped, stopping := false, lastCause := 0, outs := [], nextId := 0,
    resv := none, posted := none, wdog := false, delivered := [], wev := none, stall := 0,
    held := [], resume := 0, stepping := false, mismRun := 0, lkSeq := 0, sent := [],
    haltDue := false, dlines := [], ilines := [], cflaws := [], fetched := none }

def DmaChan.init : DmaChan := { desc := none, row := 0, off := 0, live := [], nextPiece := 0, err := none }

def CaseState.init : CaseState :=
  { waiting := [], inb := [], dma := [], nextId := 0, mism := [], defer := [], migr := none }

def BlockState.init : BlockState :=
  { cnt := 0, rd := 0, wr := 0, ovf := false, unf := false, outA := 0, outB := 0, corrA := false, corrB := false,
    poisonA := false, poisonB := false, lateW := 0, lateR := 0 }

def DdrState.init : DdrState :=
  { queue := [], reqs := [], nextId := 0, rows := [], slots := [], lost := [], resv := [], clr := none }

def ScrubState.init : ScrubState :=
  { base := 0, last := 0, sheet := 0, repair := false, next := 0, lines := 0, clean := 0, corr := 0, uncorr := 0,
    unwr := 0, lost := 0, repaired := 0, repfail := 0, firstUe := 2 ^ 64 - 1, readAt := 0 }

def LinkState.init : LinkState :=
  { coming := [], out := [], retry := [], resend := 0, txSeq := 0, rxSeq := 0, nak := false, nakDue := false,
    credits := [], earned := [], rxq := [], part := [], enter := [], badRun := 0, sameRun := 0, beat := false,
    heard := none, initial := true, late := false, hold := false, propose := none, theirs := none, confirm := none,
    commit := none, fails := false, left := false, held := false, spares := 0, cw := 0, via := 0, since := 0, dead := 0,
    goodAt := 0, beatAt := 0, drainAt := 0, handAt := [], commitAt := 0 }

def LaneState.init : LaneState :=
  { bins := [], tx := [], settling := false, written := false, txSym := 0, rxSym := 0, gen := 0, line := [], rx := 0 }

def EthState.init : EthState := { jobs := [], nextId := 0, sas := [], up := [], load := 0 }

def TimeState.init : TimeState :=
  { now := 0, follow := [], uart := [], keys := [], pps := [], meas := [], agree := [], disagree := [], silent := [],
    admitted := [], model := 0, good := 0, bad := 0, holdSecs := 0, due := false, servoStep := none, sensorFails := 0, dacFrame := 0,
    xoLost := false, ppsOut := false, uartTx := 0 }

def CompState.init : CompState :=
  { q := [], doing := .idle, seg := 0, pos := 0, outs := 0, got := none, failed := false, final := none }

def Preamble.init : Preamble :=
  { partial_ := false, folio := 0, length := 0, nseg := 0, owner := 0, enc := false, gmask := 0, cmask := 0,
    salt := 0, hash := 0 }

def LoadState.init : LoadState :=
  { stage := .idle, base := 0, pre := Preamble.init, dir := [], seg := 0, chunk := 0, table := 0, rest := none, res := 0 }

def SelState.init : SelState := { chosen := none, tried := [], good := [] }

def SecState.init : SecState :=
  { scope := 0, duration := 0, ever := false, owner := 0, fhash := 0, phash := 0, pcount := 0 }

/-- After Test-Logic-Reset, IDCODE is selected (R670). -/
def TapState.init : TapState := { ir := 1, captured := 0, boundary := 0, dr := 0, res := 0 }

def InitState.init : InitState :=
  { queue := [], outs := [], accs := [], nextAcc := 0, gens := [], stale := [], p3 := 0 }

/-- The machine before any command: every table empty, so that every register holds its reset value, every memory
reads as zero (R383, R390) and no command waits. What the spec states no value for starts at zero (DESIGN CHOICE, unsafe:
log entry 1). -/
def State.reset : State :=
  { regs := [], hid := [], units := [], cases := [], blocks := [], fab := [], ddrs := [], scrubs := [], inits := [],
    links := [], lanes := [], eths := [], pcies := [], accepted := [], time := TimeState.init, board := { fbsel := 0, flash := [], hk33 := false, strap := 0 },
    jobs := [], sel := SelState.init, load := LoadState.init, comps := [], sec := SecState.init, tap := TapState.init,
    windows := [], flight := [], mesh := [], replies := [], sides := [], netFlaws := [], repairs := [],
    mem := { bytes := [], flaws := [], lines := [] }, freeCtr := 0, answer := { status := 0, data := 0, pmask := 0 },
    pending := [] }

end Sys2Proof.Machine
end

