-- ==== Sys2Proof/Machine/Mem.lean ====
section
/-! DEFINITION. On-chip memory: the byte code (R379 to R382) and little-endian accesses of several bytes (R7). -/

namespace Sys2Proof.Machine
open Sys2Proof

/-- Bit k of a data byte as a check term. -/
def bx (b : Byte) (l : List Nat) : Bool := l.foldl (fun a k => a ^^ b.getLsbD k) false

/-- The stored word of a data byte (R379). -/
def encodeByte (b : Byte) : BitVec 13 :=
  let c0 := bx b [0, 1, 3, 4, 6]
  let c1 := bx b [0, 2, 3, 5, 6]
  let c2 := bx b [1, 2, 3, 7]
  let c3 := bx b [4, 5, 6, 7]
  let c4 := bx b [0, 1, 2, 3, 4, 5, 6, 7] ^^ c0 ^^ c1 ^^ c2 ^^ c3
  BitVec.ofBool c4 ++ BitVec.ofBool c3 ++ BitVec.ofBool c2 ++ BitVec.ofBool c1 ++ BitVec.ofBool c0 ++ b

/-- What a read finds (R380): 0 no error, 1 corrected, 2 uncorrectable. -/
structure ByteRead where
  data : Byte
  st : Nat
  deriving DecidableEq, Repr

/-- The data bit at Hamming position s, where s holds data (R379). -/
def posBit : Nat → Option Nat
  | 3 => some 0 | 5 => some 1 | 6 => some 2 | 7 => some 3
  | 9 => some 4 | 10 => some 5 | 11 => some 6 | 12 => some 7
  | _ => none

/-- The syndrome s of a stored word (R380). -/
def syndrome (w : BitVec 13) : Nat := ((encodeByte (w.setWidth 8) ^^^ w) >>> 8).toNat % 16

/-- The parity e of a stored word (R380). -/
def parity13 (w : BitVec 13) : Bool := (List.range 13).foldl (fun a k => a ^^ w.getLsbD k) false

/-- A read of a stored word (R380). -/
def decodeByte (w : BitVec 13) : ByteRead :=
  let b : Byte := w.setWidth 8
  let s := syndrome w
  match s, parity13 w with
  | 0, false => ⟨b, 0⟩
  | 0, true => ⟨b, 1⟩
  | s, true =>
    if s ≤ 12 then
      match posBit s with
      | some k => ⟨b ^^^ BitVec.ofNat 8 (2 ^ k), 1⟩
      | none => ⟨b, 1⟩
    else ⟨0, 2⟩
  | _, false => ⟨0, 2⟩

/-- The poison word (R382). -/
def poisonWord : BitVec 13 := 0x0300

namespace Mem

/-- The stored 13-bit word at a location. -/
def word (m : Mem) (a : Nat) : BitVec 13 := encodeByte (Store.get m.bytes a) ^^^ m.flaws.get a

/-- Read one byte (R380). -/
def read (m : Mem) (a : Nat) : ByteRead := decodeByte (m.word a)

/-- Write one byte with fresh check bits (R381). -/
def write (m : Mem) (a : Nat) (b : Byte) : Mem :=
  { m with bytes := Store.set m.bytes a b, flaws := m.flaws.set a 0 }

/-- Store the poison word (R382). -/
def poison (m : Mem) (a : Nat) : Mem :=
  { m with bytes := Store.set m.bytes a 0, flaws := m.flaws.set a poisonWord }

/-- Write n bytes of a value, low byte first (R7). -/
def writeN (m : Mem) (a n x : Nat) : Mem :=
  match n with
  | 0 => m
  | n + 1 => (m.write a (BitVec.ofNat 8 x)).writeN (a + 1) n (x / 256)

/-- Write n bytes where bit k of `bad` stores the poison word at byte k instead (R314). -/
def writeBad (m : Mem) (a n x bad : Nat) : Mem :=
  match n with
  | 0 => m
  | n + 1 =>
    (if bad % 2 = 1 then m.poison a else m.write a (BitVec.ofNat 8 x)).writeBad (a + 1) n (x / 256) (bad / 2)

/-- Write the bytes of a value that a mask selects. -/
def writeMask (m : Mem) (a n x sel : Nat) : Mem :=
  match n with
  | 0 => m
  | n + 1 =>
    (if sel % 2 = 1 then m.write a (BitVec.ofNat 8 x) else m).writeMask (a + 1) n (x / 256) (sel / 2)

/-- The value of n bytes, low byte first; an uncorrectable byte reads as zero (R380), and so does one that nothing has
written. (DEDUCED, safe: log entry 9.) -/
def readN (m : Mem) (a n : Nat) : Nat :=
  match n with
  | 0 => 0
  | n + 1 => (m.read a).data.toNat + 256 * m.readN (a + 1) n

/-- The uncorrectable bytes of n bytes, one bit each. -/
def badN (m : Mem) (a n : Nat) : Nat :=
  match n with
  | 0 => 0
  | n + 1 => (if (m.read a).st = 2 then 1 else 0) + 2 * m.badN (a + 1) n

/-- The corrected bytes of n bytes, one bit each. -/
def corrN (m : Mem) (a n : Nat) : Nat :=
  match n with
  | 0 => 0
  | n + 1 => (if (m.read a).st = 1 then 1 else 0) + 2 * m.corrN (a + 1) n

/-- Fill a range with the word of zero data (R383). -/
def fill (m : Mem) (a n : Nat) : Mem :=
  { m with bytes := Store.clear m.bytes a n, flaws := m.flaws.clear a n }

/-- Copy one stored byte with its check bits; a correctable error is corrected as it is copied (R222). -/
def copyByte (m0 m : Mem) (src dst : Nat) : Mem :=
  let r := m0.read src
  if r.st = 2 then
    { m with bytes := Store.set m.bytes dst (Store.get m0.bytes src), flaws := m.flaws.set dst (m0.flaws.get src) }
  else m.write dst r.data

/-- Copy the listed locations of a range. -/
def copyKeys (m0 m : Mem) (src dst n : Nat) : List Nat → Mem
  | [] => m
  | a :: r =>
    copyKeys m0 (if decide (src ≤ a) && decide (a < src + n) then m0.copyByte m a (dst + (a - src)) else m)
      src dst n r

/-- Copy n bytes with their check bits (R222); a location that is not listed is a clean zero. -/
def copyN (m : Mem) (src dst n : Nat) : Mem :=
  copyKeys m (m.fill dst n) src dst n (m.bytes.map (·.1) ++ m.flaws.map (·.1))

/-- The canonical form: addresses strictly rising, no entry equal to what an unlisted address reads as. -/
def wf (m : Mem) : Bool := Store.wf (w := 8) m.bytes && m.flaws.wf && m.lines.wf

end Mem

/-- The 32-byte sectors of an access that hold a marked byte (R313). -/
def sectors (bad : Nat) : Nat :=
  (List.range 8).foldl (fun a k => if bad / 2 ^ (32 * k) % 2 ^ 32 = 0 then a else a + 2 ^ k) 0

/-- The bytes of the marked sectors of an n-byte payload (R314). -/
def sectorBytes (pmask n : Nat) : Nat :=
  (List.range 8).foldl (fun a k => if pmask / 2 ^ k % 2 = 0 then a else a + (2 ^ 32 - 1) * 2 ^ (32 * k)) 0 % 2 ^ n

end Sys2Proof.Machine
end

