-- ==== Sys2Proof/Machine/Regs.lean ====
section
/-! DEFINITION. Named access to the registers, their fields and the sequencer variables. -/

namespace Sys2Proof.Machine
open Sys2Proof

/-- A number as that of a die, or of a case. -/
def fin4 (n : Nat) : Fin 4 := ⟨n % 4, by omega⟩
def fin16 (n : Nat) : Fin 16 := ⟨n % 16, by omega⟩

/-- The bits of a field, in place. -/
def Fld.mask (f : Fld) : W64 := BitVec.ofNat 64 ((2 ^ f.width - 1) * 2 ^ f.lo)

/-- The value of a field of a word (R6). -/
def Fld.get (f : Fld) (v : W64) : Nat := (v >>> f.lo).toNat % 2 ^ f.width

/-- A word with one field replaced. -/
def Fld.put (f : Fld) (v : W64) (x : Nat) : W64 :=
  (v &&& ~~~f.mask) ||| (BitVec.ofNat 64 (x % 2 ^ f.width) <<< f.lo)

/-- The default route of router r on die d (the text after R323): REQ and RSP entries for each destination die. -/
def exitDefault (d r : Nat) : Nat :=
  let x := r % 8
  let y := r / 8
  let xo := if d % 2 = 0 then 0 else 7
  let u := if x ≥ xo then x - xo else xo - x
  let entry (t : Nat) : Nat :=
    match t ^^^ d with
    | 0 => 15
    | 1 => min (y - 1) 3
    | 2 => 4 + u / 2
    | _ => 8
  let half := entry 0 + 16 * entry 1 + 256 * entry 2 + 4096 * entry 3
  half + 65536 * half

/-- The reset value of a register (R17): the constant of its table, or the value that the table gives by index. (DESIGN
CHOICE, unsafe: log entry 8.) -/
def resetAt (n : RegName) (ix : List Nat) : W64 :=
  match n, ix with
  | .nocExit, [d, r] => BitVec.ofNat 64 (exitDefault d r)
  | .linkPortCtl, [_, p] =>
    BitVec.ofNat 64 <|
      if p ≤ 3 then 0xA01400C0 else if p ≤ 7 then 0xB01400C0 else if p = 8 then 0x901400C0
      else if p = 9 then 0x801400C0 else if p = 10 then 0x001400C0 else 0x401400C0
  | .linkPortStatus, [_, p] => BitVec.ofNat 64 (p * 0x10000000 + 0x200)
  | _, _ => BitVec.ofNat 64 n.spec.reset

namespace State

/-- The stored value of a register. -/
def reg (s : State) (n : RegName) (ix : List Nat) : W64 := s.regs.get (resetAt n ix) ⟨n, ix⟩

/-- Store a register. -/
def setReg (s : State) (n : RegName) (ix : List Nat) (v : W64) : State :=
  { s with regs := s.regs.set ⟨n, ix⟩ v }

/-- A field of a register. -/
def fld (s : State) (n : RegName) (ix : List Nat) (f : Fld) : Nat := f.get (s.reg n ix)

/-- A one-bit field. -/
def bit (s : State) (n : RegName) (ix : List Nat) (f : Fld) : Bool := decide (s.fld n ix f ≠ 0)

/-- Replace a field of a register. -/
def setFld (s : State) (n : RegName) (ix : List Nat) (f : Fld) (x : Nat) : State :=
  s.setReg n ix (f.put (s.reg n ix) x)

/-- Add to a counting field that saturates at its largest value. -/
def bumpFld (s : State) (n : RegName) (ix : List Nat) (f : Fld) (x : Nat) : State :=
  s.setFld n ix f (min (s.fld n ix f + x) (2 ^ f.width - 1))

/-- Forget the stored values of a register for every index that meets a test: it holds its reset value again. -/
def clearRegs (s : State) (f : RKey → Bool) : State := { s with regs := s.regs.keep (fun k => !f k) }

/-- A sequencer variable: 0 until it is set. -/
def hv (s : State) (n : HidName) (ix : List Nat) : Nat := s.hid.get 0 ⟨n, ix⟩

def setHv (s : State) (n : HidName) (ix : List Nat) (x : Nat) : State := { s with hid := s.hid.set ⟨n, ix⟩ x }

def unit (s : State) (u : UnitId) : UnitState := s.units.get (UnitState.init u) u

def setUnit (s : State) (u : UnitId) (x : UnitState) : State := { s with units := s.units.set u x }

def case (s : State) (d c : Nat) : CaseState := s.cases.get CaseState.init (d, c)

def setCase (s : State) (d c : Nat) (x : CaseState) : State := { s with cases := s.cases.set (d, c) x }

def init (s : State) (w : Who) : InitState := s.inits.get InitState.init w

def setInit (s : State) (w : Who) (x : InitState) : State := { s with inits := s.inits.set w x }

/-- The composing context of a die. -/
def comp (s : State) (d : Nat) : CompState := s.comps.get CompState.init d

def setComp (s : State) (d : Nat) (x : CompState) : State := { s with comps := s.comps.set d x }

/-- Draw a free value: the number that an opaque function of Config is applied to, and the state after. (DESIGN CHOICE,
safe: log entry 10.) -/
def draw (s : State) : State := { s with freeCtr := s.freeCtr + 1 }

def answerWith (s : State) (status : Nat) (data : W64) (pmask : Nat) : State :=
  { s with answer := { status := status, data := data, pmask := pmask } }

end State

/-- Response STATUS values (R331). -/
def OK : Nat := 0
def NOSTORE : Nat := 1
def DECODE : Nat := 2
def REFUSED : Nat := 3
def TIMEOUT : Nat := 4
def ROUTE : Nat := 5

/-! Domains and dies (R611, R612, R616). -/

/-- Domain k of die d is On. -/
def State.domOn (s : State) (d k : Nat) : Bool := decide (s.fld .powerDom [d, k] F.powerDom_STATE = 2)

/-- Domain k of die d is Off. -/
def State.domOff (s : State) (d k : Nat) : Bool := decide (s.fld .powerDom [d, k] F.powerDom_STATE = 0)

/-- Package domain k is On. -/
def State.pdomOn (s : State) (k : Nat) : Bool := decide (s.fld .powerPdom [k] F.powerPdom_STATE = 2)

def State.pdomOff (s : State) (k : Nat) : Bool := decide (s.fld .powerPdom [k] F.powerPdom_STATE = 0)

/-- Die d is Released (R616). -/
def State.released (s : State) (d : Nat) : Bool := decide (s.fld .powerDie [d] F.powerDie_DSTATE = 2)

/-- The domain of die d runs: On, with the die Released, and no clock wait (R602, R616). -/
def State.runs (s : State) (d k : Nat) : Bool :=
  s.domOn d k && s.released d && decide (s.hv .clkWait [] = 0)

/-- The processor's clock runs and its domain is out of reset. -/
def State.live (s : State) : UnitId → Bool
  | .eng d c _ => s.runs d (16 + c.val)
  | .core d => s.runs d 32
  | .guard => true

/-! Events (R673 to R677). -/

/-- Raise event n of die d: the pending bit is set and TAKEN cleared (R675, R677). -/
def State.raiseEvent (s : State) (d n : Nat) : State :=
  let w := s.reg .eventPend [d, n / 32]
  let s := s.setReg .eventPend [d, n / 32] (w ||| BitVec.ofNat 64 (2 ^ (n % 32)))
  s.setFld .eventRoute [d, n] F.eventRoute_TAKEN 0

/-- The quoin of a case is closed (R557). -/
def State.caseClosed (s : State) (d c : Nat) : Bool := s.bit .caseQuoin [d, c] F.caseQuoin_CLOSED

/-- Raise an event of case c; a closed quoin holds it back until it opens (R557). -/
def State.raiseCaseEvent (s : State) (d c n : Nat) : State :=
  if s.caseClosed d c then
    let x := s.case d c
    s.setCase d c { x with defer := if n ∈ x.defer then x.defer else x.defer ++ [n] }
  else s.raiseEvent d n

/-! The remap registers of a case (R169, R219). -/

/-- The physical position that carries logical slot sl; slot 8 names the unnumbered engine. -/
def State.posOf (s : State) (d c sl : Nat) : Nat :=
  (s.reg .caseSpareRemap [d, c]).toNat / 16 ^ sl % 16

/-- The logical slot that position p carries: 8 when it is the unnumbered engine. -/
def State.slotOf (s : State) (d c p : Nat) : Nat :=
  ((List.range 8).find? (fun sl => s.posOf d c sl == p)).getD 8

/-- The number 0 to 8 as a position. -/
def posFin (p : Nat) : Fin 9 := ⟨min p 8, by omega⟩

/-- The engine that carries slot sl (slot 8: the unnumbered engine). -/
def State.engAt (s : State) (d : Fin 4) (c : Fin 16) (sl : Nat) : UnitId := .eng d c (posFin (s.posOf d c sl))

end Sys2Proof.Machine
end

