-- ==== Sys2Proof/Machine/Operands.lean ====
section
/-! DEFINITION. The operands of an instruction: registers with their marks (R85, R87, R129, R133), local, case and
package addresses (R58, R65, R100, R101, R163), streams (R137, R138) and task windows (R91). -/

namespace Sys2Proof.Machine
open Sys2Proof

/-- The index of a die, case or position as a number. -/
abbrev fn {n : Nat} (x : Fin n) : Nat := x.val

/-- Numbers of the system registers (R125, R136, R665). -/
def STATUS : Nat := 0x000
def TVEC : Nat := 0x001
def EPC : Nat := 0x002
def CAUSE : Nat := 0x003
def TVAL : Nat := 0x004
def SCRATCH : Nat := 0x005
def LS (lvl : Bool) : Nat := if lvl then 0x013 else 0x010
def LE (lvl : Bool) : Nat := if lvl then 0x014 else 0x011
def LC (lvl : Bool) : Nat := if lvl then 0x015 else 0x012
def CYCLE : Nat := 0x020
def TWB (n : Bool) : Nat := if n then 0x032 else 0x030
def TWL (n : Bool) : Nat := if n then 0x033 else 0x031
def VSTAT : Nat := 0x040
def STA (n : Bool) : Nat := if n then 0x043 else 0x041
def STS (n : Bool) : Nat := if n then 0x044 else 0x042
def WDOG : Nat := 0x050

/-- The fields of STATUS. -/
def fPRIV : Fld := ⟨0, 2⟩
def fPPRIV : Fld := ⟨2, 2⟩
def fEIE : Fld := ⟨5, 1⟩
def fPEIE : Fld := ⟨6, 1⟩
def fINTRAP : Fld := ⟨7, 1⟩

namespace UnitState

/-- A read of a general register: g0 is zero (R85). -/
def getG (x : UnitState) (n : Nat) : W64 := if n = 0 then 0 else x.g.get 0 n

/-- A write of a general register with its mark: g0 discards it (R85, R87). -/
def setGm (x : UnitState) (n : Nat) (v : W64) (m : Mark) : UnitState :=
  if n = 0 then x
  else { x with g := x.g.set n v, gm := x.gm.set n m, rf := x.rf.keep (fun r => decide (r.1 ≠ .g n)) }

/-- Any write other than a load clears the mark (R87). -/
def setG (x : UnitState) (n : Nat) (v : W64) : UnitState := x.setGm n v .none

def markG (x : UnitState) (n : Nat) : Mark := if n = 0 then .none else x.gm.get .none n

def getV (x : UnitState) (n : Nat) : W512 := x.v.get 0 n

def setVm (x : UnitState) (n : Nat) (v : W512) (m : Mark) : UnitState :=
  { x with v := x.v.set n v, vm := x.vm.set n m, rf := x.rf.keep (fun r => decide (r.1 ≠ .v n)) }

/-- A write of any other result clears the poison mark (R133). -/
def setV (x : UnitState) (n : Nat) (v : W512) : UnitState := x.setVm n v .none

def markV (x : UnitState) (n : Nat) : Mark := x.vm.get .none n

def getA (x : UnitState) (n : Nat) : W1536 := x.a.get 0 n

def setA (x : UnitState) (n : Nat) (v : W1536) : UnitState :=
  { x with a := x.a.set n v, rf := x.rf.keep (fun r => decide (r.1 ≠ .a n)) }

/-- A read of p0 returns all ones (R129). -/
def getP (x : UnitState) (n : Nat) : W32 := if n = 0 then BitVec.allOnes 32 else x.p.get 0 n

/-- A write of p0 is discarded (R129). -/
def setP (x : UnitState) (n : Nat) (v : W32) : UnitState :=
  if n = 0 then x else { x with p := x.p.set n v, rf := x.rf.keep (fun r => decide (r.1 ≠ .p n)) }

def getSys (x : UnitState) (n : Nat) : W64 := x.sys.get 0 n

def setSys (x : UnitState) (n : Nat) (v : W64) : UnitState :=
  { x with sys := x.sys.set n v, rf := x.rf.keep (fun r => decide (r.1 ≠ .sys n)) }

/-- The bytes of a register in which a read finds what `st` says (R380), one bit each; g0 and p0 are no storage. -/
def rfBits (x : UnitState) (r : RfRef) (st : Nat) : Nat :=
  if r = .g 0 ∨ r = .p 0 then 0
  else x.rf.foldl (fun m e => if e.1.1 = r ∧ (decodeByte e.2).st = st then m ||| 2 ^ e.1.2 else m) 0

/-- A field of STATUS. -/
def st_ (x : UnitState) (f : Fld) : Nat := f.get (x.getSys STATUS)

def setSt (x : UnitState) (f : Fld) (n : Nat) : UnitState := x.setSys STATUS (f.put (x.getSys STATUS) n)

/-- The vector slot sets VSTAT flags and never clears them (R135). -/
def orFlags (x : UnitState) (n : Nat) : UnitState :=
  if n = 0 then x else x.setSys VSTAT (x.getSys VSTAT ||| BitVec.ofNat 64 n)

end UnitState

/-- The kind of a processor (R84). -/
def isEng : UnitId → Bool
  | .eng _ _ _ => true
  | _ => false

/-- The level at which the system group's RTE and HALT run (R89). -/
def trapLevel : UnitId → Nat
  | .core _ => 1
  | _ => 0

/-- Task level (R88). -/
def taskLevel : UnitId → Nat
  | .eng _ _ _ => 1
  | _ => 2

/-- Whether the processor has a privilege level (R88). -/
def hasLevel : UnitId → Nat → Bool
  | .eng _ _ _, l => decide (l ≤ 1)
  | .core _, l => decide (l = 1) || decide (l = 2)
  | .guard, l => decide (l ≤ 2)

/-- The bytes of a fetch unit (R84). -/
def unitBytes : UnitId → Nat
  | .eng _ _ _ => 8
  | _ => 4

/-- The initiator that a processor is on the network (R71, R307). -/
def State.whoOf (s : State) : UnitId → Who
  | .eng d c p => .engine d c ⟨min (s.slotOf d c p) 8, by omega⟩
  | .core d => .core d
  | .guard => .guard

/-- The processor that an initiator is: an engine through the remap registers (R26). -/
def State.unitOf (s : State) : Who → Option UnitId
  | .engine d c sl => some (s.engAt d c sl)
  | .core d => some (.core d)
  | .guard => some .guard
  | _ => none

/-! The package addresses of the memories (R35), at the physical alias of an engine. -/

def dieMem (d : Nat) : Nat := 0x9000000000 + d * 0x100000000
def lmemBase (d c p : Nat) : Nat := dieMem d + 0x20000000 + (9 * c + p) * 0x40000
def imemBase (d c p : Nat) : Nat := lmemBase d c p + 0x20000
def caseBase (d c : Nat) : Nat := dieMem d + 0x10000000 + c * 0x100000
def sramBase (d : Nat) : Nat := dieMem d + 0x30000000

/-- The memories of the guard core (R378, class 7). -/
def guardBase : Nat := 2 ^ 52

/-- The bytes of a cleanliness map (R389). -/
def cmapBase (d k : Nat) : Nat := 2 ^ 50 + (2 * d + k) * 2 ^ 20

/-- The frames of a plane: frame fa at base + 256 × fa. -/
def frameBase (d g pl : Nat) : Nat := 2 ^ 51 + ((16 * d + g) * 2 + pl) * 2 ^ 23

/-- The bank of a case memory offset (R163). -/
def bankOf (o : Nat) : Nat := (o / 64 % 16) ^^^ (o / 8192 % 16)

/-- The live owner code of slot n in bank b (R168, R170). -/
def State.ownerCode (s : State) (d c n b : Nat) : Nat := (s.reg .caseImpLive [d, c, n]).toNat / 16 ^ b % 16

/-- The live table of bank b assigns some slot to code `code` (R68). -/
def State.ownsSlot (s : State) (d c b code : Nat) : Bool :=
  (List.range 64).any (fun n => s.ownerCode d c n b == code)

/-- The case port of the engine works in open mode (R66): CASE_MODE of the slot that it carries. -/
def State.openMode (s : State) (d c sl : Nat) : Bool := s.bit .caseEngCtl [d, c, sl] F.caseEngCtl_CASE_MODE

/-- Where an instruction executes: the state before its pair, its processor and its word. -/
structure Ctx where
  s : State
  u : UnitId
  w : W32

namespace Ctx

def x (k : Ctx) : UnitState := k.s.unit k.u
def g (k : Ctx) (n : BitVec 5) : W64 := k.x.getG n.toNat
def word (k : Ctx) : W64 := k.w.setWidth 64
def priv (k : Ctx) : Nat := k.x.st_ fPRIV
def atTask (k : Ctx) : Bool := decide (k.priv = taskLevel k.u)

end Ctx

/-- What one slot of a pair does, computed from the state before the pair (R49): its synchronous causes with their
TVAL (R121), the registers it reads and writes (R48, R52), its ports (R161), what it waits for, and its effect. -/
structure SlotOut where
  traps : List (Nat × W64) := []
  gsrc : List Nat := []
  gdst : List Nat := []
  vsrc : List Nat := []
  vdst : List Nat := []
  adst : List Nat := []
  pdst : List Nat := []
  sdst : List Nat := []
  /-- accumulators, predicates and system registers read, for register-file errors (R385) -/
  rsrc : List RfRef := []
  loads : Nat := 0
  stores : Nat := 0
  branch : Bool := false
  next : Option W64 := none
  /-- 0 may issue, 1 a wait that R78 covers, 2 a wait that R81 counts -/
  wait : Nat := 0
  /-- for the rule of locked sequences (R110): 1 LKL, 2 STU, 3 another case or remote access -/
  lock : Nat := 0
  /-- the accounting of a memory access that finds an error, when its trap is taken (R386) -/
  acct : State → State := id
  eff : State → State := id

/-- An instruction that its slot or its profile does not have (R47, R84, R92). -/
def illegalOut (k : Ctx) : SlotOut := { traps := [(4, k.word)] }

/-- Apply a change to the processor. -/
def onUnit (u : UnitId) (f : UnitState → UnitState) (s : State) : State := s.setUnit u (f (s.unit u))

/-- A result in a general register. -/
def outG (k : Ctx) (rd : BitVec 5) (src : List (BitVec 5)) (v : W64) : SlotOut :=
  { gsrc := src.map (·.toNat), gdst := [rd.toNat], eff := onUnit k.u (·.setG rd.toNat v) }

/-! Sizes and loaded values (R98, R103). -/

/-- The bytes of size code sz; none for a code that the instruction does not have (R98). -/
def szBytes (sz : BitVec 3) : Nat :=
  match sz.toNat with
  | 0 => 1 | 1 => 2 | 2 => 4 | 3 => 8 | 4 => 1 | 5 => 2 | 6 => 4
  | _ => 0

/-- The loaded value, extended as size code sz gives (R98). -/
def extendSz (sz : BitVec 3) (v : Nat) : W64 :=
  match sz.toNat with
  | 0 => (BitVec.ofNat 8 v).signExtend 64
  | 1 => (BitVec.ofNat 16 v).signExtend 64
  | 2 => (BitVec.ofNat 32 v).signExtend 64
  | 3 => BitVec.ofNat 64 v
  | 4 => (BitVec.ofNat 8 v).setWidth 64
  | 5 => (BitVec.ofNat 16 v).setWidth 64
  | _ => (BitVec.ofNat 32 v).setWidth 64

/-- The value of an atomic or locked read: sign-extended when dw is 0 (R103, R105). -/
def extendDw (dw : Bool) (v : Nat) : W64 :=
  if dw then BitVec.ofNat 64 v else (BitVec.ofNat 32 v).signExtend 64

def dwBytes (dw : Bool) : Nat := if dw then 8 else 4

/-- ra + sext(imm13) (R98, R153). -/
def addr13 (a : W64) (imm : BitVec 13) : W64 := a + imm.signExtend 64

/-! The checks of an access; each gives its cause with the access address as TVAL (R121). -/

def chkAlign (a : W64) (n : Nat) : List (Nat × W64) := if a.toNat % n = 0 then [] else [(7, a)]
def chkLocal (a : W64) (n : Nat) : List (Nat × W64) := if a.toNat + n ≤ 0x20000 then [] else [(8, a)]
def chkRange (a : W64) : List (Nat × W64) := if a.toNat < 2 ^ 48 then [] else [(10, a)]

/-- An access lies wholly in one task window (R91). -/
def inWindow (x : UnitState) (a n : Nat) : Bool :=
  let one (b : Bool) : Bool :=
    decide ((x.getSys (TWB b)).toNat < (x.getSys (TWL b)).toNat) && decide ((x.getSys (TWB b)).toNat ≤ a) &&
      decide (a + n ≤ (x.getSys (TWL b)).toNat)
  one false || one true

def chkTask (k : Ctx) (a : W64) (n : Nat) : List (Nat × W64) :=
  if k.atTask && !inWindow k.x a.toNat n then [(12, a)] else []

/-- A case access by an engine: the end of case memory (cause 9, or 10 for a locked access: R65, R108), alignment and
the case-slot trap (R68, R99). -/
def chkCase (k : Ctx) (a : W64) (n : Nat) (locked : Bool) : List (Nat × W64) :=
  chkAlign a n ++
  (if a.toNat + n ≤ 0x100000 then
    match k.u with
    | .eng d c p =>
      let sl := k.s.slotOf d c p
      if !k.s.openMode d c sl && !k.s.ownsSlot d c (bankOf a.toNat) sl then [(11, a)] else []
    | _ => []
   else [(if locked then 10 else 9, a)])

/-! Outstanding accesses (R52, R70). -/

def Dest.reg : Dest → Option Nat
  | .load rd _ => some rd
  | .atomic rd _ => some rd
  | .lkl rd _ => some rd
  | .stu rd => some rd
  | .line rd _ _ => some rd
  | _ => none

/-- The fetch of an instruction, which is no access of a program. -/
def Dest.isFetch : Dest → Bool
  | .fetch _ => true
  | _ => false

def Dest.isStore : Dest → Bool
  | .store => true
  | .stu _ => true
  | .atomic _ _ => true
  | _ => false

/-- The kind of a wait for an access: 1 for a case access in slotted mode, which R78 covers, and 2 for a remote access or a
case access in open mode, which R81 counts. -/
def waitKind (k : Ctx) (remote : Bool) : Nat :=
  if remote then 2
  else match k.u with
    | .eng d c p => if k.s.openMode d c (k.s.slotOf d c p) then 2 else 1
    | _ => 1

/-- The outstanding accesses of pairs that have issued: those that a discarded pair has sent belong to it (R209). -/
def UnitState.owed (x : UnitState) : List Pend := x.outs.filter (fun p => x.sent.all (fun e => decide (e.2 ≠ p.id)))

/-- The wait of a new case access: four outstanding (R70), or a load that overlaps an outstanding store (R117). -/
def caseWait (k : Ctx) (a n : Nat) (isLoad : Bool) : Nat :=
  let outs := k.x.outs.filter (fun p => !p.remote)
  let busy := decide (4 ≤ outs.length) ||
    (isLoad && (k.x.owed.filter (fun p => !p.remote)).any (fun p => p.dest.isStore && decide (p.addr < a + n) && decide (a < p.addr + p.len)))
  if busy then waitKind k false else 0

/-- The wait of a new remote request: 32 outstanding (R70), or a closed quoin of the case (R557). -/
def remoteWait (k : Ctx) : Nat :=
  match k.u with
  | .eng d c _ => if 32 ≤ (k.x.outs.filter (·.remote)).length ∨ k.s.caseClosed d c = true then 2 else 0
  | _ => 0

/-! The caches of a control core (R100, R102): write-through, so that a line that is dropped is in memory. -/

/-- An address of the DRAM window, which passes through the caches. -/
def inDram (a n : Nat) : Bool := decide (a + n ≤ 0x8000000000)

/-- The line of the data cache that holds an address. -/
def UnitState.cached (x : UnitState) (a : Nat) : Option W512 := (x.dlines.find? (fun e => e.1 == a / 64)).map (·.2)

/-- The bytes of a cached range in which a read finds what `st` says (R380), one bit each; `i` names the instruction cache. -/
def UnitState.cacheBits (x : UnitState) (i : Bool) (a n st : Nat) : Nat :=
  x.cflaws.foldl (fun m e =>
    if e.1.1 = i ∧ e.1.2.1 = a / 64 ∧ a % 64 ≤ e.1.2.2 ∧ e.1.2.2 < a % 64 + n ∧ (decodeByte e.2).st = st then
      m ||| 2 ^ (e.1.2.2 - a % 64)
    else m) 0

/-- The line of the data cache that serves a load: not one with an uncorrectable byte that the load reads (R385). -/
def UnitState.serves (x : UnitState) (a n : Nat) : Option W512 :=
  if x.cacheBits false a n 2 = 0 then x.cached a else none

/-- A line of a cache leaves it, or is written anew. -/
def UnitState.cleanLine (x : UnitState) (i : Bool) (l : Nat) : UnitState :=
  { x with cflaws := x.cflaws.keep (fun k => decide (¬(k.1 = i ∧ k.2.1 = l))) }

/-- The instruction cache drops a line. -/
def UnitState.dropIline (x : UnitState) (l : Nat) : UnitState :=
  { x.cleanLine true l with ilines := x.ilines.filter (fun m => decide (m ≠ l)) }

/-- The instruction at an address is in the instruction cache, without an uncorrectable byte (R385). -/
def UnitState.icached (x : UnitState) (a : Nat) : Bool :=
  inDram a 4 && decide (a / 64 ∈ x.ilines) && decide (x.cacheBits true a 4 2 = 0)

/-- A line that a read under way brings is not held any more. -/
def Pend.noKeep (l : Nat) (p : Pend) : Pend :=
  if p.addr / 64 ≠ l then p
  else match p.dest with
    | .line rd sz _ => { p with dest := .line rd sz false }
    | .fetch _ => { p with dest := .fetch false }
    | _ => p

/-- The data cache drops a line, with those that its reads under way would bring. -/
def UnitState.dropLine (x : UnitState) (l : Nat) : UnitState :=
  { x.cleanLine false l with dlines := x.dlines.erase l, outs := x.outs.map (Pend.noKeep l) }

/-- A write to the DRAM window invalidates the line in every control-core cache (R102). -/
def invalidateLine (a : Nat) (s : State) : State :=
  { s with units := s.units.map fun e =>
      if isEng e.1 then e
      else (e.1, (e.2.dropLine (a / 64)).dropIline (a / 64)) }

/-- A write of a DRAM line by an initiator: every cache drops the line (R102), and a reservation of any other core on the
granule is cleared (R107). -/
def dramWritten (w : Option Who) (a : Nat) (s : State) : State :=
  let s := invalidateLine a s
  { s with units := s.units.map fun e =>
      if !isEng e.1 && decide (w ≠ some (s.whoOf e.1)) && e.2.resv.any (fun r => r.granule == a / 64) then
        (e.1, { e.2 with resv := none })
      else e }

/-- A core's own store, atomic or uncached write to DRAM: its data cache drops the line at once, so that its later loads
return the stored data (R104, R117). -/
def dropOwnLine (u : UnitId) (a : Nat) (s : State) : State :=
  if isEng u then s else onUnit u (·.dropLine (a / 64)) s

/-! Memory errors (R386 to R388). -/

/-- Count and log an access of die d: `cls` and `addr` are CLASS and ADDR of `elog`, `corr` and `bad` have one bit for
each corrected or uncorrectable byte, and `byte` is the place of byte 0 in its line. -/
def integ (s : State) (d cls addr byte corr bad : Nat) : State :=
  if bad ≠ 0 then
    let first := ((List.range 64).find? (fun i => bad / 2 ^ i % 2 == 1)).getD 0
    let s := s.bumpFld .integEcnt [d] F.integEcnt_UE 1
    let s :=
      if s.bit .integEflags [d] F.integEflags_UE then s.setFld .integEflags [d] F.integEflags_OVER 1
      else
        let l := (byte + first) % 64
        (s.setReg .integElog [d] (BitVec.ofNat 64 (cls * 2 ^ 60 + l * 2 ^ 48 + addr % 2 ^ 48))).setFld
          .integEflags [d] F.integEflags_UE 1
    s.raiseEvent d 166
  else if corr ≠ 0 then
    ((s.bumpFld .integEcnt [d] F.integEcnt_CE 1).setFld .integEflags [d] F.integEflags_CE 1).raiseEvent d 165
  else s

/-- ADDR of `elog` for an address in the memory of an engine position: the logical address when the position carries
a slot (R26, R387). -/
def engLogAddr (s : State) (d c p off : Nat) : Nat :=
  let sl := s.slotOf d c p
  let a := if sl < 8 then dieMem d + (8 * c + sl) * 0x40000 + off else lmemBase d c p + off
  a / 64 * 64

/-- Account one access of n bytes from offset a: the log names the line of the first uncorrectable byte, or of the first
byte of the access when every one is correctable (R386, R387). `log` is ADDR of `elog` by offset. -/
def integ2 (s : State) (d cls : Nat) (log : Nat → Nat) (a n corr bad : Nat) : State :=
  let first := ((List.range n).find? (fun i => bad / 2 ^ i % 2 == 1)).getD 0
  integ s d cls (log (a + first)) ((a + first) % 64) corr (bad / 2 ^ first)

/-- Where the errors of the registers and caches of a processor count: the die, CLASS and ADDR of `elog` (R378, R386, R387). For
the registers of a core no rule gives ADDR: it is 0. (DESIGN CHOICE, safe: log entry 82.) -/
def errorHome (s : State) : UnitId → Nat × Nat × Nat
  | .eng d c p => (d, 3, 128 * d + 8 * c + s.slotOf d c p)
  | .core d => (d, 4, 0)
  | .guard => (0, 7, 0)

/-- The registers that a slot of a pair reads. -/
def SlotOut.reads (o : SlotOut) : List RfRef := o.gsrc.map .g ++ o.vsrc.map .v ++ o.rsrc

/-- Account the register reads of a slot (R385 to R387): each source is one access. -/
def regAcct (u : UnitId) (o : SlotOut) (s : State) : State :=
  let x := s.unit u
  if x.rf = [] then s
  else
    let h := errorHome s u
    o.reads.foldl (fun t r => integ2 t h.1 h.2.1 (fun _ => h.2.2) 0 192 (x.rfBits r 1) (x.rfBits r 2)) s

/-- A read of a cache that finds an error counts as corrected: a damaged line has a copy in memory (R385). -/
def cacheAcct (u : UnitId) (s : State) : State :=
  let h := errorHome s u
  integ s h.1 h.2.1 0 0 1 0

/-- The line of the data cache that a load finds damaged is discarded (R385). -/
def discardLine (u : UnitId) (a : Nat) (s : State) : State :=
  if ((s.unit u).cached a).isSome then cacheAcct u (onUnit u (·.dropLine (a / 64)) s) else s

/-- The line of the instruction cache that a fetch finds damaged is discarded (R385). -/
def discardIline (u : UnitId) (a : Nat) (s : State) : State :=
  if a / 64 ∈ (s.unit u).ilines then cacheAcct u (onUnit u (·.dropIline (a / 64)) s) else s

/-- A memory that a core reaches without the network: where its bytes lie, its class, its die and ADDR of `elog`. -/
structure OwnMem where
  loc : Nat
  cls : Nat
  die : Nat
  log : Nat
  deriving DecidableEq, Repr

/-- The memory of its own that a core reaches at an address (R37, R84, R378). -/
def ownMem (u : UnitId) (a n : Nat) : Option OwnMem :=
  match u with
  | .core d =>
    if sramBase d ≤ a ∧ a + n ≤ sramBase d + 0x80000 then some ⟨a, 4, d, (a - sramBase d) / 64 * 64⟩ else none
  | .guard =>
    match Config.guardMem a, Config.guardMem (a + n - 1) with
    | some o, some o' => if o' = o + n - 1 then some ⟨guardBase + o, 7, 0, o / 64 * 64⟩ else none
    | _, _ => none
  | .eng _ _ _ => none

/-- Read n bytes of local data memory: value, marks and the accounting of the access (R59, R380, R386). -/
def readLocal (s : State) (d c p a n : Nat) : Nat × Nat × (State → State) :=
  let l := lmemBase d c p + a
  let bad := s.mem.badN l n
  (s.mem.readN l n, bad, fun t => integ2 t d 0 (engLogAddr s d c p) a n (s.mem.corrN l n) bad)

/-- The watchdog register of a processor (R665). -/
def wdogReg (s : State) : UnitId → Option (RegName × List Nat)
  | .eng d c p => let sl := s.slotOf d c p; if sl < 8 then some (.caseEngWdog, [d, c, sl]) else none
  | .core d => some (.ctlWdog, [d])
  | .guard => none

/-- REMAIN becomes 256 × PERIOD (R665 to R667). -/
def kickWdog (u : UnitId) (s : State) : State :=
  match wdogReg s u with
  | some (n, ix) => s.setFld n ix F.caseEngWdog_REMAIN (256 * s.fld n ix F.caseEngWdog_PERIOD)
  | none => s

end Sys2Proof.Machine
end

