-- ==== Sys2Proof/Machine/RegFile.lean ====
section
/-! DEFINITION. The register map as addresses (R12, R13, R38 to R41), who may write what (R126, R539, R563, R590, R609,
R618, R651), and the write of the fields of a register by their access codes (R18). -/

namespace Sys2Proof.Machine
open Sys2Proof

/-- Take an offset apart into the indices of a table, outermost first. -/
def splitDims : List (Nat × Nat) → Nat → Option (List Nat)
  | [], o => if o = 0 then some [] else none
  | (c, st) :: r, o =>
    let i := min (o / st) (c - 1)
    (splitDims r (o - i * st)).map (i :: ·)

/-- The indices of the instance of a register at an address. -/
def matchReg (n : RegName) (a : Nat) : Option (RegName × List Nat) :=
  if a < n.spec.base then none else (splitDims n.spec.dims (a - n.spec.base)).map (n, ·)

/-- The register at an address (R13). -/
def regAt (a : Nat) : Option (RegName × List Nat) := RegName.all.findSome? (matchReg · a)

/-- The address of a register instance (R13). -/
def addrOf (n : RegName) (ix : List Nat) : Nat :=
  (n.spec.dims.zip ix).foldl (fun a e => a + e.1.2 * e.2) n.spec.base

/-- An address of a die's control-register window that lies in a block of R38, by its offset. -/
def inDieBlock (d o : Nat) : Bool :=
  decide (o < 0x380000) || (decide (0x400000 ≤ o) && decide (o < 0x4C0000)) ||
  (decide (0x500000 ≤ o) && decide (o < 0x600000)) ||
  (decide (0x600000 ≤ o) && decide (o < 0x700000) && decide (d % 2 = 0)) ||
  (decide (0x700000 ≤ o) && decide (o < 0x3000000))

/-- A register address lies in a block (R39 to R41). -/
def inBlock (a : Nat) : Bool :=
  if 0xA000000000 ≤ a ∧ a < 0xA400000000 then
    inDieBlock ((a - 0xA000000000) / 0x100000000) ((a - 0xA000000000) % 0x100000000)
  else decide (0xB000000000 ≤ a) && decide (a < 0xB000700000)

/-- The domain that holds a block (R611): a die domain, a package domain, or none for the guard domain. -/
inductive DomRef where
  | die (d k : Nat) | pkg (k : Nat) | none
  deriving DecidableEq, Repr

/-- The domain of a die block, by its offset in the window. -/
def dieDom (d o : Nat) : DomRef :=
  if o < 0x100000 then .die d 32
  else if o < 0x300000 then .die d 33
  else if o < 0x400000 then .die d 34
  else if o < 0x500000 then .die d (35 + (o - 0x400000) / 0x40000)
  else if o < 0x700000 then .die d 38
  else if o < 0x800000 then .die d 33
  else if o < 0x900000 then .none
  else if o < 0x1000000 then .die d 33
  else if o < 0x2000000 then .die d (16 + (o - 0x1000000) / 0x100000)
  else .die d ((o - 0x2000000) / 0x100000)

def domOf (a : Nat) : DomRef :=
  if a < 0xA400000000 then dieDom ((a - 0xA000000000) / 0x100000000) ((a - 0xA000000000) % 0x100000000)
  else if a < 0xB000100000 then .pkg 0
  else .none

/-- The unit of a register is Off (R614). -/
def unitOff (s : State) (a : Nat) : Bool :=
  match domOf a with
  | .die d k => s.domOff d k
  | .pkg k => s.pdomOff k
  | .none => false

/-- The unit of a register is held in reset: its die is Held and its domain is not the network's (R616). -/
def heldReset (s : State) (a : Nat) : Bool :=
  match domOf a with
  | .die d k => decide (k ≠ 33) && decide (s.fld .powerDie [d] F.powerDie_DSTATE = 1)
  | _ => false

/-- A die control core, the guard core or the debug initiator. -/
def isManager : Who → Bool
  | .core _ => true
  | .guard => true
  | .debug => true
  | _ => false

/-- Whether an initiator may write a register (R126, R539, R563, R590, R609, R618, R651). -/
def mayWrite (w : Who) (n : RegName) (ix : List Nat) : Bool :=
  match n with
  | .ctlRun | .ctlBoot => decide (w = .guard) || decide (w = .debug)
  | .guardFsel | .guardFfail | .guardPload | .guardPstat | .guardFop | .guardFarg | .guardFbuf => isManager w
  | .secFsum | .secSfloor | .secReq | .secSstat | .secIdkey | .secIdcert | .secDchal | .secDresp | .secDctl | .secMbox =>
    isManager w
  | .ctlXswap => isManager w
  | .powerClkstat | .powerClkflags | .powerClkctl | .powerPdom | .powerTemp | .powerSupstat | .powerRcause => isManager w
  | .powerDie => isManager w && (match w, ix with | .core d, [e] => decide (d.val ≠ e) | _, _ => true)
  | .powerDom =>
    isManager w && (match w, ix with
      | .core d, [e, k] => !(decide (d.val = e) && (decide (k = 32) || decide (k = 33)))
      | _, _ => true)
  | .debugAcc | .debugData | .debugCtl | .debugHreq | .debugHstat | .debugLoupe => false
  | _ => true

/-- Whether an initiator may read a register (R651). -/
def mayRead (n : RegName) : Bool :=
  match n with
  | .debugAcc | .debugData | .debugCtl | .debugHreq | .debugHstat | .debugLoupe => false
  | _ => true

/-- The fields of a register after a write, by their access codes (R18): the lock state before the write decides what
it may change. -/
def writeFields (n : RegName) (old v : W64) : W64 :=
  let p := n.spec
  let rwl := if p.rwl ≠ 0 ∧ old.getLsbD p.lock then 0 else p.rwl
  let m := BitVec.ofNat 64 (p.rw ||| rwl)
  (((old &&& ~~~m) ||| (v &&& m)) &&& ~~~(v &&& BitVec.ofNat 64 p.w1c)) ||| (v &&& BitVec.ofNat 64 p.w1s)

/-- A write that has no effect of its own (R13). -/
def plainWrite (n : RegName) (ix : List Nat) (v : W64) (s : State) : State :=
  s.setReg n ix (writeFields n (s.reg n ix) v)

/-- The forme is loading: user start has not come (R530). -/
def initialLoad (s : State) : Bool :=
  decide (s.fld .guardFsel [] F.guardFsel_GSTATE = 3) || decide (s.fld .guardFsel [] F.guardFsel_GSTATE = 4)

/-- What stands before a register write: the STATUS to answer with nothing done, or none for a write that takes
effect. -/
def writeGate (w : Who) (n : RegName) (ix : List Nat) (s : State) : Option Nat :=
  if !mayWrite w n ix then some REFUSED
  else if unitOff s (addrOf n ix) then some REFUSED
  else if heldReset s (addrOf n ix) then some OK
  else none

/-- A write of `pkg.power.die[d]` that R618 refuses sets its flag REFUSED (R628). -/
def noteRefused (w : Who) (n : RegName) (ix : List Nat) (s : State) : State :=
  if n = .powerDie ∧ mayWrite w n ix = false then (s.setFld .powerDie ix F.powerDie_REFUSED 1).raiseEvent 0 501 else s

/-- A register write by a command that names its register: the answer carries the STATUS (R331). (DEDUCED, safe: log
entry 24.) -/
def regCommand (w : Who) (n : RegName) (ix : List Nat) (h : State → Nat × State) (s : State) : State :=
  match writeGate w n ix s with
  | some st => (noteRefused w n ix s).answerWith st 0 0
  | none => let r := h s; r.2.answerWith r.1 0 0

/-- A word with a bit forced to 1. -/
def withBit (f : Fld) (v : W64) : W64 := v ||| BitVec.ofNat 64 (2 ^ f.lo)

end Sys2Proof.Machine
end

