-- ==== Sys2Proof/Machine/Fuse.lean ====
section
/-! DEFINITION. Memories without check bits of this model: the fuse array (R572 to R574) and the flash devices (R513); the
owner keys, the identity and the forme key (R574 to R583). -/

namespace Sys2Proof.Machine
open Sys2Proof

/-- The bytes of a range as they are stored, low byte first. -/
def Mem.rawN (m : Mem) (a : Nat) : Nat → Nat
  | 0 => 0
  | n + 1 => (Store.get m.bytes a).toNat + 256 * m.rawN (a + 1) n

/-- Store n bytes as they are. -/
def Mem.setRaw (m : Mem) (a : Nat) : Nat → Nat → Mem
  | 0, _ => m
  | n + 1, x => { m with bytes := Store.set m.bytes a (BitVec.ofNat 8 x) }.setRaw (a + 1) n (x / 256)

/-! Fuses (R572, R573). -/

def fuseBase : Nat := 2 ^ 53

/-- n logical bits from bit lo (R573). -/
def fuseBits (s : State) (lo n : Nat) : Nat :=
  s.mem.rawN (fuseBase + lo / 8) ((lo % 8 + n + 7) / 8) / 2 ^ (lo % 8) % 2 ^ n

/-- Burn one logical bit; no bit returns from 1 to 0 (R572). -/
def burnBit (s : State) (k : Nat) : State :=
  let a := fuseBase + k / 8
  { s with mem := { s.mem with
      bytes := Store.set s.mem.bytes a (Store.get s.mem.bytes a ||| BitVec.ofNat 8 (2 ^ (k % 8))) } }

/-- The logical bits that a value of n bits at bit lo burns. -/
def bitsOf (lo n x : Nat) : List Nat := ((List.range n).filter (fun k => x / 2 ^ k % 2 == 1)).map (lo + ·)

def slotLo (k : Nat) : Nat := 5888 + 512 * k
def floorLo (i : Nat) : Nat := 8448 + 32 * i
def sfloorLo (i : Nat) : Nat := 10496 + 32 * i

/-- An owner key slot is valid (R574). -/
def slotSet (s : State) (k : Nat) : Bool := decide (fuseBits s (slotLo k + 511) 1 = 1)
def slotRevoked (s : State) (k : Nat) : Bool := decide (fuseBits s (slotLo k + 510) 1 = 1)

/-- A slot that verifies: valid and not revoked. -/
def keyLive (s : State) (k : Nat) : Bool := decide (k < 4) && slotSet s k && !slotRevoked s k

def floorWords (s : State) : List Nat := (List.range 64).map (fun i => fuseBits s (floorLo i) 32)
def sfloorWords (s : State) : List Nat := (List.range 16).map (fun i => fuseBits s (sfloorLo i) 32)

/-- The folio floor and the standing floor (R574). -/
def folioFloor (s : State) : Nat := (floorWords s).foldl max 0
def standFloor (s : State) : Nat := (sfloorWords s).foldl max 0

def fusePolicyLock (s : State) : Nat := fuseBits s 11008 1
def fusePolicy (s : State) : Nat := fuseBits s 11009 2
def fuseEncReq (s : State) : Nat := fuseBits s 11011 1
def fuseDbg (s : State) : Nat := fuseBits s 11012 2

/-- The identity code (R705): PART reads 0x9440. (DESIGN CHOICE, unsafe: log entry 6.) -/
def identityCode (s : State) : W64 := BitVec.ofNat 64 (fuseBits s 0 48 + 0x9440 * 2 ^ 48)
def speedGrade (s : State) : Nat := F.idIdcode_GRADE.get (identityCode s)

/-- An ECDSA signature under an owner key slot. (DESIGN CHOICE, safe: log entry 44.) -/
def verifySlot (s : State) (k : Nat) (h r t : BitVec 384) : Bool :=
  keyLive s k && Config.ecdsaVerify (BitVec.ofNat 384 (fuseBits s (slotLo k) 384))
    (decide (fuseBits s (slotLo k + 384) 1 = 1)) h r t

/-- Bits i to i + n − 1 of a little-endian byte string, by byte. -/
def bytesAt (x i n : Nat) : Nat := x / 256 ^ i % 256 ^ n

/-- A string of n bytes read as a big-endian integer (R575). -/
def bigEndian (x : Nat) : Nat → Nat
  | 0 => 0
  | n + 1 => x % 256 * 256 ^ n + bigEndian (x / 256) n

/-! Identity (R575). -/

def hasIdentity (s : State) : Bool := decide (s.hv .identity [] = 1)

/-- The private key of the identity. -/
def dId : Nat := 1 + bigEndian (Config.hmac384 32 Config.kPuf 2 0x4449).toNat 48 % (Config.curveOrder - 1)
def xId : BitVec 384 := (Config.curveBase dId).1
def parityId : Bool := (Config.curveBase dId).2
def kWrap : Nat := (Config.hmac384 32 Config.kPuf 2 0x5746).toNat % 256 ^ 32
def devFp : BitVec 384 := Config.sha384 48 xId.toNat

/-- The forme key valid bit (R574). -/
def formeKeySet (s : State) : Bool := decide (fuseBits s (7936 + 511) 1 = 1)

/-- The unwrap of the forme key (R583): none without an identity, while SET is 0, or when it fails. -/
def unwrapKey (s : State) : Option Nat :=
  if hasIdentity s && formeKeySet s then
    Config.gcmOpen kWrap 0 0 0 32 (fuseBits s 7936 256) (fuseBits s (7936 + 256) 128)
  else none

/-- The forme key FK that the device has: the one that it unwrapped at guard domain start (R583). -/
def formeKey (s : State) : Option Nat := if s.hv .fkReady [] = 1 then unwrapKey s else none

/-! Flash (R511 to R513): a byte reads as FFh until it is programmed. -/

def flashBase (dev : Nat) : Nat := 2 ^ 54 + dev * 2 ^ 40

/-- The device count D (R511). -/
def flashCount (b : Board) : Nat :=
  let has (k : Nat) : Bool := decide (b.flash.getD k 0 ≠ 0)
  if has 0 && has 1 && has 2 && has 3 then 4 else if has 0 && has 1 then 2 else if has 0 then 1 else 0

/-- The bytes of the logical space (R513): each device counts with the capacity of the smallest in use (R511). -/
def flashCapacity (b : Board) : Nat :=
  flashCount b * ((List.range (flashCount b)).foldl (fun m k => min m (b.flash.getD k 0)) (b.flash.getD 0 0))

/-- The key of a logical flash byte (R513). -/
def flashKey (b : Board) (l : Nat) : Nat :=
  let d := flashCount b
  flashBase (l / 256 % d) + l / (256 * d) * 256 + l % 256

/-- A byte of configuration flash: erased bytes read as 0xFF. (PRESUMED, unsafe: log entry 7.) -/
def flashByte (s : State) (l : Nat) : Byte := Store.get (w := 8) s.mem.bytes (flashKey s.board l) ^^^ 0xFF

/-- n bytes of flash, low byte first. -/
def flashN (s : State) (l : Nat) : Nat → Nat
  | 0 => 0
  | n + 1 => (flashByte s l).toNat + 256 * flashN s (l + 1) n

/-- A read of n bytes of flash succeeds: they lie within the capacity, and no device reports a failure (R532, R543). -/
def flashReads (s : State) (l n : Nat) : Bool :=
  decide (l + n ≤ flashCapacity s.board) && s.board.flashBad.all fun b => decide (64 * b + 64 ≤ l ∨ l + n ≤ 64 * b)

def setFlash (s : State) (l : Nat) (b : Byte) : State :=
  { s with mem := { s.mem with bytes := Store.set s.mem.bytes (flashKey s.board l) (b ^^^ 0xFF) } }

/-- Program n bytes (R543): over a byte that is not erased, the result is open. (PRESUMED, unsafe: log entry 7.) -/
def programFlash (s : State) (l : Nat) : Nat → Nat → State
  | 0, _ => s
  | n + 1, x =>
    let old := flashByte s l
    programFlash (setFlash s l (if old = 0xFF then BitVec.ofNat 8 x else Config.flashOver s.freeCtr l)) (l + 1) n (x / 256)

/-- Erase a range that begins and ends on 64 KiB boundaries (R543, R544): its part of each device is one range (R513). -/
def eraseFlash (s : State) (l n : Nat) : State :=
  let d := flashCount s.board
  (List.range d).foldl (fun (t : State) k =>
    { t with mem := { t.mem with bytes := Store.clear t.mem.bytes (flashBase k + l / d) (n / d) } }) s

end Sys2Proof.Machine
end

