-- ==== Sys2Proof/Machine/Select.lean ====
section
/-! DEFINITION. The header of a forme (R514 to R520) and forme selection (R532 to R536). -/

namespace Sys2Proof.Machine
open Sys2Proof

/-- A reader of a forme: n bytes from an offset, low byte first; none when the read fails. -/
abbrev Reader := Nat → Nat → Option Nat

/-- The result codes (R532). -/
def cLOADED : Nat := 1
def cSKIPPED : Nat := 2
def cNOFLASH : Nat := 3
def cBADHDR : Nat := 4
def cWRONGDEV : Nat := 5
def cBADKEY : Nat := 6
def cSTALE : Nat := 7
def cBADSIG : Nat := 8
def cSHORT : Nat := 9
def cBADSEG : Nat := 10
def cCFGERR : Nat := 11
def cOUTSIDE : Nat := 12

/-- The chunks of a payload (R517, R518). -/
def chunkCount (plen : Nat) : Nat := (plen + 65535) / 65536

/-- The bytes of a chunk table with its padding (R518). -/
def tableBytes (plen : Nat) : Nat := (48 * chunkCount plen + 63) / 64 * 64

/-- SLEN (R517). -/
def storedLength (enc : Bool) (plen : Nat) : Nat := tableBytes plen + plen + (if enc then 16 * chunkCount plen else 0)

/-- A directory entry from its 64 bytes (R516). -/
def dirEntry (x : Nat) : DirEntry :=
  { code := decide (bytesAt x 0 1 = 1), die := bytesAt x 1 1, sramOff := bytesAt x 4 4, offset := bytesAt x 8 4,
    plen := bytesAt x 12 4, hash := bytesAt x 16 48, raw := x }

/-- The fields of an entry are legal (R516, R517). -/
def entryOk (x : Nat) : Bool :=
  let e := dirEntry x
  let ty := bytesAt x 0 1
  (decide (ty = 1) || decide (ty = 2)) && decide (e.die ≤ 3) && decide (bytesAt x 2 2 = 0) &&
    decide (e.offset % 64 = 0) && decide (e.plen % 8 = 0) && decide (8 ≤ e.plen) && decide (e.plen ≤ 2 ^ 28) &&
    (if ty = 1 then decide (e.sramOff % 64 = 0) && decide (e.sramOff + e.plen ≤ 0x80000) else decide (e.sramOff = 0))

/-- The layout rules of a directory from a lowest offset on (R517). -/
def layoutOk (enc : Bool) (last : Nat) : Nat → List DirEntry → Bool
  | lo, [] => decide (lo ≤ last)
  | lo, e :: r => decide (lo ≤ e.offset) && layoutOk enc last (e.offset + storedLength enc e.plen) r

/-- The preamble from its 64 bytes (R515), without the hash. -/
def preamble (x : Nat) : Preamble :=
  { partial_ := decide (bytesAt x 6 1 = 1), folio := bytesAt x 12 4, length := bytesAt x 16 4, nseg := bytesAt x 20 2,
    owner := bytesAt x 22 1, enc := decide (bytesAt x 23 1 % 2 = 1), gmask := bytesAt x 24 8, cmask := bytesAt x 32 8,
    salt := bytesAt x 40 16, hash := 0 }

/-- The fields of a preamble are legal (R515, R533): `part` is the KIND that the load needs, `standing` the STANDING. -/
def preambleOk (x : Nat) (part standing : Bool) : Bool :=
  let p := preamble x
  let grade := bytesAt x 7 1
  decide (bytesAt x 0 4 = 0x4D524F46) && decide (bytesAt x 4 2 = 1) && decide (bytesAt x 6 1 = part.toNat) &&
    (decide (grade = 2) || decide (grade = 3)) && decide (bytesAt x 23 1 / 2 = standing.toNat) &&
    decide (p.length % 64 = 0) && decide (p.length ≤ 2 ^ 30) && decide (1 ≤ p.nseg) && decide (p.nseg ≤ 4096) &&
    decide (64 + 64 * p.nseg + 256 ≤ p.length) && decide (bytesAt x 56 8 = 0) &&
    (part || (decide (p.gmask = 2 ^ 64 - 1) && decide (p.cmask = 2 ^ 64 - 1)))

/-- The header checks of R532, in code order: the code of the first that fails, or the header. -/
def headerCheck (s : State) (rd : Reader) (part standing : Bool) : Nat ⊕ (Preamble × List DirEntry) :=
  match rd 0 64 with
  | none => .inl cNOFLASH
  | some x =>
    if !preambleOk x part standing then .inl cBADHDR
    else
      let p := preamble x
      match rd 64 (64 * p.nseg), rd (p.length - 256) 256 with
      | some dir, some col =>
        let raws := (List.range p.nseg).map (fun i => bytesAt dir (64 * i) 64)
        let es := raws.map dirEntry
        if !(raws.all entryOk && layoutOk p.enc (p.length - 256) (64 + 64 * p.nseg) es &&
            (!part || es.all (fun e => !e.code)) && decide (bytesAt col 0 4 = 0x4F4C4F43) &&
            decide (bytesAt col 4 4 = p.folio) && decide (bytesAt col 104 152 = 0)) then .inl cBADHDR
        else if bytesAt x 8 4 ≠ 0x9440 ∨ speedGrade s < bytesAt x 7 1 then .inl cWRONGDEV
        else if !keyLive s p.owner || (!p.enc && decide (fuseEncReq s = 1)) then .inl cBADKEY
        else if p.folio < (if standing then standFloor s else folioFloor s) then .inl cSTALE
        else
          let n := 64 + 64 * p.nseg
          let h := Config.sha384 (n + 8) (x + dir * 256 ^ 64 + bytesAt col 0 8 * 256 ^ n)
          if verifySlot s p.owner h (BitVec.ofNat 384 (bytesAt col 8 48)) (BitVec.ofNat 384 (bytesAt col 56 48)) then
            .inr ({ p with hash := h.toNat }, es)
          else .inl cBADSIG
      | _, _ => .inl cNOFLASH

/-! The copies in flash (R513). -/

/-- The first logical byte of a copy: 0 recto, 1 verso, 2 the standing forme. -/
def copyBase (c : Nat) : Nat := c * 0x40000000

/-- A reader of a copy in flash. -/
def flashReader (s : State) (c : Nat) : Reader := fun o n =>
  if flashReads s (copyBase c + o) n = true ∧ o + n ≤ 0x40000000 then some (flashN s (copyBase c + o) n) else none

/-- The header of a copy in flash. -/
def copyHeader (s : State) (c : Nat) : Nat ⊕ (Preamble × List DirEntry) :=
  headerCheck s (flashReader s c) false (decide (c = 2))

def resFld (c : Nat) : Fld :=
  if c = 0 then F.guardFsel_RECTO_RES else if c = 1 then F.guardFsel_VERSO_RES else F.guardFsel_STAND_RES

def setRes (c code : Nat) (s : State) : State := s.setFld .guardFsel [] (resFld c) code

def gstate (s : State) : Nat := s.fld .guardFsel [] F.guardFsel_GSTATE
def setGstate (n : Nat) (s : State) : State := s.setFld .guardFsel [] F.guardFsel_GSTATE n

/-- POLICY bit 0 enables the standing forme (R534). -/
def standingEnabled (s : State) : Bool := decide (s.fld .guardFsel [] F.guardFsel_POLICY % 2 = 1)

/-- Dark hold (R535, R536, R545). -/
def darkHold (s : State) : State :=
  (setGstate 6 ((s.setFld .guardFsel [] F.guardFsel_LOADED 3).setHv .faultOff [] 0)).raiseEvent 0 498

/-- The acceptable copy, recto or verso, of higher FOLIO that has not been tried; recto when the two are equal. -/
def bestCopy (x : SelState) : Option Nat :=
  let l := x.good.filter (fun c => decide (c.1 ≤ 1) && decide (c.1 ∉ x.tried))
  (l.foldl (fun (a : Option (Nat × Nat)) c => match a with
    | none => some c
    | some b => if b.2 < c.2 ∨ (b.2 = c.2 ∧ c.1 < b.1) then some c else some b) none).map (·.1)

/-- Choose (R535): a copy is chosen, or the device enters dark hold. -/
def chooseCopy (s : State) : State :=
  match bestCopy s.sel with
  | some c => setGstate 2 { s with sel := { s.sel with chosen := some c } }
  | none =>
    let s := { s with sel := { s.sel with chosen := none } }
    if standingEnabled s && decide (2 ∉ s.sel.tried) then
      match copyHeader s 2 with
      | .inr (p, _) => setGstate 2 { s with sel := { s.sel with chosen := some 2, good := s.sel.good ++ [(2, p.folio)] } }
      | .inl code => darkHold (setRes 2 code s)
    else darkHold s

/-- The header checks of recto and verso (R535, Headers). -/
def checkCopy (s : State) (c : Nat) : State :=
  match copyHeader s c with
  | .inl code => setRes c code s
  | .inr (p, _) => { s with sel := { s.sel with good := s.sel.good ++ [(c, p.folio)] } }

/-- A die that waits to leave Held may leave at this entry to Probe, when its supply is in tolerance (R617, R622). -/
def probeDie (s : State) (d : Nat) : State := if s.hv .supplyOut [d] = 0 then s.setHv .dieWait [d] 0 else s

/-- Probe, Headers and Choose (R511, R534, R535). -/
def probeFormes (s : State) : State :=
  let fused := fusePolicyLock s
  let pol := if fused = 1 then fusePolicy s else s.board.fbsel.val
  let s := (List.range 4).foldl probeDie s
  let s := setRes 0 0 (setRes 1 0 (setRes 2 0 s))
  let s := (s.setFld .guardFsel [] F.guardFsel_POLICY pol).setFld .guardFsel [] F.guardFsel_POLSRC fused
  let s := s.setFld .guardFsel [] F.guardFsel_FLASHN (flashCount s.board)
  chooseCopy (checkCopy (checkCopy (setGstate 1 { s with sel := SelState.init, load := LoadState.init }) 0) 1)

end Sys2Proof.Machine
end

