-- ==== Sys2Proof/Machine/Reset.lean ====
section
/-! DEFINITION. What the resets leave (R219, R615, R619, R620): the contents of a domain after its reset, the guard reset
and guard domain start (R623, R625). -/

namespace Sys2Proof.Machine
open Sys2Proof

/-- The domain whose reset reaches a register (R611, R620): user PLLs, the bank status and the test registers belong to the
die as a whole; a delay line belongs to the pin's galley, the clear of a map to the memory controllers. -/
def keyDom (k : RKey) : DomRef :=
  match k.n, k.ix with
  | .galleyUpllCfg, _ => .none
  | .galleyUpllStatus, _ => .none
  | .ioBankStatus, _ => .none
  | .bistCtl, _ => .none
  | .bistStatus, _ => .none
  | .bistSig, _ => .none
  | .bistMfail, _ => .none
  | .bistLockout, _ => .none
  | .bistSrep, _ => .none
  | .ioQpinDly, [d, m] => .die d (m / 4)
  | .integCmapClr, d :: _ => .die d 34
  | n, ix => domOf (addrOf n ix)

/-- A register of the die that no domain holds: a die reset reaches it. -/
def dieKey (d : Nat) (k : RKey) : Bool :=
  decide (k.ix.head? = some d) && (match k.n with
    | .galleyUpllCfg | .galleyUpllStatus | .bistCtl | .bistStatus | .bistSig | .bistMfail | .bistLockout => true
    | _ => false)

/-- The domain of a sequencer variable of a die. -/
def hidDom (k : HKey) : DomRef :=
  match k.n, k.ix with
  | .slotCtr, d :: c :: _ | .caseCycle, d :: c :: _ | .swapAt, d :: c :: _ | .startAt, d :: c :: _
  | .lastRevoke, d :: c :: _ | .dmaTurn, d :: c :: _ | .spareTested, d :: c :: _ | .haltSlot, d :: c :: _
  | .caseHalted, d :: c :: _ => .die d (16 + c)
  | .livePlane, d :: g :: _ | .ramSkew, d :: g :: _ | .panic, d :: g :: _ | .clkEdges, d :: g :: _ | .localRise, d :: g :: _
  | .localAt, d :: g :: _ | .quoinOpening, d :: g :: _ | .openNets, d :: g :: _ | .portPkt, d :: g :: _ | .portDone, d :: g :: _
  | .eventHigh, d :: g :: _ | .eventOwed, d :: g :: _ => .die d g
  | .jesdBound, d :: j :: _ => .die d (35 + j)
  | .txTap, d :: m :: _ | .rxTap, d :: m :: _ => .die d (m / 4)
  | .ddrCfg, d :: _ | .wrMode, d :: _ | .refPart, d :: _ | .powerDown, d :: _ | .centring, d :: _ | .rankIdle, d :: _
  | .refNow, d :: _ => .die d 34
  | .patrol, d :: _ | .ctlCycle, d :: _ => .die d 32
  | .portSlot, d :: _ | .portSent, d :: _ | .planeNext, d :: _ | .xportAt, d :: _ | .meshOpen, d :: _ | .chanPort, d :: _
  | .echo, d :: _ | .echoDelay, d :: _ | .xswapSent, d :: _ | .xswapOwn, d :: _ => .die d 33
  | _, _ => .none

/-- The entry of a repair table (R638). -/
def fuseRepair (s : State) (k : Nat) : Nat := fuseBits s (1024 + 32 * k) 32

/-- The position that the repair fuses mark as bad in a case (R219, R639). -/
def badPosition (s : State) (d c : Nat) : Option Nat :=
  ((List.range 64).map (fuseRepair s)).findSome? fun e =>
    let m := e / 2 ^ 10 % 2 ^ 17
    if e / 2 ^ 31 = 1 ∧ e / 2 ^ 29 % 4 = 2 ∧ e / 2 ^ 27 % 4 = d ∧ m / 9 = c then some (m % 9) else none

/-- REMAP and USTATE after a case reset (R219). -/
def resetRemap (d c : Nat) (s : State) : State :=
  match badPosition s d c with
  | none => s
  | some b =>
    let r : W64 := BitVec.ofNat 64 0x876543210
    let r := if b < 8 then Fld.put ⟨32, 4⟩ (Fld.put ⟨4 * b, 4⟩ r 8) b else r
    (s.setReg .caseSpareRemap [d, c] r).setFld .caseSpareStatus [d, c] F.caseSpareStatus_USTATE 3

/-- The processors of a domain. -/
def unitDom : UnitId → DomRef
  | .eng d c _ => .die d (16 + c.val)
  | .core d => .die d 32
  | .guard => .none

/-- The domain of the die that holds a macro (R633). -/
def macroDom (m : Nat) : Nat :=
  if m < 16384 then m / 960
  else if m < 18688 then 16 + (m - 16384) / 16 / 9
  else if m < 18944 then 16 + (m - 18688) / 16
  else if m < 18960 then 32
  else 33

/-- An entry of the soft repair table (R641). -/
def softEntry (s : State) (d k : Nat) : Nat := (s.reg .bistSrep [d, k]).toNat

/-- The repairs are applied to macros of a die before their fill (R640): they have what the soft repair table then holds. -/
def applyRepairs (d : Nat) (mine : Nat → Bool) (s : State) : State :=
  { s with repairs := s.repairs.filter (fun e => !(decide (e.1 = d) && mine e.2.1)) ++
      ((List.range 64).map (softEntry s d)).filterMap fun e =>
        let m := e / 2 ^ 10 % 2 ^ 17
        if e / 2 ^ 31 = 1 ∧ e / 2 ^ 29 % 4 ≤ 1 ∧ mine m = true then some (d, m, e / 2 ^ 29 % 4, e % 2 ^ 10) else none }

/-- Fill the memories of a domain, with the repairs applied (R383, R390, R640). -/
def fillDom (d k : Nat) (s : State) : State :=
  let s := applyRepairs d (fun m => decide (macroDom m = k)) s
  let m := s.mem
  { s with mem :=
    if k < 16 then m.fill (frameBase d k 0) 0x1000000
    else if k < 32 then
      (m.fill (caseBase d (k - 16)) 0x100000).fill (lmemBase d (k - 16) 0) (9 * 0x40000)
    else if k = 32 then m.fill (sramBase d) 0x80000
    else if k = 34 then (m.fill (cmapBase d 0) 0x100000).fill (cmapBase d 1) 0x100000
    else m }

/-- A command of the halt controller whose targets a reset has taken away is over. -/
def hreqDrop (s : State) : State :=
  if s.bit .debugHreq [] F.debugHreq_BUSY && s.units.all (fun e => decide (e.2.resume = 0) && !e.2.stepping && !e.2.haltDue) then
    s.setFld .debugHreq [] F.debugHreq_BUSY 0
  else s

/-- The contents of a domain after its reset (R219, R615, R620): every register and sequencer of it at its reset value, its
memories filled; the latches of the quoins, which close then, keep what they hold (R558). The traffic of the network domain is
dealt with by the caller. -/
def blankDom (d k : Nat) (s : State) : State :=
  let r : DomRef := .die d k
  let s := s.clearRegs (fun x => decide (keyDom x = r))
  let s := { s with
    hid := s.hid.keep (fun x => decide (hidDom x ≠ r)),
    units := s.units.keep (fun u => decide (unitDom u ≠ r)),
    cases := s.cases.keep (fun x => decide (¬(x.1 = d ∧ x.2 + 16 = k))),
    fab := s.fab.keep (fun x => decide (¬(x.home = some (d, k))) || x.isHeld),
    blocks := s.blocks.keep (fun x => decide (¬(x.head? = some d ∧ (x.drop 1).head? = some k))),
    ddrs := s.ddrs.keep (fun x => decide (¬(x.1 = d ∧ k = 34))),
    scrubs := s.scrubs.keep (fun x => decide (¬(x = d ∧ k = 33))),
    links := s.links.keep (fun x => decide (¬(x.1 = d ∧ k = 33))),
    lanes := s.lanes.keep (fun x => decide (¬(x.head? = some d ∧ 35 ≤ k ∧ (x.drop 1).head? = some (k - 35)))),
    eths := s.eths.keep (fun x => decide (¬(x.1 = d ∧ k = 38))),
    pcies := s.pcies.keep (fun x => decide (¬(x = d ∧ k = 38))),
    comps := s.comps.keep (fun x => decide (¬(x = d ∧ k = 32))) }
  let s := hreqDrop (fillDom d k s)
  if 16 ≤ k ∧ k < 32 then resetRemap d (k - 16) s else s

/-- Every domain of a die, and VMIS of its I/O banks (R17, R25, R619); what a bank measures stays. -/
def blankDie (d : Nat) (s : State) : State :=
  let s := (List.range 8).foldl (fun (t : State) b => t.setFld .ioBankStatus [d, b] F.ioBankStatus_VMIS 0) s
  (List.range 39).foldl (fun t k => blankDom d k t) (s.clearRegs (dieKey d))

/-- The timing unit after its reset (R620): device time 0, Free-run, every source Off, the model cleared. The followers and the
loaded keys belong to the dies (R485, R620). -/
def blankTiming (s : State) : State :=
  { s.clearRegs (fun x => decide (domOf (addrOf x.n x.ix) = .pkg 0)) with
    time := { TimeState.init with keys := s.time.keys, follow := s.time.follow, rates := s.time.rates } }

/-- The block of a package register, by its place in the package window (R41). -/
def pkgBlock (k : RKey) : Option Nat :=
  let a := addrOf k.n k.ix
  if 0xB000000000 ≤ a ∧ a < 0xB000700000 then some ((a - 0xB000000000) / 0x100000) else none

/-- The registers of the guard domain that a guard reset reaches (R619, R628, R641): `pkg.power` but for `rcause`, `pkg.guard`
and `pkg.sec`, the power registers of the dies and their test registers; what the supplies and sensors show is kept (of
`temp`, its field TEMP, below). -/
def guardKey (k : RKey) : Bool :=
  match k.n with
  | .powerRcause | .powerSupstat | .powerTemp => false
  | .powerDom | .bistSrep => true
  | _ => match pkgBlock k with
    | some b => decide (3 ≤ b) && decide (b ≤ 5)
    | none => false

/-- The optical registers (the interposer halves), which a guard reset clears. R620 has no row for a reset of one half alone: it
leaves these registers as they are. (DESIGN CHOICE, unsafe: log entry 71.) -/
def photonKey (k : RKey) : Bool := decide (pkgBlock k = some 2)

/-- The sequencer variables that a guard reset keeps: those of the supplies. -/
def hidKept (k : HKey) : Bool :=
  match k.n with
  | .supplyOut | .identity => true
  | _ => false

/-- Debug is locked (R652). -/
def debugLocked (s : State) : Bool := !s.bit .secSstat [] F.secSstat_UNLOCKED

/-- Guard domain start (R383, R575, R586, R588, R625): the memories of the guard core are filled, the fuses are read, the
identity is derived when `puf` holds, a new challenge is drawn, DBG 0 unlocks debug with every scope bit, and the guard core
runs and enters Probe. (DEDUCED, unsafe: log entry 45.) -/
def guardStart (puf : Bool) (s : State) : State :=
  let s := (s.setHv .guardUp [] 1).setHv .identity [] puf.toNat
  let s := { s with mem := s.mem.fill guardBase (min Config.guardMemSize (2 ^ 52)) }
  let s := if puf then s else (s.setFld .secSstat [] F.secSstat_IDFAIL 1)
  let s := s.setHv .fkReady [] (unwrapKey s).isSome.toNat
  let c := Config.challenge s.freeCtr
  let s := ((List.range 6).foldl (fun (t : State) k => t.setReg .secDchal [k] (c.extractLsb' (64 * k) 64)) s).draw
  let s := if fuseDbg s = 0 then
      { s.setFld .secSstat [] F.secSstat_UNLOCKED 1 with sec := { s.sec with scope := 0xFF, ever := true } }
    else s
  probeFormes (s.setUnit .guard { UnitState.init .guard with st := .running })

/-- Every SCAN instruction of the test access port (R670). -/
def scanGroup (op : Nat) : Bool := decide (2 ≤ op) && decide (op ≤ 7)

/-- The registers of the debug domain that a relock clears (R653): EN of every loupe, and BRKHALT; a SCAN instruction
ends. -/
def relockDebugRegs (s : State) : State :=
  let s := s.setFld .debugCtl [] F.debugCtl_BRKHALT 0
  let s := (List.range 4).foldl (fun t d => (List.range 16).foldl (fun (t : State) k =>
    t.setFld .debugLoupe [d, k] F.debugLoupe_EN 0) t) s
  if scanGroup s.tap.ir then { s with tap := { s.tap with ir := 1 } } else s

/-- A guard reset (R619, R623, R628): the guard domain, the four dies, the timing unit and the interposer halves; the debug
domain keeps its registers but for the relock, and its outstanding request ends with TIMEOUT (R620). `puf` says whether the
identity can be derived again. -/
def guardResetWith (cause : Nat) (puf : Bool) (s : State) : State :=
  let s := (List.range 4).foldl (fun t d => blankDie d t) s
  let s := blankTiming (s.clearRegs (fun k => guardKey k || photonKey k))
  let s := (List.range 4).foldl (fun (t : State) d => t.setReg .powerTemp [d]
    (F.powerTemp_TEMP.put (resetAt .powerTemp [d]) (t.fld .powerTemp [d] F.powerTemp_TEMP))) s
  let s := { s with
    hid := s.hid.keep hidKept, units := [], inits := [], fab := [], flight := [], mesh := [], accepted := [],
    replies := [], sides := [], netFlaws := [], repairs := [], jobs := [], sel := SelState.init, load := LoadState.init, comps := [],
    sec := SecState.init, windows := [], time := TimeState.init }
  let s := (s.setFld .powerRcause [] F.powerRcause_GCAUSE cause).bumpFld .powerRcause [] F.powerRcause_GCOUNT 1
  let s := s.setFld .debugHreq [] F.debugHreq_BUSY 0
  let s := if s.bit .debugAcc [] F.debugAcc_BUSY then
      (s.setFld .debugAcc [] F.debugAcc_BUSY 0).setFld .debugAcc [] F.debugAcc_STATUS TIMEOUT
    else s
  guardStart puf (relockDebugRegs s)

/-- A guard reset by a nested trap of the guard core (R124): the identity comes out as at the last start. -/
def guardReset (cause : Nat) (s : State) : State := guardResetWith cause (hasIdentity s) s

end Sys2Proof.Machine
end

