-- ==== Sys2Proof/Machine/Ops.lean ====
section
/-! DEFINITION. The shared operations of the processors: taking a trap and returning from one (R124), the pending
asynchronous causes (R122, R123), stopping and halting, the requests that an access sends, and the issue of a pair
(R48 to R51, R113 to R115). -/

namespace Sys2Proof.Machine
open Sys2Proof

/-! Stopping (R72, R107, R127). -/

/-- A locked load that is still under way sets no reservation after a halt, stop or migration (R107). -/
def Pend.noReserve (p : Pend) : Pend :=
  match p.dest with
  | .lkl rd dw => { p with dest := .load rd (if dw then 3 else 2) }
  | _ => p

/-- Clear the reservation, and that of a locked load under way (R107). -/
def UnitState.dropResv (x : UnitState) : UnitState :=
  { x with resv := none, outs := x.outs.map Pend.noReserve }

/-- The requests that discarded pairs have sent are left alone when their engine never issues the pairs again: what they
return is written nowhere (R208, R215). -/
def UnitState.abandonSent (x : UnitState) : UnitState :=
  if x.sent = [] then x
  else
    let ids := x.sent.map (·.2)
    { x with
      sent := [], held := x.held.filter (fun h => decide (h.id ∉ ids)),
      outs := (x.outs.filter (fun p => !(decide (p.id ∈ ids) && x.held.any (fun h => h.id == p.id)))).map fun p =>
        if p.id ∈ ids ∧ p.dest ≠ .store then { p with dest := .drop } else p }

/-- An engine is to stop: no further pair issues (R72). A replay is still to be completed (R208). -/
def UnitState.toStop (x : UnitState) : UnitState :=
  let y := { x.dropResv with stopping := true }
  if y.mismRun = 0 then y.abandonSent else y

/-- Raise the stop event of an engine or the core-stop event of a core (R72, R127). A core that stops inside a CALL raises none
(R527). -/
def stopEvent (u : UnitId) (s : State) : State :=
  match u with
  | .eng d c p =>
    let sl := s.slotOf d c p
    if sl < 8 then s.raiseCaseEvent d c (8 * c.val + sl) else s
  | .core d => if (s.comp d).doing = .call then s else s.raiseEvent d 160
  | .guard => s

/-- A STOP that is still pending when its engine enters Fault-stopped ends there: the engine stays Fault-stopped, and STOP
clears. (DESIGN CHOICE, unsafe: log entry 84.) -/
def clearStop (u : UnitId) (s : State) : State :=
  if !(s.unit u).stopping then s
  else match u with
  | .eng d c p =>
    let sl := s.slotOf d c p
    if sl < 8 then s.setFld .caseEngCtl [d, c, sl] F.caseEngCtl_STOP 0 else s
  | .core d => s.setFld .ctlRun [d] F.ctlRun_STOP 0
  | .guard => s

/-! Traps (R121 to R124). -/

/-- Take a trap (R124): `epc` is the address that EPC receives. A trap inside a handler stops the processor, and a
reservation is then lost with that of a locked load under way; a locked load under way at any other trap sets its
reservation in the handler (R107). (DEDUCED, unsafe: log entry 63.) -/
def takeTrap (u : UnitId) (cause : Nat) (tval epc : W64) (s : State) : State :=
  let x := { s.unit u with mismRun := 0, fetched := none }
  if x.st_ fINTRAP = 1 then
    match u with
    | .guard => guardReset 3 s
    | _ =>
      stopEvent u ((clearStop u s).setUnit u
        { x.dropResv.abandonSent with
          st := .faultStopped, lastCause := BitVec.ofNat 8 cause, pc := epc, stopping := false, wev := none, stall := 0 })
  else
    let x := { x with lastCause := BitVec.ofNat 8 cause, wev := none, stall := 0, resv := none }
    let x := (((x.setSys EPC epc).setSys CAUSE (BitVec.ofNat 64 cause)).setSys TVAL tval)
    let x := (x.setSt fPPRIV (x.st_ fPRIV)).setSt fPEIE (x.st_ fEIE)
    let x := ((x.setSt fPRIV (trapLevel u)).setSt fEIE 0).setSt fINTRAP 1
    s.setUnit u { x with pc := x.getSys TVEC }

/-- Return from a trap (R124). -/
def returnTrap (u : UnitId) (s : State) : State :=
  let x := s.unit u
  let l := x.st_ fPPRIV
  let y := ((x.setSt fPRIV (if hasLevel u l then l else taskLevel u)).setSt fEIE (x.st_ fPEIE)).setSt fINTRAP 0
  s.setUnit u { y with pc := x.getSys EPC, resv := none }

/-- The lowest cause (R122); of two of one number, the first listed, so that TVAL is the scalar slot's when both slots raise one
cause. (DESIGN CHOICE, unsafe: log entry 64.) -/
def lowestCause : List (Nat × W64) → Option (Nat × W64)
  | [] => none
  | c :: r =>
    match lowestCause r with
    | none => some c
    | some b => if b.1 < c.1 then some b else some c

/-- The route of an event names this processor (R680). -/
def routesTo (s : State) (n : Nat) (u : UnitId) : Bool :=
  let d := n / 512
  let k := s.fld .eventRoute [d, n % 512] F.eventRoute_KIND
  let t := s.fld .eventRoute [d, n % 512] F.eventRoute_TARGET
  match u with
  | .core e => decide (k = 1) && decide (t = e.val)
  | .eng e c p => decide (k = 2) && decide (t / 128 = e.val) && decide (t / 8 % 16 = c.val) &&
      decide (s.posOf e c (t % 8) = p.val)
  | .guard => false

/-- Event n (package number) is enabled, pending, not taken and routed to the processor (R681). -/
def deliverable (s : State) (n : Nat) (u : UnitId) : Bool :=
  let d := n / 512
  let e := n % 512
  s.bit .eventRoute [d, e] F.eventRoute_EN && !s.bit .eventRoute [d, e] F.eventRoute_TAKEN &&
    (s.reg .eventPend [d, e / 32]).getLsbD (e % 32) && routesTo s n u

/-- The smallest number of a list. -/
def least : List Nat → Option Nat
  | [] => none
  | n :: r => match least r with
    | none => some n
    | some m => some (min n m)

/-- The event that the processor takes next: the lowest-numbered of those that have reached it (R681). -/
def nextEvent (s : State) (u : UnitId) : Option Nat :=
  least ((s.unit u).delivered.filter (fun n => deliverable s n u))

/-- Taking an event sets TAKEN (R681). -/
def takeEvent (u : UnitId) (n : Nat) (s : State) : State :=
  let x := s.unit u
  (s.setUnit u { x with delivered := x.delivered.filter (fun m => decide (m ≠ n)) }).setFld
    .eventRoute [n / 512, n % 512] F.eventRoute_TAKEN 1

/-- The pending asynchronous cause that may be taken: the highest number first (R122, R123), with its TVAL; the cycles of a
replay hold no pair boundary (R122, R210). (DEDUCED, safe: log entry 16.) -/
def asyncCause (s : State) (u : UnitId) : Option (Nat × W64) :=
  let x := s.unit u
  if x.mismRun ≠ 0 then none
  else if x.wdog then some (34, 0)
  else match x.posted with
    | some a => if x.st_ fINTRAP = 0 then some (33, a) else evCause x
    | none => evCause x
where
  /-- cause 32 -/
  evCause (x : UnitState) : Option (Nat × W64) :=
    if x.st_ fEIE = 1 then (nextEvent s u).map (fun n => (32, BitVec.ofNat 64 n)) else none

/-- Take an asynchronous cause with EPC at the pair that would issue next (R121). -/
def takeAsync (u : UnitId) (c : Nat × W64) (s : State) : State :=
  let x := s.unit u
  let pc := x.pc
  let s :=
    if c.1 = 34 then s.setUnit u { x with wdog := false }
    else if c.1 = 33 then s.setUnit u { x with posted := none }
    else takeEvent u c.2.toNat s
  takeTrap u c.1 c.2 pc s

/-- At a pair boundary of a running processor an asynchronous cause that may be taken goes before a stop, a halt or a
migration (R75, R228, R660). -/
def boundaryTrap (u : UnitId) (s : State) : State :=
  if (s.unit u).st = .running then
    match asyncCause s u with
    | some c => takeAsync u c s
    | none => s
  else s

/-- A posted bus error (R71, R123, R685): the first waits as cause 33, the others are counted in `perr`. -/
def postError (u : UnitId) (a : Nat) (s : State) : State :=
  let x := s.unit u
  match x.posted with
  | none => s.setUnit u { x with posted := some (BitVec.ofNat 64 a) }
  | some _ =>
    match u with
    | .eng d c p =>
      let sl := s.slotOf d c p
      if sl < 8 then s.bumpFld .eventPerr [d, 1 + 8 * c.val + sl] F.eventPerr_COUNT 1 else s
    | .core d => s.bumpFld .eventPerr [d, 0] F.eventPerr_COUNT 1
    | .guard => s

/-- Enter Halted (R658): the reservation is cleared, the slot counter recorded. -/
def haltUnit (u : UnitId) (s : State) : State :=
  let x := s.unit u
  let s := s.setUnit u { x.dropResv with st := .halted, back := x.st, stall := 0, haltDue := false }
  match u with
  | .eng d c p => s.setHv .haltSlot [d, c, p] (s.hv .slotCtr [d, c])
  | _ => s

/-! Requests (R100, R309, R317). -/

/-- The register that configures an initiator (the index list of `tmo_cfg`). -/
def tmoIdx : Who → Option (List Nat)
  | .core d => some [d, 0]
  | .engine d c sl => if sl.val < 8 then some [d, 1 + 8 * c.val + sl.val] else none
  | .dma d c => some [d, 129 + c.val]
  | .fport d g k => some [d, 145 + 4 * g.val + k.val]
  | .pcie d => some [d, 209]
  | .guard => some [0, 210]
  | .debug => some [0, 211]
  | .eth _ _ => none
  | .scrub _ => none

/-- A field of `tmo_cfg`, at its reset value for an initiator that has no register of its own. -/
def tmoFld (s : State) (w : Who) (f : Fld) : Nat :=
  match w, tmoIdx w with
  | .eth d m, _ => s.fld .ethNet [d, m] f
  | _, some ix => s.fld .nocTmoCfg ix f
  | _, none => f.get (resetAt .nocTmoCfg [])

/-- The pieces of a byte range, one for each aligned block that it touches (R309). -/
def splitBlocks (blk a n : Nat) : Nat → List (Nat × Nat)
  | 0 => []
  | fuel + 1 =>
    if n = 0 then []
    else
      let m := min n (blk - a % blk)
      (a, m) :: splitBlocks blk (a + m) (n - m) fuel

/-- Open an access at an interface: its requests wait there in order (R309, R317). `r` gives the operation, address,
length, data and attributes of the whole access. -/
def openAccess (use : AccUse) (r : Req) (s : State) : State :=
  let i := s.init r.who
  let id := i.nextAcc
  let ps := if r.op = .at_ then [(r.addr, r.len)] else splitBlocks 256 r.addr r.len (r.len / 256 + 2)
  let rs := ps.map fun (a, n) =>
    { r with addr := a, len := n, off := a - r.addr, acc := id,
             data := if r.op = .wr then r.data / 256 ^ (a - r.addr) % 256 ^ n else r.data }
  s.setInit r.who
    { i with queue := i.queue ++ rs, nextAcc := id + 1,
             accs := i.accs ++ [{ id := id, use := use, op := r.op, addr := r.addr, len := r.len, left := rs.length,
                                  data := 0, bad := 0, fail := none }] }

/-- A request with the attributes that `tmo_cfg` gives (R325, the table of `tmo_cfg`). -/
def mkReq (s : State) (w : Who) (op : ReqOp) (addr len data : Nat) : Req :=
  { who := w, op := op, addr := addr, len := len, data := data, cmp := 0, afn := 0, lock := false, quiet := false,
    ord := decide (tmoFld s w F.nocTmoCfg_ORD = 1), pri := tmoFld s w F.nocTmoCfg_PRI, pmask := 0, acc := 0, off := 0 }

/-- Send the request of an access of a processor at an address: it is outstanding until its response arrives (R70). -/
def sendFor (u : UnitId) (dest : Dest) (addr len : Nat) (r : Req) (s : State) : State :=
  let x := s.unit u
  let p : Pend := { id := x.nextId, remote := true, addr := addr, len := len, dest := dest }
  openAccess (.unit x.nextId) r (s.setUnit u { x with outs := x.outs ++ [p], nextId := x.nextId + 1 })

/-- Send a remote access of a processor (R100). -/
def sendRemote (u : UnitId) (dest : Dest) (r : Req) (s : State) : State := sendFor u dest r.addr r.len r s

/-- Put a case access of an engine on its request wire to the bank (R100, R176). -/
def sendCase (u : UnitId) (dest : Dest) (off len : Nat) (op : BankOp) (s : State) : State :=
  match u with
  | .eng d c p =>
    let x := s.unit u
    let pd : Pend := { id := x.nextId, remote := false, addr := off, len := len, dest := dest }
    let s := s.setUnit u { x with outs := x.outs ++ [pd], nextId := x.nextId + 1 }
    let cs := s.case d c
    s.setCase d c { cs with waiting := cs.waiting ++
      [{ who := .eng p, off := off, len := len, op := op, use := .eng x.nextId, pri := 0, age := 0 }] }
  | _ => s

/-! Results (R71, R87, R105, R106, R313). -/

/-- The register that a response sets, and the reservation: `bad` is not 0 for poisoned data. -/
def applyResult (u : UnitId) (p : Pend) (status data bad : Nat) (s : State) : State :=
  let x := s.unit u
  let a := BitVec.ofNat 64 p.addr
  let mark (rd : Nat) (v : W64) : UnitState := x.setGm rd v (if bad = 0 then .none else .poison a)
  let failLoad (rd : Nat) : State := (s.setUnit u (x.setGm rd (Config.errorData s.freeCtr) (.error a))).draw
  match p.dest with
  | .load rd sz => if status ≠ OK then failLoad rd else s.setUnit u (mark rd (extendSz sz data))
  | .lkl rd dw =>
    if status ≠ OK then failLoad rd
    else s.setUnit u { mark rd (extendDw dw data) with resv := some ⟨p.addr / 64, dwBytes dw⟩ }
  | .atomic rd dw =>
    if status ≠ OK then postError u p.addr (s.setUnit u (x.setG rd 0)) else s.setUnit u (mark rd (extendDw dw data))
  | .stu rd =>
    let s := s.setUnit u { x.setG rd (if status = OK then 0 else 1) with resv := none }
    if status = OK ∨ status = NOSTORE then s else postError u p.addr s
  | .store => if status ≠ OK then postError u p.addr s else s
  | .line rd sz keep =>
    if status ≠ OK then failLoad rd
    else
      let o := p.addr % 64
      let b := bad / 2 ^ o % 2 ^ szBytes sz
      let y := x.setGm rd (extendSz sz (data / 256 ^ o % 256 ^ szBytes sz)) (if b = 0 then .none else .poison a)
      if keep && decide (bad = 0) && Config.cacheKeeps s.freeCtr then
        (s.setUnit u { y.cleanLine false (p.addr / 64) with
          dlines := y.dlines.set (p.addr / 64) (BitVec.ofNat 512 data) }).draw
      else (s.setUnit u y).draw
  | .fetch keep =>
    let y := { x with fetched := some (p.addr, status, bad) }
    if keep && inDram p.addr 4 && decide (status = OK ∧ bad = 0) && Config.cacheKeeps s.freeCtr then
      let z := y.dropIline (p.addr / 64)
      (s.setUnit u { z with ilines := p.addr / 64 :: z.ilines }).draw
    else (s.setUnit u y).draw
  | .drop => s

/-- Step 9 of the migration of the case of an engine is over: returns are written directly (R224). -/
def stepNineDone (s : State) (u : UnitId) : Bool :=
  match u with
  | .eng d c _ => (s.case d c).migr.any (fun m => decide (4 ≤ m.stage))
  | _ => false

/-- The return of a request is held: its processor is halted, or migrating until step 9 has ended, or has still to issue its
pair again (R209, R224, R659). -/
def holdsReturn (s : State) (u : UnitId) (id : Nat) : Bool :=
  let x := s.unit u
  decide (x.st = .halted) || (decide (x.st = .migrating) && !stepNineDone s u) || x.sent.any (fun e => e.2 == id)

/-- The data phase of the locked load of a discarded pair sets the reservation, although its return waits for the pair (R107,
R209). -/
def UnitState.heldLkl (x : UnitState) (id status : Nat) : UnitState :=
  match x.outs.find? (fun p => p.id == id) with
  | some p =>
    match p.dest with
    | .lkl _ dw =>
      { x with resv := if status = OK then some ⟨p.addr / 64, dwBytes dw⟩ else x.resv,
               outs := x.outs.map fun q => if q.id = id then q.noReserve else q }
    | _ => x
  | none => x

/-- An outstanding access has its response, or what holds it keeps it. -/
def finishAccess (u : UnitId) (id status data bad : Nat) (s : State) : State :=
  let x := s.unit u
  if holdsReturn s u id then
    let x := x.heldLkl id status
    s.setUnit u { x with held := x.held ++ [{ id := id, status := status, data := data, bad := bad }] }
  else
    match x.outs.find? (fun p => p.id == id) with
    | none => s
    | some p =>
      applyResult u p status data bad (s.setUnit u { x with outs := x.outs.filter (fun q => decide (q.id ≠ id)) })

/-- Write the held returns, in the order in which their requests were issued (R220, R659). -/
def writeHeld (u : UnitId) (s : State) : State :=
  let x := s.unit u
  let hs := x.outs.filterMap (fun p => x.held.find? (fun h => h.id == p.id))
  hs.foldl (fun t h => finishAccess u h.id h.status h.data h.bad t) (s.setUnit u { x with held := [] })

/-! The issue of a pair (R48 to R51). -/

/-- Two lists share a member. -/
def meets (a b : List Nat) : Bool := a.any (fun n => decide (n ∈ b))

/-- The pair is illegal (R48, R162): both slots write one register (g0 and p0 count for none), or it needs more than
two load ports or one store port. -/
def pairIllegal (a b : SlotOut) : Bool :=
  meets (a.gdst.filter (fun n => decide (n ≠ 0))) b.gdst || meets a.vdst b.vdst || meets a.adst b.adst ||
    meets (a.pdst.filter (fun n => decide (n ≠ 0))) b.pdst || meets a.sdst b.sdst ||
    decide (2 < a.loads + b.loads) || decide (1 < a.stores + b.stores)

/-- The traps for marked or damaged source registers (R87, R133, R385). Of two marked sources of one kind, the first in
source order gives TVAL, the scalar slot before the vector slot. (DESIGN CHOICE, unsafe: log entry 64.) -/
def sourceTraps (x : UnitState) (o : SlotOut) : List (Nat × W64) :=
  (o.gsrc.filterMap fun n => match x.markG n with
    | .none => none | .poison a => some (13, a) | .error a => some (14, a)) ++
  (o.vsrc.filterMap fun n => match x.markV n with
    | .poison a => some (13, a) | _ => none) ++
  (if o.reads.any (fun r => decide (x.rfBits r 2 ≠ 0)) then [(13, BitVec.allOnes 64)] else [])

/-- An instruction waits while a register that it reads or writes has a result outstanding (R52), but for the results of
requests of pairs that have still to issue again (R209). (DEDUCED, safe: log entry 15.) -/
def pendWait (k : Ctx) (o : SlotOut) : Nat :=
  let hit := k.x.owed.filter fun p => match p.dest.reg with
    | some r => decide (r ≠ 0) && (decide (r ∈ o.gsrc) || decide (r ∈ o.gdst))
    | none => false
  if hit.isEmpty then 0 else waitKind k (hit.any (·.remote))

/-- The end of a hardware loop (R113, R115): the loop counts after the pair, and where fetch continues. -/
def loopEnd (x : UnitState) (pc : W64) : UnitState × Option W64 :=
  let at_ (l : Bool) : Bool := decide (x.getSys (LE l) = pc) && decide (x.getSys (LC l) ≠ 0)
  let back (l : Bool) : UnitState × Option W64 := (x.setSys (LC l) (x.getSys (LC l) - 1), some (x.getSys (LS l)))
  if at_ true && decide (1 < (x.getSys (LC true)).toNat) then back true
  else
    let x1 := if at_ true then x.setSys (LC true) 0 else x
    if at_ false && decide (1 < (x1.getSys (LC false)).toNat) then
      (x1.setSys (LC false) (x1.getSys (LC false) - 1), some (x1.getSys (LS false)))
    else if at_ false then (x1.setSys (LC false) 0, none)
    else (x1, none)

/-- A pair at an active loop end (R114). -/
def atLoopEnd (x : UnitState) (pc : W64) : Bool :=
  (decide (x.getSys (LE false) = pc) && decide (x.getSys (LC false) ≠ 0)) ||
  (decide (x.getSys (LE true) = pc) && decide (x.getSys (LC true) ≠ 0))

/-- The request of a core's fetch: a line of DRAM through its instruction cache, or the one instruction. -/
def fetchReq (pc : Nat) : Nat × Nat := if inDram pc 4 then (pc / 64 * 64, 64) else (pc, 4)

/-- A core fetches at pc without a request: from its own memory (R37, R84), or from a line that its cache holds without an
uncorrectable byte there (R385). -/
def fetchLocal (s : State) (u : UnitId) (pc : Nat) : Bool := isEng u || (ownMem u pc 4).isSome || (s.unit u).icached pc

/-- The instruction at pc is there to issue, or its fetch has failed (R112). -/
def fetchDone (s : State) (u : UnitId) (pc : W64) : Bool :=
  decide (2 ^ 48 ≤ pc.toNat) || fetchLocal s u pc.toNat ||
    (match (s.unit u).fetched with | some f => decide (f.1 = (fetchReq pc.toNat).1) | none => false)

/-- The traps of the fetch of the pair at pc (R60, R112, R121, R385): an engine fetches from its instruction memory; a core
fetches from a package address, from its own SRAM without the network (R37), and traps when its fetch has an error response
or poisoned data. A pc that runs past 0x7FF8 traps at the fetch of 0x8000, with the pair at 0x7FF8 complete. (DESIGN CHOICE,
unsafe: log entry 65.) -/
def fetchTraps (s : State) (u : UnitId) (pc : W64) : List (Nat × W64) :=
  match u with
  | .eng d c p =>
    if 0x8000 ≤ pc.toNat then [(1, pc)]
    else if s.mem.badN (imemBase d c p + pc.toNat) 8 ≠ 0 then [(2, pc)] else []
  | _ =>
    if 2 ^ 48 ≤ pc.toNat then [(1, pc)]
    else match ownMem u pc.toNat 4 with
    | some m => if s.mem.badN m.loc 4 ≠ 0 then [(2, pc)] else []
    | none =>
    if (s.unit u).icached pc.toNat then []
    else match (s.unit u).fetched with
      | some (a, st, bad) =>
        if a ≠ (fetchReq pc.toNat).1 then []
        else if st ≠ OK then [(1, pc)]
        else if bad / 2 ^ (pc.toNat - a) % 16 ≠ 0 then [(2, pc)] else []
      | none => []

/-- Send the fetch of the next instruction, when it is not under way. -/
def sendFetch (u : UnitId) (s : State) : State :=
  let x := s.unit u
  let r := fetchReq x.pc.toNat
  if x.outs.any (fun p => decide (p.addr = r.1) && p.dest.isFetch) then s
  else sendRemote u (.fetch true) (mkReq s (s.whoOf u) .rd r.1 r.2 0) (discardIline u x.pc.toNat s)

/-- The accounting of the fetch of the pair at pc (R59, R385, R386). -/
def fetchAcct (u : UnitId) (pc : W64) (s : State) : State :=
  match u with
  | .eng d c p =>
    let l := imemBase d c p + pc.toNat
    integ s d 1 (engLogAddr s d c p (0x20000 + pc.toNat)) (pc.toNat % 64) (s.mem.corrN l 8) (s.mem.badN l 8)
  | _ =>
    match ownMem u pc.toNat 4 with
    | some m => integ s m.die m.cls m.log (m.loc % 64) (s.mem.corrN m.loc 4) (s.mem.badN m.loc 4)
    | none =>
      if (s.unit u).icached pc.toNat && decide ((s.unit u).cacheBits true pc.toNat 4 1 ≠ 0) then cacheAcct u s else s

/-- The accounting of a pair that is read: its fetch, and the registers that its slots read (R385, R386). -/
def pairAcct (u : UnitId) (a b : SlotOut) (s : State) : State := regAcct u b (regAcct u a (fetchAcct u (s.unit u).pc s))

/-- The processor runs: Running, not stopping unless a pair has still to issue again (R208), its clock running and its
domain out of reset. (DESIGN CHOICE, safe: log entry 4.) -/
def mayRun (s : State) (u : UnitId) : Bool :=
  decide ((s.unit u).st = .running) && (!(s.unit u).stopping || decide ((s.unit u).mismRun ≠ 0)) && s.live u

/-- The processor may issue: it runs, and its next instruction is there. -/
def canIssue (s : State) (u : UnitId) : Bool := mayRun s u && fetchDone s u (s.unit u).pc

/-- The synchronous causes of a pair (R121, R122): the illegal pair, each slot's own, its marked sources, and a branch
at an active loop end. -/
def pairTraps (k : Ctx) (a b : SlotOut) : List (Nat × W64) :=
  (if pairIllegal a b then [(3, 0)] else []) ++ a.traps ++ b.traps ++ sourceTraps k.x a ++ sourceTraps k.x b ++
    (if a.branch && isEng k.u && atLoopEnd k.x k.x.pc then [(6, k.word)] else [])

/-- The next value of lkSeq: an LKL starts a sequence, an STU ends one, and within one a taken branch, another case or
remote access or a seventeenth fetch unit breaks the rule (R110). -/
def nextSeq (n lock : Nat) (taken : Bool) : Nat :=
  if lock = 1 then 1
  else if n = 0 ∨ lock = 2 then 0
  else if lock = 3 ∨ taken = true then 18
  else min (n + 1) 18

/-- An STU after a sequence that breaks the rule may fail: the reservation is then lost (R110). (DEDUCED, safe: log
entry 12.) -/
def stuMayFail (u : UnitId) (n lock : Nat) (s : State) : State :=
  if lock = 2 ∧ n = 18 then
    (if Config.stuFails s.freeCtr then onUnit u UnitState.dropResv s else s).draw
  else s

/-- The requests still owed to discarded pairs after the pair at pc has issued. -/
def UnitState.laterSent (x : UnitState) (a : SlotOut) : List (W64 × Nat) :=
  match x.sent with
  | e :: r => if e.1 = x.pc ∧ a.lock ≠ 0 then r else e :: r
  | [] => []

/-- The effects of a pair that issues: the loop registers, then both slots, then the program counter. Both slots were
computed from the state before the pair (R49). -/
def commitPair (u : UnitId) (a b : SlotOut) (s : State) : State :=
  let x := s.unit u
  let seq := x.pc + BitVec.ofNat 64 (unitBytes u)
  let (x1, lp) := if isEng u && !a.next.isSome then loopEnd x x.pc else (x, none)
  let n := nextSeq x.lkSeq a.lock a.next.isSome
  let pc := (a.next.orElse fun _ => lp).getD seq
  let s := s.setUnit u { x1 with stall := 0, wev := none, mismRun := 0, sent := x.laterSent a, fetched := none, lkSeq := n, pc := pc }
  b.eff (a.eff (stuMayFail u x.lkSeq a.lock s))

/-- A unit that waits at issue keeps its pair (R51). -/
def waitPair (u : UnitId) (n : Nat) (s : State) : State := onUnit u (fun x => { x with stall := n }) s

/-- BRKHALT is 1, so a BRK halts an engine or a die control core (R663). -/
def brkHalts (s : State) (u : UnitId) : Bool :=
  s.bit .debugCtl [] F.debugCtl_BRKHALT && (match u with | .guard => false | _ => true)

/-- A command of the halt controller is complete when no processor has still to resume or to step (R657): BUSY
clears, DONE is set and the debug event of the package is raised (R664). -/
def hreqSettle (s : State) : State :=
  if s.bit .debugHreq [] F.debugHreq_BUSY && s.units.all (fun e => decide (e.2.resume = 0) && !e.2.stepping && !e.2.haltDue) then
    ((s.setFld .debugHreq [] F.debugHreq_BUSY 0).setFld .debugHstat [] F.debugHstat_DONE 1).raiseEvent 0 502
  else s

/-- A pair has issued: a return of its own request that arrived before is written (R209); the pair after a resume has
issued, or the one pair of a step or of a replay, after which the processor halts (R658 to R660). -/
def issued (u : UnitId) (s0 : State) : State :=
  let s := if (s0.unit u).held = [] then s0 else writeHeld u s0
  let x := s.unit u
  if x.stepping || x.haltDue then hreqSettle (onUnit u (fun x => { x with stepping := false, resume := 0 }) (haltUnit u s))
  else if x.resume ≠ 0 then hreqSettle (s.setUnit u { x with resume := 0 })
  else s

/-- The scalar slot of a pair whose request has left already: it neither sends it again nor checks it again (R209). -/
def SlotOut.again (o : SlotOut) : SlotOut := { o with traps := [], wait := 0, eff := id }

/-- The scalar slot of the pair at pc as it issues. -/
def UnitState.asSent (x : UnitState) (a : SlotOut) : SlotOut :=
  match x.sent with
  | e :: _ => if e.1 = x.pc ∧ a.lock ≠ 0 then a.again else a
  | [] => a

/-- At the boundary after a pair with which a stop, a halt or a step takes effect, an asynchronous cause that may be taken goes
first (R75, R210, R660). -/
def endTrap (u : UnitId) (x : UnitState) (s : State) : State :=
  if x.stopping || x.stepping || x.haltDue then
    boundaryTrap u (if x.stopping then onUnit u UnitState.abandonSent s else s)
  else s

/-- Issue a pair, or on a core one instruction (R45, R51, R121 to R123): wait, trap, or take effect. (DESIGN CHOICE,
safe: log entry 13.) -/
def issuePair (k : Ctx) (a0 b : SlotOut) : State :=
  let s := k.s
  let u := k.u
  let x := k.x
  if !mayRun s u then s
  else
    let a := x.asSent a0
    let async (other : State) : State :=
      match asyncCause s u with
      | some c => takeAsync u c s
      | none => other
    if !fetchDone s u x.pc then async (waitPair u 2 (sendFetch u s))
    else match fetchTraps s u x.pc with
    | (c, v) :: _ => issued u (takeTrap u c v x.pc (if c = 2 then fetchAcct u x.pc s else s))
    | [] =>
      let w := max (max (pendWait k a) (pendWait k b)) (max a.wait b.wait)
      if w ≠ 0 then async (waitPair u w s)
      else
        match lowestCause (pairTraps k a b) with
        | some (c, v) =>
          if c = 16 ∧ brkHalts s u then
            ((haltUnit u (pairAcct u a b s)).setFld .debugHstat [] F.debugHstat_HALTED 1).raiseEvent 0 502
          else
            let s := pairAcct u a b s
            issued u (takeTrap u c v x.pc (if c = 13 then b.acct (a.acct s) else s))
        | none => async (issued u (endTrap u x (commitPair u a b (pairAcct u a b s))))

end Sys2Proof.Machine
end

