-- ==== Sys2Proof/Machine/Deliver.lean ====
section
/-! DEFINITION. The result of a case or remote access of a processor (R71, R87, R105, R106, R313), and the end of a halt
(R659, R660). -/

namespace Sys2Proof.Machine
open Sys2Proof

/-- A STOP written while a processor was Halted or Migrating takes effect before any pair issues (R72, R229, R659): a core,
and an engine that was Fault-stopped, is Stopped; a running engine stops with its last response. -/
def stopAfter (u : UnitId) (s : State) : State :=
  let x := s.unit u
  if !x.stopping then s
  else match u with
    | .eng d c p =>
      if x.st = .running then s.setUnit u x.toStop
      else
        let sl := s.slotOf d c p
        let s := s.setUnit u { x with st := .stopped, stopping := false }
        if sl < 8 then
          (s.setFld .caseEngCtl [d, c, sl] F.caseEngCtl_STOP 0).setFld .caseEngCtl [d, c, sl] F.caseEngCtl_ARM 0
        else s
    | .core d =>
      (s.setUnit u { x with st := .stopped, stopping := false, stall := 0, wev := none }).setFld .ctlRun [d] F.ctlRun_STOP 0
    | .guard => s

/-- Leave Halted (R659): the processor takes up its former state, with the returns written; on a resume the watchdog
count is reloaded (R667). -/
def release (u : UnitId) (s : State) : State :=
  let x := s.unit u
  let go := decide (x.back = .running) && !x.stopping
  let y := { x with st := x.back, resume := if go && decide (x.resume = 1) then 3 else 0,
                    stepping := go && decide (x.resume = 2) }
  hreqSettle (stopAfter u (writeHeld u ((if x.resume = 1 then kickWdog u s else s).setUnit u y)))

/-- A halt at the next pair boundary (R230, R658): at once, after a trap that falls due at the boundary (R660), unless the
engine is in a migration pause or has a pair to issue again. -/
def haltNow (u : UnitId) (s : State) : State :=
  let x := s.unit u
  if x.st = .migrating ∨ (x.st = .running ∧ x.mismRun ≠ 0) then s.setUnit u { x with haltDue := true }
  else haltUnit u (boundaryTrap u s)

/-- A halt that waited for the end of a pause or of a replay takes effect. -/
def haltWaiting (u : UnitId) (s : State) : State :=
  if (s.unit u).haltDue then hreqSettle (haltUnit u (boundaryTrap u s)) else s

/-- Release a halted engine that resumes when the slot counter of its case stands at its recorded slot. -/
def releaseAt (u : UnitId) (s : State) : State :=
  let x := s.unit u
  match u with
  | .eng d c p =>
    if x.st = .halted ∧ x.resume ≠ 0 ∧ s.hv .slotCtr [d, c] = s.hv .haltSlot [d, c, p] then release u s else s
  | _ => if x.st = .halted ∧ x.resume ≠ 0 then release u s else s

end Sys2Proof.Machine
end

