-- ==== Sys2Proof/Machine/Packet.lean ====
section
/-! DEFINITION. Packets as flits (R305, R306, R308), the mesh of a die and its routers (R303, R304, R316, R319, R324), and
the flits that wait at a crossing port (R323, R369). -/

namespace Sys2Proof.Machine
open Sys2Proof

/-- The opcode of a request or response (R308). -/
def opCode (resp : Bool) (op : ReqOp) : Nat :=
  (if resp then 8 else 0) + (match op with | .rd => 0 | .wr => 1 | .at_ => 2)

/-- The header fields that requests and responses share (R306). -/
def header (resp : Bool) (op : ReqOp) (pri tag gen len src dst addr xport pmask : Nat) : Nat :=
  opCode resp op + pri * 2 ^ 4 + resp.toNat * 2 ^ 6 + (if pmask = 0 then 0 else 2 ^ 10) + tag * 2 ^ 12 +
    gen % 4 * 2 ^ 22 + (len - 1) * 2 ^ 24 + src * 2 ^ 32 + dst * 2 ^ 48 + addr * 2 ^ 64 + xport * 2 ^ 112 +
    pmask * 2 ^ 120

/-- The header of a request (R306). -/
def reqHeader (r : Req) (src dst tag gen xport : Nat) : Nat :=
  header false r.op r.pri tag gen r.len src dst r.addr xport r.pmask + r.quiet.toNat * 2 ^ 8 + r.lock.toNat * 2 ^ 9 +
    r.ord.toNat * 2 ^ 11 +
    (if r.op = .at_ then r.afn.toNat * 2 ^ 116 + (if r.len = 8 then 2 ^ 119 else 0) else 0)

/-- The payload of a request and its length (R308): for cas the operand is followed by the compare value. -/
def reqPayload (r : Req) : Nat × Nat :=
  match r.op with
  | .rd => (0, 0)
  | .wr => (r.data, r.len)
  | .at_ =>
    let n := r.len
    if r.afn = 7 then (r.data % 256 ^ n + r.cmp.toNat % 256 ^ n * 256 ^ n, 2 * n) else (r.data % 256 ^ n, n)

/-- The header of a response (R306, R309). -/
def respHeader (r : Resp) (src dst pri xport : Nat) : Nat :=
  header true r.op pri r.tag r.gen r.len src dst r.status xport r.pmask

/-- The payload of a response and its length (R308). -/
def respPayload (r : Resp) : Nat × Nat :=
  if r.status ≠ 0 then (0, 0) else match r.op with
    | .wr => (0, 0)
    | _ => (r.data % 256 ^ r.len, r.len)

/-- The flits of a packet (R305). -/
def flitCount (b : Nat) : Nat := if b ≤ 48 then 1 else 1 + (b - 48 + 63) / 64

/-- The flits of a packet with a payload, flit 0 first (R305). -/
def packetFlits (hdr : Nat) (pl : Nat × Nat) : List Nat :=
  (hdr + pl.1 % 256 ^ 48 * 2 ^ 128) ::
    (List.range (flitCount pl.2 - 1)).map (fun k => pl.1 / 256 ^ (48 + 64 * k) % 256 ^ 64)

/-- The payload bytes that a header announces (R308). -/
def headerPayload (h : Nat) : Nat :=
  let len := h / 2 ^ 24 % 256 + 1
  match h % 16 with
  | 1 => len
  | 2 => if h / 2 ^ 116 % 8 = 7 then 2 * len else len
  | 8 => if h / 2 ^ 64 % 8 = 0 then len else 0
  | 10 => if h / 2 ^ 64 % 8 = 0 then len else 0
  | _ => 0

def State.link (s : State) (d p : Nat) : LinkState := s.links.get LinkState.init (d, p)
def State.setLink (s : State) (d p : Nat) (x : LinkState) : State := { s with links := s.links.set (d, p) x }

/-- Set a flag of `flags` and raise the link event of the die (R377). -/
def linkFlag (d p : Nat) (f : Fld) (s : State) : State := (s.setFld .linkPortFlags [d, p] f 1).raiseEvent d 164

/-- Count discarded packets (R357, R366, R369). -/
def linkDisc (d p n : Nat) (s : State) : State :=
  if n = 0 then s else linkFlag d p F.linkPortFlags_DISC (s.bumpFld .linkPortCnt [d, p] F.linkPortCnt_DISC n)

/-- The port that carries the traffic of port p; 15 for none (R367). -/
def carrierOf (s : State) (d p : Nat) : Nat := s.fld .linkPortStatus [d, p] F.linkPortStatus_CARRIER

/-! The mesh (R303, R304, R307). -/

/-- An endpoint identifier (R307). -/
def endpoint (d x y port sub : Nat) : Nat := d * 0x4000 + (8 * y + x) * 0x100 + port * 0x20 + sub

def epDie (e : Nat) : Nat := e / 0x4000 % 4
def epRouter (e : Nat) : Nat := e / 0x100 % 64
def epPort (e : Nat) : Nat := e / 0x20 % 8

/-- The column at distance u from the outer column of a die, and its outer row (the text after R303). -/
def colAt (d u : Nat) : Nat := if d % 2 = 0 then u else 7 - u
def rowOut (d : Nat) : Nat := if d < 2 then 0 else 5

/-- The inner column and the inner row of a die (the text after R303). -/
def colIn (d : Nat) : Nat := if d % 2 = 0 then 7 else 0
def rowIn (d : Nat) : Nat := if d < 2 then 5 else 0

/-- The router of a crossing port (R304). -/
def portRouter (d p : Nat) : Nat :=
  if p < 4 then 8 * (p + 1) + colIn d
  else 8 * rowIn d + colAt d (if p < 8 then 2 * (p - 4) + 1 else 2 * (11 - p))

/-! Headers (R306). -/

def hdrSrc (h : Nat) : Nat := h / 2 ^ 32 % 2 ^ 16
def hdrDst (h : Nat) : Nat := h / 2 ^ 48 % 2 ^ 16
def hdrXport (h : Nat) : Nat := h / 2 ^ 112 % 16
def hdrAddr (h : Nat) : Nat := h / 2 ^ 64 % 2 ^ 48

/-- The packet has still to cross from die d (R320). -/
def hdrLeaves (d h : Nat) : Bool := hdrXport h != 15 && epDie (hdrSrc h) == d

/-- The queue of a packet: its virtual network and its priority (R306, R316). -/
def hdrQueue (h : Nat) : Nat := h / 2 ^ 6 % 2 * 4 + h / 2 ^ 4 % 4

/-! The fabric ports (R281, R310). -/

/-- The index list of the live copy of a plane register; the plain index list names the shadow copy (R547). -/
def liveIx (ix : List Nat) : List Nat := ix ++ [0x10000]

/-- MODE of a fabric port in the live plane. -/
def portMode (s : State) (d g k : Nat) : Nat := s.fld .galleyFportCfg (liveIx [d, g, k]) F.galleyFportCfg_MODE

/-- The port of a galley that claims an address (R281). -/
def claimPort (s : State) (d g a : Nat) : Option Nat :=
  (List.range 4).find? fun k =>
    let w := s.reg .galleyFportWin (liveIx [d, g, k])
    let l := F.galleyFportWin_LOG2SZ.get w
    let base := F.galleyFportWin_BASE.get w * 4096
    (decide (portMode s d g k = 1) || decide (portMode s d g k = 2)) &&
      s.bit .galleyFportCfg (liveIx [d, g, k]) F.galleyFportCfg_TGT_EN && decide (12 ≤ l) && decide (l ≤ 30) &&
      decide (a % 2 ^ 30 / 2 ^ l = base / 2 ^ l)

/-- The router of the last stop of a packet and the attachment there: a request to a galley comes to the even router, which
passes one that port 1 or 3 claims one hop east (R310). -/
def lastStop (s : State) (d h : Nat) : Nat × Nat :=
  let r := epRouter (hdrDst h)
  let p := epPort (hdrDst h)
  if hdrQueue h < 4 ∧ p = 0 ∧ 1 ≤ r / 8 ∧ r / 8 ≤ 4 ∧ r % 2 = 0 then
    match claimPort s d (4 * (r / 8 - 1) + r % 8 / 2) (hdrAddr h) with
    | some k => (r + k % 2, k)
    | none => (r, 0)
  else (r, p)

/-- The router of the next stop of a packet, and the output that it leaves by there (R319): the crossing port that carries the
traffic of its XPORT (R323), numbered from 12, or the attachment of its last stop. Without a carrier it goes to the port of its
XPORT (R369). -/
def nextStop (s : State) (d h : Nat) : Nat × Nat :=
  if hdrLeaves d h then
    let c := carrierOf s d (hdrXport h)
    let c := if c = 15 then hdrXport h else c
    (portRouter d c, 12 + c)
  else lastStop s d h

/-- The output of router r that a packet takes (R319): first along the row, 8 west and 9 east, then along the column, 10
north and 11 south. -/
def nextOut (s : State) (d r h : Nat) : Nat :=
  let t := nextStop s d h
  if t.1 % 8 < r % 8 then 8 else if r % 8 < t.1 % 8 then 9
  else if t.1 / 8 < r / 8 then 10 else if r / 8 < t.1 / 8 then 11 else t.2

/-- The router behind a link, and the input of it that the link feeds. -/
def linkTo (r out : Nat) : Nat × Nat :=
  match out with
  | 8 => (r - 1, 9)
  | 9 => (r + 1, 8)
  | 10 => (r - 8, 11)
  | _ => (r + 8, 10)

namespace State

/-- A queue of a router input. -/
def meshQ (s : State) (k : List Nat) : List MeshFlit := s.mesh.get [] k

def setMeshQ (s : State) (k : List Nat) (l : List MeshFlit) : State :=
  { s with mesh := if l = [] then s.mesh.erase k else s.mesh.set k l }

end State

/-- The flits of a packet as they travel. -/
def meshFlits (hdr : Nat) (fl : List Nat) : List MeshFlit :=
  (fl.zip (List.range fl.length)).map fun (f, i) =>
    { hdr := hdr, head := i == 0, last := i + 1 == fl.length, flit := f, idx := i }

/-- A packet enters the mesh at an attachment of a router (R316, R320). -/
def sendPacket (src : Nat) (k : Pkt) (hdr : Nat) (flits : List Nat) (s : State) : State :=
  let key := [epDie src, epRouter src, epPort src, hdrQueue hdr]
  { s.setMeshQ key (s.meshQ key ++ meshFlits hdr flits) with flight := s.flight ++ [k] }

/-- The input queue of a router has room for n flits (R316). -/
def meshRoom (s : State) (src q n : Nat) : Bool :=
  decide ((s.meshQ [epDie src, epRouter src, epPort src, q]).length + n ≤ 8)

/-- The packet at the front of a queue is whole there. -/
def wholeAt (hdr : Nat) (l : List MeshFlit) : Bool :=
  match l with
  | [] => false
  | f :: r => f.head && f.hdr == hdr && (f.last || r.any (fun g => g.last && g.hdr == hdr))

/-- The queue of the router of its last stop at whose front a packet lies, whole (R319). -/
def restsAt (s : State) (hdr : Nat) : Option (List Nat) :=
  let d := epDie (hdrDst hdr)
  (s.mesh.find? fun e => e.1.take 2 == [d, (lastStop s d hdr).1] && wholeAt hdr e.2 && !hdrLeaves d hdr).map (·.1)

/-! Errors in the buffers of class 5 (R378, R385 to R387). -/

/-- The bytes of a flit in a buffer in which a read finds what `st` says (R380), one bit each. -/
def flitBits (s : State) (d place hdr idx st : Nat) : Nat :=
  s.netFlaws.foldl (fun m e =>
    if e.die = d ∧ e.place = place ∧ e.hdr = hdr ∧ e.idx = idx ∧ (decodeByte e.bits).st = st then m ||| 2 ^ (e.byte % 64) else m) 0

/-- A header byte of a flit is uncorrectable, so that its packet is discarded (R385). -/
def headLost (s : State) (d place hdr idx : Nat) : Bool :=
  s.netFlaws != [] && idx == 0 && flitBits s d place hdr idx 2 % 2 ^ 16 != 0

/-- Zero the bytes that a mask marks. -/
def clearBytes (n data bad : Nat) : Nat :=
  (List.range n).foldl (fun a i => if bad / 2 ^ i % 2 = 1 then a - data / 256 ^ i % 256 * 256 ^ i else a) data

/-- Uncorrectable bytes in the payload of a packet in flight: they read as zero, and P and the PMASK bits of their sectors are
set (R385). -/
def markPacket (hdr bad : Nat) (s : State) : State :=
  { s with flight := s.flight.map fun k => match k with
      | .req r t g d x h =>
        if h = hdr then .req { r with data := clearBytes r.len r.data bad, pmask := r.pmask ||| sectors bad } t g d x h else k
      | .resp r x h =>
        if h = hdr then .resp { r with data := clearBytes r.len r.data bad, pmask := r.pmask ||| sectors bad } x h else k }

/-- A flit is read from a buffer (R380, R385 to R387); it leaves it unless `keep`. -/
def readFlit (d place hdr idx : Nat) (keep : Bool) (s : State) : State :=
  if s.netFlaws = [] then s
  else
    let corr := flitBits s d place hdr idx 1
    let bad := flitBits s d place hdr idx 2
    let s := integ s d 5 place 0 corr bad
    let s := if keep then s
      else { s with netFlaws := s.netFlaws.filter fun e => !(e.die == d && e.place == place && e.hdr == hdr && e.idx == idx) }
    if idx = 0 then (if bad % 2 ^ 16 = 0 then markPacket hdr (bad / 2 ^ 16) s else s)
    else markPacket hdr (bad * 2 ^ (64 * idx - 16)) s

/-- The endpoint takes the packet at the front of a queue. -/
def takeMesh (k : List Nat) (s : State) : State :=
  s.setMeshQ k (((s.meshQ k).dropWhile (fun f => !f.last)).drop 1)

/-! Crossing ports as a stop of the mesh. -/

/-- The port that sends the traffic of port p now: it is another than the carrier until CARRIER_SWITCH (R368). -/
def viaOf (s : State) (d p : Nat) : Nat := let v := (s.link d p).via; if v = 0 then p else v - 1

/-- Remove the packets in flight of which no flit with a header is left in the device: they are lost (R357, R361, R366). -/
def pruneFlight (s : State) : State :=
  let heads : List Nat :=
    (s.mesh.flatMap fun e => (e.2.filter (·.head)).map (·.hdr)) ++
    s.links.flatMap fun e =>
      (e.2.coming.flatMap fun q => (q.2.filter (·.head)).map (·.hdr)) ++
      (e.2.enter.flatMap fun q => (q.2.filter (·.head)).map (·.hdr)) ++
      (e.2.out.filter (·.head)).map (·.flit % 2 ^ 128) ++ (e.2.retry.filter (·.head)).map (·.flit % 2 ^ 128) ++
      (e.2.rxq.filter (·.head)).map (·.flit % 2 ^ 128) ++
      e.2.part.flatMap fun q => (q.2.take 1).map (· % 2 ^ 128)
  { s with flight := s.flight.filter fun k => match k with
      | .req _ _ _ _ _ h => decide (h ∈ heads)
      | .resp _ _ h => decide (h ∈ heads) }

/-- Flits go from a crossing port into its router. -/
def sendOn (d c q : Nat) (fs : List MeshFlit) (s : State) : State :=
  let x := s.link d c
  s.setLink d c { x with enter := x.enter.set q (x.enter.get [] q ++ fs) }

/-- A whole packet has come to crossing port c: it waits there when c carries the traffic of its XPORT p, and travels on to the
carrier when another port does; a port without a carrier discards it (R320, R323, R368, R369). -/
def portTakes (d c q : Nat) (fs : List MeshFlit) (s : State) : State :=
  let p := hdrXport ((fs.head?.map (·.hdr)).getD 0)
  let t := carrierOf s d p
  if t = 15 then pruneFlight (linkDisc d p 1 s)
  else if t = c then
    let x := s.link d p
    let n := s.hv .nocCycle []
    s.setLink d p { x with out := x.out ++ fs.map fun f =>
      { q := q, head := f.head, flit := f.flit, stamp := n, at_ := c, hdr := f.hdr, idx := f.idx, last := f.last } }
  else sendOn d c q fs s

/-- A flit comes to a crossing port. (DESIGN CHOICE, safe: log entry 75.) -/
def portFlit (d c q : Nat) (f : MeshFlit) (s : State) : State :=
  let x := s.link d c
  let l := x.coming.get [] q ++ [f]
  if f.last then portTakes d c q l (s.setLink d c { x with coming := x.coming.erase q })
  else s.setLink d c { x with coming := x.coming.set q l }

/-! One `noc` cycle of the routers of a die (R303, R316, R324). -/

/-- A flit at the front of a router input, with the output that it wants. -/
structure Claim where
  r : Nat
  inp : Nat
  q : Nat
  out : Nat
  f : MeshFlit
  deriving DecidableEq, Repr

/-- The output that takes the flits of a packet whose header is lost: it drops them (R385). -/
def sinkOf (i : Nat) : Nat := 32 + i

/-- The output of a flit at the front of input i: that of its header, which the other flits of the packet follow. -/
def flitOut (s : State) (d r i q : Nat) (f : MeshFlit) : Nat :=
  if f.head then (if headLost s d r f.hdr f.idx then sinkOf i else nextOut s d r f.hdr)
  else (((List.range 16).map (8 + ·) ++ [sinkOf i]).find? (fun o => s.hv .meshOpen [d, r, o, q] == i + 1)).getD 0

/-- The claims of a die that can be met: the flits of a packet stay together at an output, and the queue behind a link has
room (R316, R324). -/
def claims (s : State) (d : Nat) : List Claim :=
  s.mesh.filterMap fun e => match e.1, e.2 with
    | [e', r, i, q], f :: _ =>
      let out := flitOut s d r i q f
      let to_ := linkTo r out
      let o := s.hv .meshOpen [d, r, out, q]
      if e' = d ∧ 8 ≤ out ∧ (if f.head then o = 0 else o = i + 1) ∧
          (12 ≤ out ∨ (s.meshQ [d, to_.1, to_.2, q]).length < 8) then some ⟨r, i, q, out, f⟩ else none
    | _, _ => none

/-- The rank of a queue at an output: the higher priority first, then the response network (R324). -/
def queueRank (q : Nat) : Nat := q % 4 * 2 + q / 4

/-- The claim that an output serves: of equal ones any. (DESIGN CHOICE, safe: log entry 75.) -/
def served (s : State) (l : List Claim) : Option Claim :=
  let top := l.foldl (fun m c => max m (queueRank c.q)) 0
  let best := l.filter (fun c => queueRank c.q == top)
  match l with
  | [] => none
  | c :: _ => best[Config.meshPick s.freeCtr (64 * c.r + c.out) % best.length]?

/-- The flit of a claim moves on. -/
def moveFlit (d : Nat) (s : State) (c : Claim) : State :=
  let k := [d, c.r, c.inp, c.q]
  let s := readFlit d c.r c.f.hdr c.f.idx false s
  let s := (s.setMeshQ k ((s.meshQ k).drop 1)).setHv .meshOpen [d, c.r, c.out, c.q] (if c.f.last then 0 else c.inp + 1)
  if 32 ≤ c.out then (if c.f.last then pruneFlight s else s)
  else if 12 ≤ c.out then portFlit d (c.out - 12) c.q c.f s
  else
    let t := linkTo c.r c.out
    let k := [d, t.1, t.2, c.q]
    s.setMeshQ k (s.meshQ k ++ [c.f])

/-- Every output of every router of a die sends at most one flit. -/
def meshCycle (d : Nat) (s : State) : State :=
  let cs := claims s d
  let outs := (cs.map fun c => (c.r, c.out)).eraseDups
  (outs.filterMap fun o => served s (cs.filter fun c => (c.r, c.out) == o)).foldl (moveFlit d) s.draw

/-- A crossing port drops the packet at the front of its queue, whose header is lost (R385): its credits are earned. -/
def dropEntering (d p q : Nat) (s : State) : State :=
  let x := s.link d p
  let l := x.enter.get [] q
  let rest := (l.dropWhile (fun f => !f.last)).drop 1
  pruneFlight (s.setLink d p { x with
    enter := if rest = [] then x.enter.erase q else x.enter.set q rest,
    earned := x.earned.set q (x.earned.get 0 q + (l.length - rest.length)) })

/-- A crossing port moves one flit into its router: of a packet that has crossed, for which a credit is earned, or of one that
goes on to another port (R323, R324, R353, R357). -/
def enterCycle (d : Nat) (s : State) (p : Nat) : State :=
  let x := s.link d p
  let r := portRouter d p
  let l := (x.enter.map (·.1)).filter fun q => decide (x.enter.get [] q ≠ []) &&
    decide ((s.meshQ [d, r, 12 + p, q]).length < 8)
  match l.foldl (fun (b : Option Nat) q => match b with
      | none => some q
      | some b => if queueRank b < queueRank q then some q else some b) none with
  | none => s
  | some q =>
    match x.enter.get [] q with
    | [] => s
    | f :: rest =>
      let k := [d, r, 12 + p, q]
      let lost := headLost s d (64 + p) f.hdr f.idx
      let s := readFlit d (64 + p) f.hdr f.idx false s
      if lost then dropEntering d p q s
      else
        let n := if hdrLeaves d f.hdr then 0 else 1
        (s.setLink d p { x with enter := if rest = [] then x.enter.erase q else x.enter.set q rest,
                                earned := x.earned.set q (x.earned.get 0 q + n) }).setMeshQ k (s.meshQ k ++ [f])

end Sys2Proof.Machine
end

