-- ==== Sys2Proof/Machine/NetBase.lean ====
section
/-! DEFINITION. The endpoints of the mesh (R304, R307), routes (R320, R321) and the way of a response
(R308, R327 to R329). -/

namespace Sys2Proof.Machine
open Sys2Proof

/-- A unit in the outer row (R304). -/
def outerEp (d u port : Nat) : Nat := endpoint d (colAt d u) (rowOut d) port 0

/-- SUB of the attachment of case c (R304, R307). -/
def caseEp (d c sub : Nat) : Nat := endpoint d (2 * (c % 4) + 1) (c / 4 + 1) 4 sub

/-- The endpoint of an initiator (R304, R307). -/
def epOf : Who → Nat
  | .core d => outerEp d 0 0
  | .engine d c sl => caseEp d c sl
  | .fport d g k => endpoint d (2 * (g.val % 4) + k.val % 2) (g.val / 4 + 1) k 0
  | .dma d c => caseEp d c 8
  | .pcie d => outerEp d 3 1
  | .guard => endpoint 0 0 5 0 0
  | .debug => endpoint 0 0 5 1 0
  | .eth d m => if m.val % 2 = 0 then outerEp d (2 + m.val) 1 else outerEp d (2 + m.val) 0
  | .scrub d => outerEp d 7 1

/-- The die that a crossing port leads to (R193). -/
def portTo (d p : Nat) : Option Nat :=
  if p < 4 then some (d ^^^ 1) else if p < 8 then some (d ^^^ 2) else if p < 10 then some (d ^^^ 3)
  else if p = 10 then some (d ^^^ 1) else if p = 11 then some (d ^^^ 2) else none

/-- The crossing port of a packet from one endpoint to another: 15 on one die, and none where the exit entry leads
nowhere (R320, R321). -/
def exitPort (s : State) (resp : Bool) (src dst : Nat) : Option Nat :=
  if epDie src = epDie dst then some 15
  else
    let e := (s.reg .nocExit [epDie src, epRouter src]).toNat / 16 ^ ((if resp then 4 else 0) + epDie dst) % 16
    if portTo (epDie src) e = some (epDie dst) then some e else none

/-- Set a flag of `estat` and raise the network-error event of the die (R332). -/
def netFlag (d : Nat) (f : Fld) (s : State) : State := (s.setFld .nocEstat [d] f 1).raiseEvent d 163

/-- A response enters the router of its target, by the exit entry of that moment (R322); without a route it is discarded
(R321). -/
def enterReply (src pri : Nat) (p : Resp) (s : State) : State :=
  match exitPort s true src (epOf p.who) with
  | none => netFlag (epDie src) F.nocEstat_DROP s
  | some x =>
    let h := respHeader p src (epOf p.who) pri x
    sendPacket src (.resp p x h) h (packetFlits h (respPayload p)) s

/-- The router has room for a response of a target (R316). -/
def replyRoom (s : State) (src pri : Nat) (p : Resp) : Bool := meshRoom s src (4 + pri) (flitCount (respPayload p).2)

/-- Two responses wait for the same queue of a router. -/
def sameEntry (a b : Nat × Nat × Resp) : Bool :=
  epDie a.1 == epDie b.1 && epRouter a.1 == epRouter b.1 && epPort a.1 == epPort b.1 && a.2.1 == b.2.1

/-- A target sends its response (R308, R313, R331): it waits while the queue of its router has no room for it, or another
response waits for that queue (R316, R322). `src` is the endpoint of the target. -/
def respond (src : Nat) (r : Req) (tag gen status data pmask : Nat) (s : State) : State :=
  let p : Resp :=
    { who := r.who, op := r.op, tag := tag, gen := gen, status := status, data := if status = OK then data else 0,
      len := r.len, pmask := if status = OK then pmask else 0 }
  if replyRoom s src r.pri p && s.replies.all (fun e => !sameEntry e (src, r.pri, p)) then enterReply src r.pri p s
  else { s with replies := s.replies ++ [(src, r.pri, p)] }

/-- One `noc` cycle of the responses that wait on a die: in each queue the first one enters as soon as there is room. -/
def repliesCycle (d : Nat) (s : State) : State :=
  s.replies.foldl (fun t e =>
    if epDie e.1 = d ∧ t.replies.find? (fun f => sameEntry e f) = some e ∧ replyRoom t e.1 e.2.1 e.2.2 = true then
      enterReply e.1 e.2.1 e.2.2 { t with replies := t.replies.erase e }
    else t) s

/-- A reset of an initiator: its interface is empty, and every response to an earlier request is stale (R328, R329),
wherever the request is. Generation 4 marks a request from before a reset. -/
def orphan (w : Who → Bool) (s : State) : State :=
  let g (r : Req) (gen : Nat) : Nat := if w r.who then 4 else gen
  { s with
    inits := s.inits.keep (fun k => !w k),
    replies := s.replies.map (fun e => if w e.2.2.who then (e.1, e.2.1, { e.2.2 with gen := 4 }) else e),
    flight := s.flight.map (fun p => match p with
      | .req r tag gen dst x h => .req r tag (g r gen) dst x h
      | .resp r x h => if w r.who then .resp { r with gen := 4 } x h else .resp r x h),
    cases := s.cases.map (fun e => (e.1, { e.2 with inb := e.2.inb.map (fun q => { q with gen := g q.req q.gen }) })),
    ddrs := s.ddrs.map (fun e => (e.1, { e.2 with reqs := e.2.reqs.map (fun q => { q with gen := g q.req q.gen }) })),
    accepted := s.accepted.map (fun e => (e.1, e.2.1, g e.1 e.2.2.1, e.2.2.2)),
    pcies := s.pcies.map (fun e => (e.1, e.2.map (fun q => (q.1, q.2.1, g q.1 q.2.2.1, q.2.2.2)))) }

end Sys2Proof.Machine
end

