-- ==== Sys2Proof/Machine/CasePort.lean ====
section
/-! DEFINITION. The banks of a case: one arbitration phase (R163 to R185), the bank access (R164, R315, R382) and the
imposition table (R168 to R175). -/

namespace Sys2Proof.Machine
open Sys2Proof

/-! Atomics (R103, R312, R315). -/

/-- The word that an atomic writes, from the old value (R103). -/
def atomicNew (afn : BitVec 3) (dw : Bool) (old b c : Nat) : Nat :=
  let m := 2 ^ (8 * dwBytes dw)
  let sg (v : Nat) : Int := if dw then (BitVec.ofNat 64 v).toInt else (BitVec.ofNat 32 v).toInt
  (match afn.toNat with
    | 0 => b
    | 1 => old + b
    | 2 => old &&& b
    | 3 => old ||| b
    | 4 => old ^^^ b
    | 5 => if sg old < sg b then b else old
    | 6 => if old < b % m then b else old
    | _ => if old = c % m then b else old) % m

/-- An atomic on a memory with byte check bits (R103, R315): the old value, its uncorrectable bytes, and the memory
after. -/
def Mem.atomic (m : Mem) (a : Nat) (afn : BitVec 3) (dw : Bool) (b c : W64) : Nat × Nat × Mem :=
  let n := dwBytes dw
  let old := m.readN a n
  let bad := m.badN a n
  if bad = 0 then (old, 0, m.writeN a n (atomicNew afn dw old b.toNat c.toNat)) else (old, bad, m)

/-! Reservations on case memory (R107). -/

/-- A write of bytes of a granule clears the reservations on it of the engines of the case. -/
def clearResv (d c : Nat) (granule : Nat) (s : State) : State :=
  { s with units := s.units.map fun e =>
      match e.1 with
      | .eng d' c' _ =>
        if d'.val = d ∧ c'.val = c ∧ e.2.resv.any (fun r => r.granule == granule) = true
        then (e.1, { e.2 with resv := none }) else e
      | _ => e }

/-! Requesters (R165, R166). -/

/-- The requester code (R165), the remap registers resolving an engine (R169). -/
def codeOf (s : State) (d c : Nat) : Requester → Nat
  | .eng p => s.slotOf d c p
  | .dma => 9
  | .inb => 10
  | .dbg => 11

/-- Eligible for a background grant (R180); the inbound port of a closed quoin receives no grant (R557). -/
def background (s : State) (d c : Nat) : Requester → Bool
  | .eng p => s.openMode d c (s.slotOf d c p)
  | .inb => !s.caseClosed d c
  | _ => true

/-- The request that a requester presents to a bank: the one it issued first, and for the inbound port the highest
packet priority first (R167, R179). -/
def presented (l : List BankReq) : Option BankReq :=
  l.foldl (fun a r =>
    match a with
    | none => some r
    | some b => if r.who = .inb ∧ b.pri < r.pri then some r else some b) none

/-- A Halted or Migrating engine presents no request: its owned slots fall to background ranking (R226, R659). (DESIGN
CHOICE, safe: log entry 17.) -/
def presents (s : State) (d c : Nat) : Requester → Bool
  | .eng p =>
    let st := (s.unit (.eng ⟨d % 4, by omega⟩ ⟨c % 16, by omega⟩ (posFin p))).st
    decide (st ≠ .halted) && decide (st ≠ .migrating)
  | _ => true

/-- The requests that wait at a bank for the requester of a code. -/
def waitingAt (s : State) (d c b code : Nat) : List BankReq :=
  (s.case d c).waiting.filter fun r =>
    decide (bankOf r.off = b) && decide (codeOf s d c r.who = code) && presents s d c r.who

/-- The request of a requester code at a bank. -/
def requestOf (s : State) (d c b code : Nat) : Option BankReq := presented (waitingAt s d c b code)

/-- The owner's request in the slot (R178): none for the inbound port of a closed quoin (R557). -/
def ownerRequest (s : State) (d c n b : Nat) : Option BankReq :=
  let code := s.ownerCode d c n b
  if 10 < code ∨ (code = 10 ∧ s.caseClosed d c = true) then none else requestOf s d c b code

/-- The oldest eligible background request; the lower code wins among equal ages (R178, R180). -/
def backgroundRequest (s : State) (d c b : Nat) : Option BankReq :=
  (List.range 12).foldl (fun a code =>
    match requestOf s d c b code with
    | some r =>
      if background s d c r.who then
        (match a with | none => some r | some q => if q.age < r.age then some r else some q)
      else a
    | none => a) none

/-- An emergency revoke is due at the bank in the phase for slot n (R182). -/
def revokeDue (s : State) (d c n b : Nat) : Option BankReq :=
  let wait := s.fld .caseImpCtl [d, c] F.caseImpCtl_REV_WAIT
  let last := s.hv .lastRevoke [d, c]
  match requestOf s d c b 11, ownerRequest s d c n b with
  | some r, some _ =>
    if wait ≠ 0 ∧ wait ≤ r.age + 1 ∧ (last = 0 ∨ last + 62 ≤ s.hv .caseCycle [d, c]) then some r else none
  | _, _ => none

/-- The grant of a bank in the phase for slot n, without a revoke (R178). -/
def grantOf (s : State) (d c n b : Nat) : Option BankReq :=
  match ownerRequest s d c n b with
  | some r => some r
  | none => backgroundRequest s d c b

/-! The data phase (R164, R118). -/

/-- What a bank access gives: STATUS, the data, the uncorrectable bytes, and the state after the access and its
accounting (R386). -/
structure BankDone where
  status : Nat
  data : Nat
  bad : Nat
  s : State

/-- The status payload of a scrub read (R398): 0 clean, 1 corrected, 2 uncorrectable for each byte. -/
def statusBytes (corr bad : Nat) : Nat → Nat
  | 0 => 0
  | n + 1 =>
    (if bad % 2 = 1 then 2 else if corr % 2 = 1 then 1 else 0) + 256 * statusBytes (corr / 2) (bad / 2) n

/-- Perform one bank access (R103, R106, R107, R315, R380 to R382). -/
def bankAccess (d c : Nat) (r : BankReq) (s : State) : BankDone :=
  let a := caseBase d c + r.off
  let note (t : State) : State :=
    integ t d 2 (a / 64 * 64) (r.off % 64) (s.mem.corrN a r.len) (s.mem.badN a r.len)
  match r.op with
  | .read => ⟨OK, s.mem.readN a r.len, s.mem.badN a r.len, note s⟩
  | .status => ⟨OK, statusBytes (s.mem.corrN a r.len) (s.mem.badN a r.len) r.len, 0, note s⟩
  | .write x bad => ⟨OK, 0, 0, clearResv d c (r.off / 64) { s with mem := s.mem.writeBad a r.len x bad }⟩
  | .atomic afn dw b cmp =>
    let m := s.mem.atomic a afn dw b cmp
    ⟨OK, m.1, m.2.1, if m.2.1 = 0 then clearResv d c (r.off / 64) (note { s with mem := m.2.2 }) else note s⟩
  | .stu x =>
    match r.who with
    | .eng p =>
      match (s.unit (.eng ⟨d % 4, by omega⟩ ⟨c % 16, by omega⟩ (posFin p))).resv with
      | some v =>
        if v.granule = r.off / 64 ∧ v.size = r.len then
          ⟨OK, 0, 0, clearResv d c (r.off / 64) { s with mem := s.mem.writeN a r.len x.toNat }⟩
        else ⟨NOSTORE, 0, 0, s⟩
      | none => ⟨NOSTORE, 0, 0, s⟩
    | _ => ⟨NOSTORE, 0, 0, s⟩

/-- A line of an inbound or debug request is done: its bytes join the request (R167). -/
def inbDone (d c id off len data bad : Nat) (s : State) : State :=
  let cs := s.case d c
  s.setCase d c { cs with inb := cs.inb.map fun q =>
    if q.id = id then { q with left := q.left - 1, data := q.data + data * 256 ^ off,
                               bad := q.bad + bad % 2 ^ len * 2 ^ off } else q }

/-- Bytes with one bit each, from the marked sectors of a payload (R313). -/
def inbReply (d c : Nat) (q : InbReq) (s : State) : State :=
  let pm := match q.req.op with
    | .at_ => if q.bad = 0 then 0 else 1
    | _ => sectors q.bad
  respond (caseEp d c 16) q.req q.tag q.gen OK q.data pm s

/-- Answer the requests of which every line is done. -/
def inbSettle (d c : Nat) (s : State) : State :=
  let cs := s.case d c
  let s := s.setCase d c { cs with inb := cs.inb.filter (fun q => decide (q.left ≠ 0)) }
  (cs.inb.filter (fun q => decide (q.left = 0))).foldl (fun t q => inbReply d c q t) s

/-- Place a network request at the inbound port, or a debug access at its port: each line is a request to its own
bank (R165, R167). -/
def openInbound (d c off : Nat) (r : Req) (tag gen : Nat) (s : State) : State :=
  let cs := s.case d c
  let who : Requester := if r.who = .debug then .dbg else .inb
  let op (o n : Nat) : BankOp :=
    match r.op with
    | .rd => (match r.who with | .scrub _ => .status | _ => .read)
    | .wr => .write (r.data / 256 ^ o % 256 ^ n) (sectorBytes r.pmask r.len / 2 ^ o % 2 ^ n)
    | .at_ => .atomic r.afn (decide (r.len = 8)) (BitVec.ofNat 64 r.data) r.cmp
  let ls := splitBlocks 64 off r.len (r.len / 64 + 2)
  let rs : List BankReq := ls.map fun (a, n) =>
    { who := who, off := a, len := n, op := op (a - off) n,
      use := if r.who = .debug then .dbg cs.nextId (a - off) else .inb cs.nextId (a - off), pri := r.pri, age := 0 }
  s.setCase d c { cs with
    inb := cs.inb ++ [{ id := cs.nextId, req := r, tag := tag, gen := gen, left := rs.length, data := 0, bad := 0 }],
    waiting := cs.waiting ++ rs, nextId := cs.nextId + 1 }

end Sys2Proof.Machine
end

