-- ==== Sys2Proof/Machine/EngineCtl.lean ====
section
/-! DEFINITION. Running and stopping engines and cores (R72 to R77, R126, R127). -/

namespace Sys2Proof.Machine
open Sys2Proof

/-- GO of an engine or of a case is refused during the initial load and for a locked-out case (R530, R645). -/
def goRefused (s : State) (d c : Nat) : Bool :=
  initialLoad s || decide (s.fld .bistLockout [d] F.bistLockout_CASE / 2 ^ c % 2 = 1)

/-- Enter Running at an address (R72, R77: registers and memories stay as they were). -/
def UnitState.start (x : UnitState) (pc : W64) : UnitState :=
  { x.abandonSent with st := .running, pc := pc, stopping := false, stall := 0, wev := none, mismRun := 0 }

/-- START_PC of an engine, as a byte address. -/
def startPc (s : State) (d c sl : Nat) : W64 := s.reg .caseEngStartPc [d, c, sl] &&& 0x7FF8

/-- Set the STOP, GO and ARM fields of `ctl`. -/
def setCtl (s : State) (d c sl stop arm : Nat) : State :=
  ((s.setFld .caseEngCtl [d, c, sl] F.caseEngCtl_STOP stop).setFld .caseEngCtl [d, c, sl] F.caseEngCtl_GO 0).setFld
    .caseEngCtl [d, c, sl] F.caseEngCtl_ARM arm

/-- A write of `eng[s].ctl` (R72, R74, R75): STATUS and the state after. GO and ARM written together to a Stopped engine start
it, STOP and ARM leave it Stopped. (DESIGN CHOICE, unsafe: log entry 68.) -/
def engCtlWrite (d : Fin 4) (c : Fin 16) (sl : Nat) (v : W64) (s : State) : Nat × State :=
  let go := decide (F.caseEngCtl_GO.get v = 1)
  let stop := decide (F.caseEngCtl_STOP.get v = 1)
  let arm := decide (F.caseEngCtl_ARM.get v = 1)
  if go && goRefused s d c then (REFUSED, s)
  else
    let s := s.setFld .caseEngCtl [d, c, sl] F.caseEngCtl_CASE_MODE (F.caseEngCtl_CASE_MODE.get v)
    let s := s.setFld .caseEngCtl [d, c, sl] F.caseEngCtl_OVERLAY (F.caseEngCtl_OVERLAY.get v)
    let u := s.engAt d c sl
    let x := s.unit u
    let t : State :=
      match x.st with
      | .stopped =>
        if stop then setCtl s d c sl 0 0
        else if go then setCtl (s.setUnit u (x.start (startPc s d c sl))) d c sl 0 0
        else if arm then setCtl (s.setUnit u { x with st := .armed }) d c sl 0 1
        else setCtl s d c sl 0 0
      | .armed =>
        if stop || !arm then setCtl (s.setUnit u { x with st := .stopped }) d c sl 0 0
        else setCtl s d c sl 0 1
      | .running =>
        if stop then
          let s := boundaryTrap u s
          if (s.unit u).st = .running then
            setCtl (onUnit u UnitState.toStop s) d c sl 1 0
          else setCtl (onUnit u (fun y => { y with st := .stopped }) s) d c sl 0 0
        else setCtl s d c sl (s.fld .caseEngCtl [d, c, sl] F.caseEngCtl_STOP) 0
      | .faultStopped =>
        if stop then setCtl (s.setUnit u { x with st := .stopped }) d c sl 0 0
        else if go then setCtl (s.setUnit u (x.start (startPc s d c sl))) d c sl 0 0
        else setCtl s d c sl 0 0
      | _ =>
        if stop && decide (x.back ≠ .stopped) then setCtl (s.setUnit u { x with stopping := true }) d c sl 1 0
        else setCtl s d c sl (s.fld .caseEngCtl [d, c, sl] F.caseEngCtl_STOP) 0
    (OK, t)

/-- ENGINE_GO: `ctl` written with GO 1 (R72, R74). -/
def execEngineGo (who : Who) (d : Fin 4) (c : Fin 16) (sl : Fin 8) (v : W64) (s : State) :
    Host.Outcome State Fault Refusal :=
  .next (regCommand who .caseEngCtl [d, c, sl] (engCtlWrite d c sl (withBit F.caseEngCtl_GO v)) s)

/-- ENGINE_STOP: `ctl` written with STOP 1 (R72, R74). -/
def execEngineStop (who : Who) (d : Fin 4) (c : Fin 16) (sl : Fin 8) (v : W64) (s : State) :
    Host.Outcome State Fault Refusal :=
  .next (regCommand who .caseEngCtl [d, c, sl] (engCtlWrite d c sl (withBit F.caseEngCtl_STOP v)) s)

/-- ENGINE_ARM: `ctl` written with ARM as given (R72, R74). -/
def execEngineArm (who : Who) (d : Fin 4) (c : Fin 16) (sl : Fin 8) (v : W64) (s : State) :
    Host.Outcome State Fault Refusal :=
  .next (regCommand who .caseEngCtl [d, c, sl] (engCtlWrite d c sl v) s)

/-- The stop of an engine is complete: it stops, and STOP of its slot clears (R72, R76). -/
def finishStop (d : Fin 4) (c : Fin 16) (p : Fin 9) (s : State) : State :=
  let u := UnitId.eng d c p
  let x := s.unit u
  if x.st = .running ∧ x.stopping = true ∧ x.mismRun = 0 ∧ x.outs = [] then
    let s := s.setUnit u { x with st := .stopped, stopping := false, stall := 0, wev := none, resv := none, resume := 0 }
    let sl := s.slotOf d c p
    hreqSettle (if sl < 8 then s.setFld .caseEngCtl [d, c, sl] F.caseEngCtl_STOP 0 else s)
  else s

/-- ENGINE_STOPPED: an engine that is to stop has its responses (R72, R76, R77). -/
def execEngineStopped (d : Fin 4) (c : Fin 16) (p : Fin 9) (s : State) : Host.Outcome State Fault Refusal :=
  .next (finishStop d c p s)

/-- A write of the case start register (R72, R73). -/
def caseStartWrite (d c : Nat) (v : W64) (s : State) : Nat × State :=
  if F.caseStart_GO.get v = 1 then
    if goRefused s d c then (REFUSED, s)
    else if s.bit .caseStart [d, c] F.caseStart_GO then (OK, s)
    else (OK, (s.setFld .caseStart [d, c] F.caseStart_GO 1).setHv .startAt [d, c] (s.hv .caseCycle [d, c]))
  else (OK, s)

/-- CASE_START: GO of the case start register (R72). -/
def execCaseStart (who : Who) (d : Fin 4) (c : Fin 16) (v : W64) (s : State) : Host.Outcome State Fault Refusal :=
  .next (regCommand who .caseStart [d, c] (caseStartWrite d c (withBit F.caseStart_GO v)) s)

/-- Release one slot if its engine is Armed. -/
def releaseArmed (d : Fin 4) (c : Fin 16) (s : State) (sl : Nat) : State :=
  let u := s.engAt d c sl
  let x := s.unit u
  if x.st = .armed then
    (s.setUnit u (x.start (startPc s d c sl))).setFld .caseEngCtl [d, c, sl] F.caseEngCtl_ARM 0
  else s

/-- At the first slot 0 four or more cycles after the write, every Armed engine enters Running (R72, R73). -/
def startRelease (d : Fin 4) (c : Fin 16) (s : State) : State :=
  if s.bit .caseStart [d, c] F.caseStart_GO = true ∧ s.hv .slotCtr [d, c] = 0 ∧
      s.hv .startAt [d, c] + 4 ≤ s.hv .caseCycle [d, c] ∧ s.runs d (16 + c.val) = true then
    ((List.range 8).foldl (releaseArmed d c) s).setFld .caseStart [d, c] F.caseStart_GO 0
  else s

/-- CASE_START_RELEASE (R72, R73). -/
def execCaseStartRelease (d : Fin 4) (c : Fin 16) (s : State) : Host.Outcome State Fault Refusal :=
  .next (startRelease d c s)

/-- A write of `ctl.run` (R126, R127, R74). -/
def coreRunWrite (d : Fin 4) (v : W64) (s : State) : Nat × State :=
  let go := decide (F.ctlRun_GO.get v = 1)
  let stop := decide (F.ctlRun_STOP.get v = 1)
  let u := UnitId.core d
  let x := s.unit u
  match x.st with
  | .stopped => (OK, if go && !stop then s.setUnit u (x.start (s.reg .ctlBoot [d] &&& 0xFFFFFFFFFFFC)) else s)
  | .faultStopped =>
    (OK, if stop then s.setUnit u { x with st := .stopped }
      else if go then s.setUnit u (x.start (s.reg .ctlBoot [d] &&& 0xFFFFFFFFFFFC)) else s)
  | .running =>
    (OK, if stop then onUnit u (fun y => { y.dropResv with st := .stopped, stall := 0, wev := none }) (boundaryTrap u s)
      else s)
  | _ => (OK, if stop && decide (x.back ≠ .stopped) then (s.setUnit u { x with stopping := true }).setFld .ctlRun [d] F.ctlRun_STOP 1 else s)

/-- CORE_GO: `ctl.run` written with GO 1 (R126). -/
def execCoreGo (who : Who) (d : Fin 4) (v : W64) (s : State) : Host.Outcome State Fault Refusal :=
  .next (regCommand who .ctlRun [d] (coreRunWrite d (withBit F.ctlRun_GO v)) s)

/-- CORE_STOP: `ctl.run` written with STOP 1 (R127). -/
def execCoreStop (who : Who) (d : Fin 4) (v : W64) (s : State) : Host.Outcome State Fault Refusal :=
  .next (regCommand who .ctlRun [d] (coreRunWrite d (withBit F.ctlRun_STOP v)) s)

end Sys2Proof.Machine
end

