-- ==== Sys2Proof/Machine/CaseDma.lean ====
section
/-! DEFINITION. The case DMA (R186 to R191), the imposition swap (R171 to R175) and one arbitration phase of a case
(R176 to R185). -/

namespace Sys2Proof.Machine
open Sys2Proof

def State.chan (s : State) (d c k : Nat) : DmaChan := (s.case d c).dma.get DmaChan.init k

def State.setChan (s : State) (d c k : Nat) (x : DmaChan) : State :=
  let cs := s.case d c
  s.setCase d c { cs with dma := cs.dma.set k x }

/-- The case memory offset of the descriptor at HEAD (R186). -/
def ringAt (s : State) (d c k : Nat) : Nat :=
  64 * s.fld .caseDmaRing [d, c, k] F.caseDmaRing_RBASE + 32 * s.fld .caseDmaRing [d, c, k] F.caseDmaRing_HEAD

/-- Write the STAT byte of the descriptor at HEAD (R186, R189), at once and without a grant of its bank. (DEDUCED, unsafe: log
entry 19.) -/
def writeStat (d c k stat : Nat) (s : State) : State :=
  let o := ringAt s d c k + 28
  clearResv d c (o / 64) { s with mem := s.mem.write (caseBase d c + o) (BitVec.ofNat 8 stat) }

def setDmaCtl (d c k : Nat) (f : Fld) (x : Nat) (s : State) : State := s.setFld .caseDmaCtl [d, c, k] f x

/-- Halt a channel (R189, R191). -/
def dmaHalt (d c k cause : Nat) (s : State) : State :=
  let s := setDmaCtl d c k F.caseDmaCtl_RUN 0 (setDmaCtl d c k F.caseDmaCtl_STOP 0 s)
  let s := setDmaCtl d c k F.caseDmaCtl_HALTED 1 (setDmaCtl d c k F.caseDmaCtl_CAUSE cause s)
  (s.setChan d c k DmaChan.init).raiseCaseEvent d c (448 + c)

/-- When a channel has no piece under way, a failure halts it (R189) and a stop ends its run (R190). -/
def dmaSettle (d c k : Nat) (s : State) : State :=
  let x := s.chan d c k
  if x.live ≠ [] then s
  else match x.err with
    | some (stat, cause) => dmaHalt d c k cause (writeStat d c k stat s)
    | none =>
      if s.bit .caseDmaCtl [d, c, k] F.caseDmaCtl_STOP then
        setDmaCtl d c k F.caseDmaCtl_RUN 0 (setDmaCtl d c k F.caseDmaCtl_STOP 0 (s.setChan d c k DmaChan.init))
      else s

/-- A piece is over; the first failure of the channel is kept (R189). -/
def dmaDrop (d c k piece : Nat) (err : Option (Nat × Nat)) (s : State) : State :=
  let x := s.chan d c k
  dmaSettle d c k (s.setChan d c k
    { x with live := x.live.filter (fun p => decide (p.id ≠ piece)), err := x.err.orElse (fun _ => err) })

/-- The engine whose local memory a descriptor names is in a migration pause: the access waits (R188, R229). -/
def dmaPaused (s : State) (d c : Nat) (ds : DmaDesc) : Bool :=
  ds.loc && decide ((s.unit (.eng ⟨d % 4, by omega⟩ ⟨c % 16, by omega⟩ (posFin (s.posOf d c ds.slot)))).st = .migrating)

/-- The source data of a piece has arrived and is checked; then the piece writes its destination (R188, R189, R385).
After a failure of the channel no further request is sent. -/
def dmaArrive (d c k piece status data bad : Nat) (s : State) : State :=
  let x := s.chan d c k
  match x.desc, x.live.find? (fun p => p.id == piece) with
  | some ds, some p =>
    if status ≠ OK then dmaDrop d c k piece (some (2, 3)) s
    else if bad ≠ 0 then dmaDrop d c k piece (some (3, 2)) s
    else if x.err.isSome then dmaDrop d c k piece none s
    else if ds.dir then
      let cs := s.case d c
      s.setCase d c { cs with waiting := cs.waiting ++
        [{ who := .dma, off := p.coff, len := p.len, op := .write data 0, use := .dma k piece, pri := 0, age := 0 }] }
    else if ds.loc then
      if dmaPaused s d c ds then
        s.setChan d c k { x with live := x.live.map fun q => if q.id = piece then { q with got := some data } else q }
      else
        dmaDrop d c k piece none
          { s with mem := s.mem.writeN (lmemBase d c (s.posOf d c ds.slot) + p.ext) p.len data }
    else
      let w : Who := .dma ⟨d % 4, by omega⟩ ⟨c % 16, by omega⟩
      let r := mkReq s w .wr p.ext p.len data
      openAccess (.dmaWrite k piece) { r with ord := r.ord || ds.ord, pri := ds.pri } s
  | _, _ => s

/-- The writes that waited for the end of a migration pause (R188, R229). -/
def dmaFlush (d c : Nat) (s : State) : State :=
  (List.range 4).foldl (fun t k =>
    (t.chan d c k).live.foldl (fun t p => match p.got with
      | some data => dmaArrive d c k p.id OK data 0 t
      | none => t) t) s

/-- The destination write of a piece has its response (R188, R189). -/
def dmaWritten (d c k piece status : Nat) (s : State) : State :=
  dmaDrop d c k piece (if status = OK then none else some (2, 3)) s

/-! Descriptors (R187). -/

/-- A signed 32-bit number. -/
def int32 (n : Nat) : Int := (BitVec.ofNat 32 n).toInt

/-- The descriptor in 32 bytes. -/
def parseDesc (n : Nat) : DmaDesc :=
  let f := n / 256 ^ 18 % 2 ^ 16
  { ext := n % 2 ^ 48, coff := n / 256 ^ 8 % 2 ^ 20, len := n / 256 ^ 12 % 2 ^ 21, rows := n / 256 ^ 16 % 2 ^ 16,
    dir := decide (f % 2 = 1), loc := decide (f / 2 % 2 = 1), slot := f / 4 % 8, evt := decide (f / 32 % 2 = 1),
    ord := decide (f / 64 % 2 = 1), pri := f / 256 % 4, estr := int32 (n / 256 ^ 20), cstr := int32 (n / 256 ^ 24) }

/-- A row address. -/
def rowAt (base : Nat) (str : Int) (r : Nat) : Int := (base : Int) + (r : Int) * str

/-- A range of rows stays inside a memory of n bytes: the first and the last row do. -/
def rowsIn (base len rows : Nat) (str : Int) (n : Nat) : Bool :=
  let one (r : Nat) : Bool := decide (0 ≤ rowAt base str r) && decide (rowAt base str r + (len : Int) ≤ (n : Int))
  one 0 && one (rows - 1)

/-- The descriptor meets R187 and R189. -/
def descOk (n : Nat) : Bool :=
  let ds := parseDesc n
  let f := n / 256 ^ 18 % 2 ^ 16
  decide (n / 2 ^ 48 % 2 ^ 16 = 0) && decide (n / 256 ^ 8 / 2 ^ 20 % 2 ^ 12 = 0) &&
    decide (n / 256 ^ 12 / 2 ^ 21 % 2 ^ 11 = 0) && decide (f / 128 % 2 = 0) && decide (f / 1024 = 0) &&
    decide (n / 256 ^ 29 % 2 ^ 24 = 0) && decide (1 ≤ ds.len) && decide (ds.len ≤ 2 ^ 20) && decide (1 ≤ ds.rows) &&
    rowsIn ds.coff ds.len ds.rows ds.cstr 0x100000 &&
    (!ds.loc || (decide (ds.ext / 2 ^ 17 = 0) && rowsIn ds.ext ds.len ds.rows ds.estr 0x20000))

/-- Load the descriptor at HEAD; a bad one halts the channel (R189). (DEDUCED, unsafe: log entry 19.) -/
def loadDesc (d c k : Nat) (s : State) : State :=
  let o := ringAt s d c k
  let a := caseBase d c + o
  let bad := s.mem.badN a 32
  let n := s.mem.readN a 32
  let s := integ s d 2 (a / 64 * 64) (o % 64) (s.mem.corrN a 32) bad
  if bad = 0 ∧ descOk n = true then s.setChan d c k { DmaChan.init with desc := some (parseDesc n) }
  else dmaHalt d c k 1 (writeStat d c k 4 s)

/-- The network requests of the DMA of a case (R188): its open reads, and the pieces that will write or write to the
network. -/
def dmaNetCount (s : State) (d : Fin 4) (c : Fin 16) : Nat :=
  ((s.init (.dma d c)).accs.filter (fun a => match a.use with | .dmaRead _ _ => true | _ => false)).length +
  ((List.range 4).map fun k => let x := s.chan d c k
    if x.desc.any (fun ds => !ds.dir && !ds.loc) then x.live.length else 0).sum

/-- The channel has a piece ready (R188, R190, R557, R661). -/
def chanReady (s : State) (d : Fin 4) (c : Fin 16) (k : Nat) : Bool :=
  let x := s.chan d c k
  let ring := s.reg .caseDmaRing [d, c, k]
  s.bit .caseDmaCtl [d, c, k] F.caseDmaCtl_RUN && !s.bit .caseDmaCtl [d, c, k] F.caseDmaCtl_STOP && x.err.isNone &&
    decide (F.caseDmaRing_HEAD.get ring ≠ F.caseDmaRing_TAIL.get ring) &&
    decide (s.hv .caseHalted [d, c] = 0) &&
    (match x.desc with
      | none => true
      | some ds =>
        decide (x.row < ds.rows) && !(ds.dir && dmaPaused s d c ds) &&
          (ds.loc || (decide (dmaNetCount s d c < 32) && !(ds.dir && s.caseClosed d c))))

/-- The next piece of a channel (R188). With LOCAL 0 the address of a row is taken modulo 2^48. (DESIGN CHOICE, unsafe: log
entry 93.) -/
def nextPiece (ds : DmaDesc) (x : DmaChan) : DmaPiece :=
  let coff := (rowAt ds.coff ds.cstr x.row).toNat + x.off
  let ext := ((rowAt ds.ext ds.estr x.row) % 2 ^ 48).toNat + x.off
  let blk := if ds.loc then 64 else 256
  { id := x.nextPiece, coff := coff, ext := ext,
    len := min (ds.len - x.off) (min (64 - coff % 64) (blk - ext % blk)), got := none }

/-- Issue the next piece of a channel: its source is read (R188). -/
def issuePiece (d : Fin 4) (c : Fin 16) (k : Nat) (s : State) : State :=
  let x := s.chan d c k
  match x.desc with
  | none => s
  | some ds =>
    let p := nextPiece ds x
    let last := decide (ds.len ≤ x.off + p.len)
    let s := s.setChan d c k { x with live := x.live ++ [p], nextPiece := x.nextPiece + 1,
                                      row := if last then x.row + 1 else x.row,
                                      off := if last then 0 else x.off + p.len }
    if ds.dir then
      if ds.loc then
        let q := s.posOf d c ds.slot
        let rd := readLocal s d c q p.ext p.len
        dmaArrive d c k p.id OK rd.1 rd.2.1 (rd.2.2 s)
      else
        let r := mkReq s (.dma d c) .rd p.ext p.len 0
        openAccess (.dmaRead k p.id) { r with ord := r.ord || ds.ord, pri := ds.pri } s
    else
      let cs := s.case d c
      s.setCase d c { cs with waiting := cs.waiting ++
        [{ who := .dma, off := p.coff, len := p.len, op := .read, use := .dma k p.id, pri := 0, age := 0 }] }

/-- DMA_PIECE: the channel whose turn has come issues a piece (R188). -/
def dmaPiece (d : Fin 4) (c : Fin 16) (s : State) : State :=
  let s := dmaFlush d c s
  let turn := s.hv .dmaTurn [d, c]
  match ((List.range 4).map (fun i => (turn + i) % 4)).find? (fun k => chanReady s d c k) with
  | none => s
  | some k =>
    let s := s.setHv .dmaTurn [d, c] (k + 1)
    let s := if (s.chan d c k).desc.isNone then loadDesc d c k s else s
    if chanReady s d c k then issuePiece d c k s else s

def execDmaPiece (d : Fin 4) (c : Fin 16) (s : State) : Host.Outcome State Fault Refusal :=
  .next (if s.runs d (16 + c.val) then dmaPiece d c s else s)

/-- DESCRIPTOR_COMPLETE (R186, R188, R191): STAT is written, then HEAD advances. -/
def completeDesc (d c k : Nat) (s : State) : State :=
  let x := s.chan d c k
  match x.desc with
  | none => s
  | some ds =>
    if ds.rows ≤ x.row ∧ x.live = [] ∧ x.err = none then
      let s := writeStat d c k 1 s
      let n := 2 ^ s.fld .caseDmaRing [d, c, k] F.caseDmaRing_LOG2N
      let s := s.setFld .caseDmaRing [d, c, k] F.caseDmaRing_HEAD
        ((s.fld .caseDmaRing [d, c, k] F.caseDmaRing_HEAD + 1) % n)
      let s := s.setChan d c k DmaChan.init
      if ds.evt then (setDmaCtl d c k F.caseDmaCtl_DONE 1 s).raiseCaseEvent d c (448 + c) else s
    else s

def execDescriptorComplete (d : Fin 4) (c : Fin 16) (k : Fin 4) (s : State) : Host.Outcome State Fault Refusal :=
  .next (if s.runs d (16 + c.val) then completeDesc d c k s else s)

/-- A write of `dma[k].ring` (R186). -/
def dmaRingWrite (d c k : Nat) (v : W64) (s : State) : Nat × State :=
  let old := s.reg .caseDmaRing [d, c, k]
  let moved := decide (F.caseDmaRing_RBASE.get v ≠ F.caseDmaRing_RBASE.get old) ||
    decide (F.caseDmaRing_LOG2N.get v ≠ F.caseDmaRing_LOG2N.get old)
  if s.bit .caseDmaCtl [d, c, k] F.caseDmaCtl_RUN && moved then (REFUSED, s)
  else
    let s := plainWrite .caseDmaRing [d, c, k] v s
    (OK, if moved then s.setFld .caseDmaRing [d, c, k] F.caseDmaRing_HEAD (F.caseDmaRing_TAIL.get v) else s)

/-- The ring of a channel is invalid (R186). -/
def ringBad (s : State) (d c k : Nat) : Bool :=
  let l := s.fld .caseDmaRing [d, c, k] F.caseDmaRing_LOG2N
  decide (l = 0) || decide (10 < l) ||
    decide (0x100000 < 64 * s.fld .caseDmaRing [d, c, k] F.caseDmaRing_RBASE + 32 * 2 ^ l)

/-- A write of `dma[k].ctl` (R186, R190): STOP reads 1 while a channel that was told to stop, by STOP or by RUN 0, waits for its
responses. (DEDUCED, unsafe: log entry 19.) -/
def dmaCtlWrite (d c k : Nat) (v : W64) (s : State) : Nat × State :=
  let s := s.setReg .caseDmaCtl [d, c, k] (s.reg .caseDmaCtl [d, c, k] &&& ~~~(v &&& 0xC))
  let run := s.bit .caseDmaCtl [d, c, k] F.caseDmaCtl_RUN
  if F.caseDmaCtl_STOP.get v = 1 ∨ F.caseDmaCtl_RUN.get v = 0 then
    (OK, if run then dmaSettle d c k (setDmaCtl d c k F.caseDmaCtl_STOP 1 s) else s)
  else if run then (OK, s)
  else if ringBad s d c k then (OK, dmaHalt d c k 1 s)
  else (OK, setDmaCtl d c k F.caseDmaCtl_RUN 1 (s.setChan d c k DmaChan.init))

/-- DMA_RING_WRITE (R186). -/
def execDmaRingWrite (who : Who) (d : Fin 4) (c : Fin 16) (k : Fin 4) (v : W64) (s : State) :
    Host.Outcome State Fault Refusal :=
  .next (regCommand who .caseDmaRing [d, c, k] (dmaRingWrite d c k v) s)

/-- DMA_RUN: `ctl` written with RUN 1 (R190). -/
def execDmaRun (who : Who) (d : Fin 4) (c : Fin 16) (k : Fin 4) (v : W64) (s : State) :
    Host.Outcome State Fault Refusal :=
  .next (regCommand who .caseDmaCtl [d, c, k] (dmaCtlWrite d c k (withBit F.caseDmaCtl_RUN v)) s)

/-- DMA_STOP: `ctl` written with STOP 1, or with RUN 0 as given (R190). -/
def execDmaStop (who : Who) (d : Fin 4) (c : Fin 16) (k : Fin 4) (v : W64) (s : State) :
    Host.Outcome State Fault Refusal :=
  .next (regCommand who .caseDmaCtl [d, c, k]
    (dmaCtlWrite d c k (if F.caseDmaCtl_RUN.get v = 0 then v else withBit F.caseDmaCtl_STOP v)) s)

/-! The imposition swap (R170 to R174). -/

/-- An entry holds a code of a range. -/
def anyCode (v : W64) (lo hi : Nat) : Bool :=
  (List.range 16).any fun i => let x := v.toNat / 16 ^ i % 16; decide (lo ≤ x) && decide (x ≤ hi)

/-- A write of `imp.ctl` (R171, R173): only the debug initiator changes REV_WAIT. -/
def impCtlWrite (who : Who) (d c : Nat) (v : W64) (s : State) : Nat × State :=
  let s := if who = .debug then s.setFld .caseImpCtl [d, c] F.caseImpCtl_REV_WAIT (F.caseImpCtl_REV_WAIT.get v) else s
  if F.caseImpCtl_SWAP.get v = 1 ∧ s.bit .caseImpStatus [d, c] F.caseImpStatus_PENDING = false then
    (OK, ((s.setFld .caseImpCtl [d, c] F.caseImpCtl_SWAP 1).setFld .caseImpStatus [d, c] F.caseImpStatus_PENDING 1).setHv
      .swapAt [d, c] (s.hv .caseCycle [d, c]))
  else (OK, s)

/-- A write of `imp.slot[n]` (R173). -/
def impSlotWrite (d c n : Nat) (v : W64) (s : State) : Nat × State :=
  if s.bit .caseImpStatus [d, c] F.caseImpStatus_PENDING then (REFUSED, s)
  else (OK, s.setReg .caseImpSlot [d, c, n] v)

/-- IMP_SWAP_REQUEST: `imp.ctl` written with SWAP 1 (R171). -/
def execImpSwapRequest (who : Who) (d : Fin 4) (c : Fin 16) (v : W64) (s : State) :
    Host.Outcome State Fault Refusal :=
  .next (regCommand who .caseImpCtl [d, c] (impCtlWrite who d c (withBit F.caseImpCtl_SWAP v)) s)

/-- The swap falls due: the case stands at slot 63 before a slot 0 that lies four or more cycles after the write
(R171). -/
def swapDue (s : State) (d c : Nat) : Bool :=
  s.bit .caseImpStatus [d, c] F.caseImpStatus_PENDING && decide (s.hv .slotCtr [d, c] = 63) &&
    decide (s.hv .swapAt [d, c] + 4 ≤ s.hv .caseCycle [d, c] + 1)

/-- Exchange the two planes, or refuse for a reserved code (R170 to R172, R174). -/
def impSwap (d c : Nat) (s : State) : State :=
  if swapDue s d c then
    let bad := (List.range 64).any fun n => anyCode (s.reg .caseImpSlot [d, c, n]) 11 14
    let t := (s.setFld .caseImpCtl [d, c] F.caseImpCtl_SWAP 0).setFld .caseImpStatus [d, c] F.caseImpStatus_PENDING 0
    if bad then (t.setFld .caseImpStatus [d, c] F.caseImpStatus_SWAP_ERR 1).raiseCaseEvent d c (128 + c)
    else
      let t := (List.range 64).foldl (fun t n =>
        (t.setReg .caseImpLive [d, c, n] (s.reg .caseImpSlot [d, c, n])).setReg .caseImpSlot [d, c, n]
          (s.reg .caseImpLive [d, c, n])) t
      (t.setFld .caseImpStatus [d, c] F.caseImpStatus_SWAP_DONE 1).raiseCaseEvent d c (128 + c)
  else s

/-- IMP_SWAP (R171). -/
def execImpSwap (d : Fin 4) (c : Fin 16) (s : State) : Host.Outcome State Fault Refusal :=
  .next (if s.runs d (16 + c.val) then impSwap d c s else s)

/-! One arbitration phase (R176 to R185). -/

/-- Deliver the result of a bank access to the one it is for. -/
def bankDeliver (d : Fin 4) (c : Fin 16) (r : BankReq) (b : BankDone) : State :=
  match r.use, r.who with
  | .eng id, .eng p => finishAccess (.eng d c (posFin p)) id b.status b.data b.bad b.s
  | .dma k piece, _ =>
    match r.op with
    | .write _ _ => dmaWritten d c k piece b.status b.s
    | _ => dmaArrive d c k piece b.status b.data b.bad b.s
  | .inb id off, _ => inbDone d c id off r.len b.data b.bad b.s
  | .dbg id off, _ => inbDone d c id off r.len b.data b.bad b.s
  | _, _ => b.s

/-- Grant one request: it leaves the bank and is performed. -/
def grant (d : Fin 4) (c : Fin 16) (s : State) (r : BankReq) : State :=
  let cs := s.case d c
  let s := s.setCase d c { cs with waiting := cs.waiting.filter (fun q => decide (q ≠ r)) }
  inbSettle d c (bankDeliver d c r (bankAccess d c r s))

/-- Every request that is left has entered one more phase (R177), those that a Halted or Migrating engine does not present
included. (DESIGN CHOICE, safe: log entry 17.) -/
def ageAll (d c : Nat) (s : State) : State :=
  let cs := s.case d c
  s.setCase d c { cs with waiting := cs.waiting.map (fun r => { r with age := r.age + 1 }) }

/-- An engine that is to stop only waits for the responses of remote accesses, or of case accesses in open mode (R72). These
cycles count in ND like those of a FENCE, so that COUNT − ND stays the deterministic count. (DEDUCED, unsafe: log entry 86.) -/
def stopWaits (s : State) (d c sl : Nat) (x : UnitState) : Bool :=
  x.stopping && decide (x.mismRun = 0) && x.outs.any (fun p => p.remote || s.openMode d c sl)

/-- One `eng` cycle of a running engine: COUNT, ND and the watchdog (R80, R81, R665). `held` is a cycle that a revoke
holds (R184), which an engine in a migration pause counts too (R231), without its watchdog (R223). -/
def countCycle (d : Fin 4) (c : Fin 16) (held : Bool) (s : State) (sl : Nat) : State :=
  let x := s.unit (s.engAt d c sl)
  if held = true ∧ x.st = .migrating ∧ x.back = .running then
    (s.setReg .caseEngCycles [d, c, sl] (s.reg .caseEngCycles [d, c, sl] + 1)).bumpFld .caseEngNdcycles [d, c, sl]
      F.caseEngNdcycles_ND 1
  else if x.st = .running then
    let s := s.setReg .caseEngCycles [d, c, sl] (s.reg .caseEngCycles [d, c, sl] + 1)
    let s := if held || decide (x.stall = 2) || stopWaits s d c sl x then s.bumpFld .caseEngNdcycles [d, c, sl] F.caseEngNdcycles_ND 1 else s
    s.setFld .caseEngWdog [d, c, sl] F.caseEngWdog_REMAIN (s.fld .caseEngWdog [d, c, sl] F.caseEngWdog_REMAIN - 1)
  else s

def countAll (d : Fin 4) (c : Fin 16) (held : Bool) (s : State) : State :=
  (List.range 8).foldl (countCycle d c held) (s.setHv .caseCycle [d, c] (s.hv .caseCycle [d, c] + 1))

/-- The emergency revoke of the lowest bank at which one is due (R182, R183). -/
def revokeOf (s : State) (d c n : Nat) : Option BankReq := (List.range 16).findSome? (revokeDue s d c n)

/-- One arbitration phase of the sixteen banks of a case, for the slot after the present one (R178). (DESIGN CHOICE,
safe: log entry 18.) -/
def casePhase (d : Fin 4) (c : Fin 16) (s0 : State) : State :=
  let s := impSwap d c (startRelease d c s0)
  let n := (s.hv .slotCtr [d, c] + 1) % 64
  match revokeOf s d c n with
  | some r =>
    let s := ageAll d c (grant d c s r)
    let s := (s.bumpFld .caseImpRevokes [d, c] F.caseImpRevokes_COUNT 1).setFld .caseImpStatus [d, c]
      F.caseImpStatus_VOID 1
    countAll d c true (s.setHv .lastRevoke [d, c] (s.hv .caseCycle [d, c] + 2))
  | none =>
    let gs := (List.range 16).filterMap (grantOf s d c n)
    let s := ageAll d c (gs.foldl (grant d c) s)
    let s := countAll d c false (s.setHv .slotCtr [d, c] n)
    (List.range 9).foldl (fun t p => releaseAt (.eng d c (posFin p)) t) s

/-- CASE_GRANT (R178). -/
def execCaseGrant (d : Fin 4) (c : Fin 16) (s : State) : Host.Outcome State Fault Refusal :=
  .next (if s.runs d (16 + c.val) then casePhase d c s else s)

end Sys2Proof.Machine
end

