-- ==== Sys2Proof/Machine/Link.lean ====
section
/-! DEFINITION. Clerasway links: training (R358 to R364), carriers (R366 to R370), frames, credits and retry (R348 to
R357), and the optical path (R372 to R377). -/

namespace Sys2Proof.Machine
open Sys2Proof

def optical (p : Nat) : Bool := decide (8 ≤ p)

def lstate (s : State) (d p : Nat) : Nat := s.fld .linkPortStatus [d, p] F.linkPortStatus_STATE

/-- The present `noc` cycle, and `us` microseconds since a cycle have passed at 1,600 cycles each (R192). -/
def now (s : State) : Nat := s.hv .nocCycle []
def passed (s : State) (from_ us : Nat) : Bool := decide (from_ + 1600 * us ≤ now s)

/-- X of R355: the cycles from the slot of a frame to its hand-over. -/
def crossX (p : Nat) : Nat := if optical p then 88 else 80

/-- The die that a port leads to (R193). -/
def partnerOf (d p : Nat) : Nat := (portTo d p).getD d

/-- The port trains: Probe, Propose, Confirm or Commit. -/
def inTraining (s : State) (d p : Nat) : Bool := decide (1 ≤ lstate s d p) && decide (lstate s d p ≤ 4)

/-! The check of a frame (R348, R349). -/

/-- One step of CRC-32C, most significant bit first. -/
def crcStep (c : BitVec 32) (b : Bool) : BitVec 32 :=
  let t := c.getLsbD 31 ^^ b
  (c <<< 1) ^^^ (if t then 0x1EDC6F41 else 0)

/-- CRC-32C over the n low bits of a number, highest first (R348). -/
def crc32c (n x : Nat) : BitVec 32 :=
  (List.range n).foldl (fun c i => crcStep c (x.testBit (n - 1 - i))) (BitVec.allOnes 32)

/-- The 576 bits of a frame (R348). -/
def frameBits (f : SentFrame) (ack : Nat) : BitVec 576 :=
  let body := f.flit + f.head.toNat * 2 ^ 512 + f.crdN * 2 ^ 517 + f.crdQ * 2 ^ 520 + f.q * 2 ^ 524 + ack * 2 ^ 528 +
    f.seq * 2 ^ 536
  BitVec.ofNat 576 (body + (crc32c 544 body).toNat * 2 ^ 544)

/-- A field of a received frame. -/
def frameFld (b : BitVec 576) (lo w : Nat) : Nat := b.toNat / 2 ^ lo % 2 ^ w

/-- A received frame is not discarded as a CRC failure (R349). -/
def frameGood (b : BitVec 576) : Bool :=
  let q := frameFld b 524 4
  decide ((crc32c 544 (b.toNat % 2 ^ 544)).toNat = frameFld b 544 32) && decide (q ≠ 15) && decide (frameFld b 513 4 = 0) &&
    !((decide (q = 13) || decide (q = 14)) && (decide (frameFld b 520 4 ≠ 15) || decide (frameFld b 517 3 ≠ 0)))

/-! Receive maps (R344 to R346, R359). -/

/-- The lanes and wavelengths that passed the last Probe, as MAPX (R359). -/
def rxMap (s : State) (d p : Nat) : Nat :=
  (s.reg .linkPortRxmap [d, p]).toNat + (s.reg .linkPortRxmapHi [d, p]).toNat % 64 * 2 ^ 64

/-- Lane group q is usable in a map: at most one of its 17 lanes has failed (R344). -/
def groupUsable (m q : Nat) : Bool :=
  let lanes := (List.range 16).map (16 * q + ·) ++ [64 + q]
  decide ((lanes.filter (fun k => m / 2 ^ k % 2 == 0)).length ≤ 1)

/-- The groups in use (R346): the n lowest-numbered usable ones, one bit each. -/
def groupsUsed (m n : Nat) : Nat :=
  (((List.range 4).filter (groupUsable m)).take n).foldl (fun a q => a + 2 ^ q) 0

/-- The wavelengths in use (R346): the 4n lowest-numbered good ones, one bit each. -/
def wavesUsed (m n : Nat) : Nat :=
  (((List.range 18).filter (fun k => m / 2 ^ k % 2 == 1)).take (4 * n)).foldl (fun a k => a + 2 ^ k) 0

/-- The spares that a direction uses (R344, R345): a lane group's spare, or a wavelength above 15. -/
def sparesUsed (p m n : Nat) : Nat :=
  if optical p then wavesUsed m n / 2 ^ 16
  else ((List.range 4).filter (fun q => groupsUsed m n / 2 ^ q % 2 == 1 &&
      (List.range 16).any (fun i => m / 2 ^ (16 * q + i) % 2 == 0))).foldl (fun a q => a + 2 ^ q) 0

/-! Frames on lanes and wavelengths (R344, R345, R347). -/

/-- The lanes or wavelengths that carry bit positions 0, 1, … of the direction that port p of die d sends (R344, R347): the
spare of a group in place of its failed lane. -/
def positions (s : State) (d p : Nat) : List Nat :=
  let m := rxMap s (partnerOf d p) p
  let n := 4 - s.fld .linkPortStatus [d, p] F.linkPortStatus_W
  if optical p then (List.range 18).filter (fun k => wavesUsed m n / 2 ^ k % 2 == 1)
  else ((List.range 4).filter (fun q => s.fld .linkPortStatus [d, p] F.linkPortStatus_GRP_TX / 2 ^ q % 2 == 1)).flatMap
    fun q => (List.range 16).map fun i => if m / 2 ^ (16 * q + i) % 2 = 1 then 16 * q + i else 64 + q

/-- The bit of a frame that a lane or wavelength carries in a unit interval (R347): bit b goes on position b mod N in unit
interval b / N. -/
def bitAt (ps : List Nat) (lane ui : Nat) : Option Nat :=
  match ps.findIdx? (fun k => k == lane) with
  | some i => let b := ui * ps.length + i; if b < 576 then some b else none
  | none => none

/-- The bits of a frame that arrive wrong. -/
def noiseBits (s : State) (d p : Nat) (l : List LaneFlip) : BitVec 576 :=
  let ps := positions s d p
  l.foldl (fun v f => match bitAt ps f.lane f.ui with
    | some b => v ^^^ BitVec.ofNat 576 (2 ^ b)
    | none => v) 0

/-! Training messages (R358, R359). -/

/-- The 256 bits of a message of port p of die d: TYPE 1 PROPOSE, 2 CONFIRM, 3 COMMIT. -/
def trainBits (d p type : Nat) (m : TrainMsg) : BitVec 256 :=
  let body := type + m.noState.toNat * 2 ^ 4 + m.floorW * 2 ^ 26 + m.capW * 2 ^ 28 + d * 2 ^ 30 + p * 2 ^ 32 + m.w * 2 ^ 38 +
    m.nextSeq * 2 ^ 40 + m.epoch * 2 ^ 48 + m.mapY * 2 ^ 80 + m.mapX * 2 ^ 152
  BitVec.ofNat 256 (body + (crc32c 224 body).toNat * 2 ^ 224)

/-- A received message from port p of die d: a valid one has a good CRC and names its partner in DIE and PORT; any other is
ignored (R358). -/
def trainRead (d p type : Nat) (b : BitVec 256) : Option TrainMsg :=
  let x := b.toNat
  let f (lo w : Nat) : Nat := x / 2 ^ lo % 2 ^ w
  if (crc32c 224 (f 0 224)).toNat = f 224 32 ∧ f 30 2 = d ∧ f 32 4 = p ∧ f 0 4 = type then
    some { mapX := f 152 72, mapY := f 80 72, epoch := f 48 32, nextSeq := f 40 8, w := f 38 2, capW := f 28 2,
           floorW := f 26 2, noState := decide (f 4 1 = 1) }
  else none

/-- The message of a kind that reaches port p of die d from its partner, with `noise` on its bits: each is sent repeatedly, so
a copy may come when the partner has moved on by one state. -/
def trainIn (s : State) (d p type : Nat) (noise : BitVec 256) : Option TrainMsg :=
  let e := partnerOf d p
  let y := s.link e p
  let mine := lstate s d p
  let from_ := lstate s e p
  let sent := match type with
    | 1 => if from_ = 2 ∨ (mine = 2 ∧ (from_ = 3 ∨ from_ = 4)) then y.propose else none
    | 2 => if from_ = 3 ∨ (mine = 3 ∧ from_ = 4) then y.confirm else none
    | _ => if from_ = 4 ∨ (mine = 4 ∧ from_ = 5) then y.commit else none
  sent.bind fun m => trainRead e p type (trainBits e p type m ^^^ noise)

/-! Receiving (R355 to R357). -/

/-- The buffer of a queue (R352). -/
def bufSize (q : Nat) : Nat :=
  if q < 8 then 128 else if q = 8 then 32 else if q = 9 then 8 else if q = 10 then 4 else 8

/-- A packet in flight is across: from now on it is on its destination die. -/
def crossed (src p hdr : Nat) (s : State) : State :=
  let hit (k : Pkt) : Bool := match k with
    | .req _ _ _ _ x h => x == p && h == hdr
    | .resp _ x h => x == p && h == hdr
  let here (k : Pkt) : Pkt := match k with
    | .req r tag gen dst _ h => .req r tag gen dst 15 h
    | .resp r _ h => .resp r 15 h
  if epDie (hdrSrc hdr) = src then
    match s.flight.find? hit with
    | some k => { s with flight := s.flight.erase k ++ [here k] }
    | none => s
  else s

/-- The flit of a frame enters its queue buffer; the flits of a complete memory packet may then enter the mesh (R353, R355,
R357). -/
def handOver (d p : Nat) (f : SentFrame) (s : State) : State :=
  let x := s.link d p
  let earn (n : Nat) (x : LinkState) : LinkState := { x with earned := x.earned.set f.q (x.earned.get 0 f.q + n) }
  if 8 ≤ f.q then s.setLink d p (earn 1 x)
  else
    let old := x.part.get [] f.q
    if f.head = false ∧ old = [] then s.setLink d p (earn 1 x)
    else
      let fs := if f.head then [f.flit] else old ++ [f.flit]
      let hdr := fs.headD 0 % 2 ^ 128
      let lost := f.head && decide (old ≠ [])
      let s := if lost then linkDisc d p 1 s else s
      let x := if lost then earn old.length x else x
      if flitCount (headerPayload hdr) ≤ fs.length then
        crossed (partnerOf d p) f.pid hdr (s.setLink d p { x with
          part := x.part.erase f.q, enter := x.enter.set f.q (x.enter.get [] f.q ++ meshFlits hdr fs) })
      else s.setLink d p { x with part := x.part.set f.q fs }

/-- The next frame of a queue is handed over: X cycles after the slot in which it was first sent, or as soon as it is there,
and one cycle after the frame before it (R355, R356). -/
def frameHandover (d p q : Nat) (s : State) : State :=
  let x := s.link d p
  let n := now s
  match x.rxq.find? (fun f => f.q == q) with
  | none => s
  | some f =>
    if f.first + crossX p ≤ n ∧ x.handAt.get 0 q ≤ n then
      let s := handOver d p f (s.setLink d p { x with rxq := x.rxq.erase f, handAt := x.handAt.set q (n + 1) })
      if f.first + crossX p < n then linkFlag d p F.linkPortFlags_LATE (s.bumpFld .linkPortCnt [d, p] F.linkPortCnt_LATE 1)
      else s
    else s

/-- Hand over every frame that has arrived, and discard the incomplete packets (R357, R361). -/
def drainReceiver (d p : Nat) (s : State) : State :=
  let x := s.link d p
  let s := x.rxq.foldl (fun t f => handOver d p f t) (s.setLink d p { x with rxq := [] })
  let x := s.link d p
  let n := ((List.range 8).filter (fun q => decide (x.part.get [] q ≠ []))).length
  linkDisc d p n (s.setLink d p { x with part := [] })

/-! The carrier (R366 to R370). -/

/-- The ports of the chain of ALT from a port, each once, that lead to the same die (R367). -/
def altChain (s : State) (d p : Nat) : Nat → List Nat → List Nat
  | 0, seen => seen
  | fuel + 1, seen =>
    let last := seen.getLastD p
    let a := s.fld .linkPortCtl [d, last] F.linkPortCtl_ALT
    if a < 12 ∧ a ≠ p ∧ a ∉ seen then altChain s d p fuel (seen ++ [a]) else seen

def chainOf (s : State) (d p : Nat) : List Nat :=
  (altChain s d p 12 []).filter (fun a => portTo d a == portTo d p)

/-- The carrier that the rule gives for port p (R367); `now_` ignores the hold (RETURN). -/
def carrierRule (s : State) (d p : Nat) (now_ : Bool) : Nat :=
  let x := s.link d p
  let active (a : Nat) : Bool := decide (lstate s d a = 5)
  let chain := chainOf s d p
  if (inTraining s d p && !x.late) || (active p && (now_ || x.held || !x.left || !chain.any active)) then p
  else (chain.find? active).getD 15

/-- Drop a packet that is partly sent: the flits before the next head (R357, R366). -/
def dropPartial (l : List OutFlit) (q : Nat) : List OutFlit :=
  match l with
  | [] => []
  | f :: r => if f.q = q then (if f.head then f :: r else dropPartial r q) else f :: dropPartial r q

/-- The memory queues of which a packet is partly sent. -/
def partialQueues (l : List OutFlit) : List Nat :=
  (List.range 8).filter fun q => (l.find? (fun f => f.q == q)).any (fun f => !f.head)

/-- The rest of every packet of port j that is partly sent on port p is discarded (R357, R361, R366). -/
def cutPartial (d p j : Nat) (s : State) : State :=
  let x := s.link d j
  let qs := partialQueues x.out
  linkDisc d p qs.length (s.setLink d j { x with out := qs.foldl dropPartial x.out })

/-- The flits of port j that were handed to port v and are no more to leave there: they go on to the carrier in their order
(R323, R366). -/
def moveOn (d j v : Nat) (s : State) : State :=
  let x := s.link d j
  let go := x.out.filter (fun f => f.at_ == v)
  go.foldl (fun t f => sendOn d v f.q [{ hdr := f.hdr, head := f.head, last := f.last, flit := f.flit, idx := f.idx }] t)
    (s.setLink d j { x with out := x.out.filter (fun f => f.at_ != v) })

/-- Discard every flit that waits at a port, with its packets (R369). -/
def discardOut (d p : Nat) (s : State) : State :=
  let x := s.link d p
  let n := (x.out.filter (·.head)).length + (partialQueues x.out).length
  pruneFlight (linkDisc d p n (s.setLink d p { x with out := [] }))

/-- Traffic of port j leaves port v, which is not Active: what it holds of a packet partly sent is discarded, and for its own
traffic its retry buffer and the flits of an incomplete packet that it has received (R357, R366). -/
def leavePort (d j v : Nat) (s : State) : State :=
  let s := cutPartial d v j s
  let s := if j = v then
      let s := drainReceiver d v s
      (s.setLink d v { s.link d v with retry := [], resend := 0 }).setFld .linkPortStatus [d, v]
        F.linkPortStatus_NOSTATE 1
    else s
  pruneFlight s

/-- The traffic of port j has carrier c (R366 to R369). While the port v that still sends it is Active, what waits there is sent
there (R368); when v is not Active, no wait applies: what waits there moves to c. What waits at any other port moves to c. -/
def settleOut (d j c : Nat) (s : State) : State :=
  let v := viaOf s d j
  if c = 15 then (if v = j then s else s.setLink d j { s.link d j with via := 0 })
  else
    let stays := decide (v = c) || decide (lstate s d v = 5)
    let s := if stays then s else
      let s := leavePort d j v s
      s.setLink d j { s.link d j with via := c + 1 }
    ((List.range 12).filter fun p => decide (p ≠ c) && (decide (p ≠ v) || !stays)).foldl (fun t p => moveOn d j p t) s

/-- Choose the carrier of one port again (R366 to R369). -/
def chooseOne (now_ : Bool) (d : Nat) (s : State) (j : Nat) : State :=
  let old := carrierOf s d j
  let new := carrierRule s d j now_
  if old = new then settleOut d j new s
  else
    let s := s.setFld .linkPortStatus [d, j] F.linkPortStatus_CARRIER new
    let s := if old = j then
        linkFlag d j F.linkPortFlags_REDIRECT (s.setLink d j { s.link d j with left := true, held := false })
      else s
    let s := if new = j then linkFlag d j F.linkPortFlags_RETURNED (s.setLink d j { s.link d j with left := false }) else s
    if new = 15 then
      let v := viaOf s d j
      settleOut d j 15 (discardOut d j (if lstate s d v = 5 then s else leavePort d j v s))
    else settleOut d j new s

/-- The input switch is over when no optical port is still in its training attempt (R375). -/
def settleLaser (s : State) : State :=
  if s.bit .photonLaser [] F.photonLaser_SWITCHING &&
      (List.range 4).all (fun d => [8, 9, 10, 11].all fun p => !inTraining s d p || (s.link d p).late) then
    s.setFld .photonLaser [] F.photonLaser_SWITCHING 0
  else s

/-- Ports of the die have changed state: the carrier of each port in whose chain one of them stands is chosen again (R367). -/
def chooseAll (d : Nat) (ps : List Nat) (s : State) : State :=
  settleLaser (((List.range 12).filter fun j => (j :: chainOf s d j).any (fun a => decide (a ∈ ps))).foldl (chooseOne false d) s)

/-! Training (R358 to R365). -/

def setLState (d p n : Nat) (s : State) : State :=
  (s.setLink d p { s.link d p with since := now s }).setFld .linkPortStatus [d, p] F.linkPortStatus_STATE n

/-- The port's domains are On: the network of its die, and for an optical port its half of the interposer (R611, R614). -/
def portPowered (s : State) (d p : Nat) : Bool := s.domOn d 33 && (!optical p || s.pdomOn (1 + d / 2))

/-- A step of a port: the clocks of its die run and its domains are On (R596, R602, R614). -/
def linkStep (d : Nat) (s t : State) : Host.Outcome State Fault Refusal :=
  .next (if s.domOn d 33 && decide (s.hv .clkWait [] = 0) && s.bit .powerClkstat [] F.powerClkstat_REFSRC then t else s)

/-- When no port that was Active at the source failure has still to resume, CKSTATE becomes Running and RETURNED is set (R603,
R610). -/
def ckDone (s : State) : State :=
  if s.fld .powerClkstat [] F.powerClkstat_CKSTATE = 4 ∧
      (List.range 4).all (fun e => (List.range 12).all (fun q => s.hv .ckPort [e, q] == 0)) = true then
    ((s.setFld .powerClkstat [] F.powerClkstat_CKSTATE 1).setFld .powerClkflags [] F.powerClkflags_RETURNED 1).raiseEvent
      0 500
  else s

/-- A port that was Active at a source failure has resumed or reached its deadline (R603). -/
def ckSettle (d p : Nat) (s : State) : State := ckDone (s.setHv .ckPort [d, p] 0)

/-- A port stands in Probe (R358): TRAIN counts it; `restart` starts the deadline timer. -/
def toProbe (d p : Nat) (initial restart : Bool) (s : State) : State :=
  let x := s.link d p
  let s := s.setLink d p { x with
    initial := initial, late := if restart then false else x.late, dead := if restart then now s + 1 else x.dead,
    propose := none, theirs := none, confirm := none, commit := none,
    fails := false, badRun := 0, sameRun := 0, nakDue := false, nak := false, beat := false, heard := none }
  setLState d p 1 (s.bumpFld .linkPortCnt [d, p] F.linkPortCnt_TRAIN 1)

/-- Enter Probe (R358, R367). -/
def enterProbe (d p : Nat) (initial restart : Bool) (s : State) : State := chooseAll d [p] (toProbe d p initial restart s)

/-- A trigger of R363 moves an Active port to fast Probe. -/
def linkTrigger (d p : Nat) (s : State) : State :=
  if lstate s d p = 5 then enterProbe d p false true s else s

/-- The n of one direction (R360). -/
def dirWidth (p m : Nat) : Nat :=
  if optical p then min 4 (((List.range 18).filter (fun k => m / 2 ^ k % 2 == 1)).length / 4)
  else if m / 2 ^ 68 % 4 = 0 then 0
  else ((List.range 4).filter (groupUsable m)).length

/-- The agreement of two PROPOSE messages (R360): the new epoch and W, or whether it fails only for FLOOR_W. (DEDUCED,
unsafe: log entry 32.) -/
def agree (p : Nat) (mine theirs : TrainMsg) : (Nat × Nat) ⊕ Bool :=
  let n := min (min (dirWidth p mine.mapX) (dirWidth p theirs.mapX)) (4 - max mine.capW theirs.capW)
  if n = 0 then .inr false
  else if min mine.floorW theirs.floorW < 4 - n then .inr true
  else
    let e := max mine.epoch theirs.epoch + 1
    .inl (if e = 2 ^ 32 then 1 else e, 4 - n)

/-- The PROPOSE that a port sends (R359). -/
def proposeMsg (s : State) (d p : Nat) : TrainMsg :=
  { mapX := rxMap s d p, mapY := 0, epoch := s.fld .linkPortStatus [d, p] F.linkPortStatus_EPOCH,
    nextSeq := (s.link d p).rxSeq, w := 0, capW := s.fld .linkPortCtl [d, p] F.linkPortCtl_CAP_W,
    floorW := s.fld .linkPortCtl [d, p] F.linkPortCtl_FLOOR_W,
    noState := s.bit .linkPortStatus [d, p] F.linkPortStatus_NOSTATE }

/-- A port in Propose sends its message, unless it waits for the stale side (R364). -/
def sendPropose (d p : Nat) (s : State) : State :=
  let x := s.link d p
  if lstate s d p = 2 ∧ x.hold = false ∧ x.propose = none then
    s.setLink d p { x with propose := some (proposeMsg s d p) }
  else s

/-- PRBS31 has been sent for 2 × TW (R343, R345, R358): TW is 2^22 or 2^17 UI, and a `noc` cycle is 10 UI of an electrical
lane and 36.25 UI of a wavelength. -/
def probeOver (s : State) (d p : Nat) : Bool :=
  let x := s.link d p
  let ui := 2 * (if x.initial then 2 ^ 22 else 2 ^ 17)
  if optical p then decide (4 * ui ≤ (now s - x.since) * 145) else decide (ui ≤ (now s - x.since) * 10)

/-- PROBE_WINDOW_END: the receive lanes have been tested; a wavelength needs its rings locked and its laser line (R358,
R372, R376). -/
def probeEnd (d p : Nat) (lanes : W64) (hi : BitVec 6) (s : State) : State :=
  if lstate s d p = 1 ∧ probeOver s d p = true then
    let act := s.fld .photonLaser [] F.photonLaser_ACT
    let light := F.photonInpwr_LINE_OK.get (s.reg .photonInpwr [act])
    let mask := s.fld .linkPortRings [d, p] F.linkPortRings_RX_LOCK &&&
      s.fld .linkPortRings [partnerOf d p, p] F.linkPortRings_TX_LOCK &&& light
    let good := if optical p then lanes &&& BitVec.ofNat 64 mask else lanes
    let s := s.setReg .linkPortRxmap [d, p] good
    let s := s.setReg .linkPortRxmapHi [d, p] (if optical p then 0 else hi.setWidth 64)
    sendPropose d p (chooseAll d [p] (setLState d p 2 s))
  else s

def execProbeWindowEnd (d : Fin 4) (p : Fin 12) (lanes : W64) (hi : BitVec 6) (s : State) :
    Host.Outcome State Fault Refusal := linkStep d s (probeEnd d p lanes hi s)

/-- The agreement of a port in Propose that has sent a message and received one (R358, R360, R366). -/
def proposeAgree (d p : Nat) (mine m : TrainMsg) (s : State) : State :=
  let x := s.link d p
  match agree p mine m with
  | .inl (e, w) =>
    let c : TrainMsg := { mine with mapY := m.mapX, epoch := e, w := w }
    chooseAll d [p] (setLState d p 3 (s.setLink d p { x with theirs := some m, confirm := some c, fails := false }))
  | .inr floor =>
    chooseAll d [p] (setLState d p 3 (s.setLink d p
      { x with theirs := some m, confirm := none, fails := true, late := x.late || floor }))

/-- PROPOSE: the partner's PROPOSE arrives (R358, R360, R362 to R364). -/
def proposeIn (d p : Nat) (noise : BitVec 256) (s : State) : State :=
  match trainIn s d p 1 noise with
  | none => s
  | some m =>
    let s := s.setLink d p { s.link d p with hold := false }
    let st := lstate s d p
    if st = 2 then
      let s := sendPropose d p s
      match (s.link d p).propose with
      | some mine => proposeAgree d p mine m s
      | none => s
    else if st = 3 ∨ st = 4 then
      let s := s.setLink d p
        { s.link d p with propose := none, theirs := none, confirm := none, commit := none, fails := false }
      sendPropose d p (chooseAll d [p] (setLState d p 2 s))
    else linkTrigger d p s

def execPropose (d : Fin 4) (m : Heard) (s : State) : Host.Outcome State Fault Refusal :=
  linkStep d s (proposeIn d m.port m.noise s)

/-- A failed confirmation (R358): it counts in TRAIN, and the port returns to Probe. -/
def confirmMismatch (d p : Nat) (s : State) : State :=
  enterProbe d p (s.link d p).initial false (s.bumpFld .linkPortCnt [d, p] F.linkPortCnt_TRAIN 1)

/-- Adopt the new epoch and width with the first COMMIT (R346, R362): the port reads the plane of the new width from the next
slot 0. -/
def adopt (d p : Nat) (c m : TrainMsg) (s : State) : State :=
  let n := 4 - c.w
  let s := (s.setFld .linkPortStatus [d, p] F.linkPortStatus_EPOCH c.epoch).setFld .linkPortStatus [d, p]
    F.linkPortStatus_W c.w
  let s := (s.setLink d p { s.link d p with commit := some c }).setHv .planeNext [d, p] (c.w + 1)
  if optical p then s
  else
    let s := (s.setFld .linkPortStatus [d, p] F.linkPortStatus_GRP_RX (groupsUsed c.mapX n)).setFld .linkPortStatus [d, p]
      F.linkPortStatus_GRP_TX (groupsUsed m.mapX n)
    s.setFld .linkPortStatus [d, p] F.linkPortStatus_CLK (if c.mapX / 2 ^ 68 % 2 = 1 then 1 else 2)

/-- CONFIRM: the partner's CONFIRM arrives (R358, R359, R362, R363). -/
def confirmIn (d p : Nat) (noise : BitVec 256) (s : State) : State :=
  match trainIn s d p 2 noise with
  | none => s
  | some m =>
    if lstate s d p = 3 then
      match (s.link d p).confirm with
      | some c =>
        if m.epoch = c.epoch ∧ m.w = c.w ∧ m.mapX = c.mapY ∧ m.mapY = c.mapX then
          chooseAll d [p] (setLState d p 4 (adopt d p c m s))
        else confirmMismatch d p s
      | none => s
    else linkTrigger d p s

def execConfirm (d : Fin 4) (m : Heard) (s : State) : Host.Outcome State Fault Refusal :=
  linkStep d s (confirmIn d m.port m.noise s)

/-! Handing over, and the end of a training attempt (R355 to R361). -/

def execFrameHandover (d : Fin 4) (p : Fin 12) (net : Fin 3) (q : Fin 4) (s : State) :
    Host.Outcome State Fault Refusal :=
  linkStep d s (frameHandover d p (4 * net.val + q.val) s)

/-- Flush (R361). -/
def linkFlush (d p : Nat) (s : State) : State :=
  let s := (List.range 12).foldl (fun t j => if viaOf t d j = p then cutPartial d p j t else t) (drainReceiver d p s)
  let s := pruneFlight (s.setLink d p { s.link d p with
    retry := [], resend := 0, credits := [], earned := [], txSeq := 0, rxSeq := 0 })
  linkFlag d p F.linkPortFlags_FLUSH (s.bumpFld .linkPortCnt [d, p] F.linkPortCnt_FLUSH 1)

/-- Drop the frames before a sequence number from a retry buffer. -/
def ackTo (l : List SentFrame) (seq : Nat) : List SentFrame :=
  if l.any (fun f => f.seq == seq) then l.dropWhile (fun f => f.seq != seq) else []

/-- Resume (R361): the retry buffer is sent again from the partner's NEXTSEQ. -/
def linkResume (d p nextSeq : Nat) (s : State) : State :=
  let x := s.link d p
  let r := ackTo x.retry nextSeq
  s.setLink d p { x with retry := r, resend := r.length }

/-- The port becomes Active with the agreement c (R361, R362, R367, R377). -/
def commitPort (d p : Nat) (mine m c : TrainMsg) (s : State) : State :=
  let s := if mine.noState || m.noState then linkFlush d p s else linkResume d p m.nextSeq s
  let x := s.link d p
  let n := 4 - c.w
  let sp := sparesUsed p c.mapX n + 2 ^ 18 * sparesUsed p m.mapX n
  let s := if x.cw ≠ c.w then linkFlag d p F.linkPortFlags_WCHG s else s
  let s := if sp &&& x.spares ≠ sp then linkFlag d p F.linkPortFlags_SPARE s else s
  let s := s.setLink d p { s.link d p with
    spares := sp, cw := c.w, late := false, dead := 0, held := false, badRun := 0, sameRun := 0,
    propose := none, theirs := none, confirm := none, goodAt := now s, beatAt := now s, commitAt := now s }
  chooseAll d [p] (setLState d p 5 ((s.setHv .echo [d, p] 1).setFld .linkPortStatus [d, p] F.linkPortStatus_NOSTATE 0))

/-- COMMIT: the partner's COMMIT and a good frame arrive (R358, R361 to R363). -/
def commitIn (d p : Nat) (noise : BitVec 256) (s : State) : State :=
  match trainIn s d p 3 noise with
  | none => s
  | some k =>
    if lstate s d p = 4 then
      match (s.link d p).propose, (s.link d p).theirs, (s.link d p).confirm with
      | some mine, some m, some c => if k.epoch = c.epoch ∧ k.w = c.w then commitPort d p mine m c s else s
      | _, _, _ => s
    else if k.epoch ≠ s.fld .linkPortStatus [d, p] F.linkPortStatus_EPOCH then linkTrigger d p s
    else s

def execCommit (d : Fin 4) (m : Heard) (s : State) : Host.Outcome State Fault Refusal :=
  let t := commitIn d m.port m.noise s
  linkStep d s (if lstate s d m.port = 4 ∧ lstate t d m.port = 5 then ckSettle d m.port t else t)

/-- TRAINING_TIMEOUT: 50 µs without a valid PROPOSE, 100 µs after an agreement that fails, or 10 µs in Confirm or Commit
have passed (R358). -/
def trainingTimeout (d p : Nat) (s : State) : State :=
  let st := lstate s d p
  let x := s.link d p
  let limit := if st = 2 then 50 else if st = 3 ∧ x.fails = true then 100 else 10
  if !passed s x.since limit then s
  else if st = 3 ∧ x.fails = false then confirmMismatch d p s
  else if st = 2 ∨ st = 3 ∨ st = 4 then enterProbe d p x.initial false s
  else s

def execTrainingTimeout (d : Fin 4) (p : Fin 12) (s : State) : Host.Outcome State Fault Refusal :=
  linkStep d s (trainingTimeout d p s)

/-- DEADLINE: 2 ms of training without a commit (R366). -/
def deadline (d p : Nat) (s : State) : State :=
  let x := s.link d p
  if inTraining s d p = true ∧ x.dead ≠ 0 ∧ passed s (x.dead - 1) 2000 = true then
    ckSettle d p (chooseAll d [p] (linkFlag d p F.linkPortFlags_TFAIL (s.setLink d p { x with late := true, dead := 0 })))
  else s

def execDeadline (d : Fin 4) (p : Fin 12) (s : State) : Host.Outcome State Fault Refusal := linkStep d s (deadline d p s)

/-- CARRIER_SWITCH: every flit of XPORT p at the old carrier has been sent and X cycles have passed (R368); one that has left
Active holds none any more (`settleOut`). -/
def carrierSwitch (d p : Nat) (s : State) : State :=
  let x := s.link d p
  let c := carrierOf s d p
  let v := viaOf s d p
  if c ≠ 15 ∧ v ≠ c ∧ x.out.all (fun f => f.at_ != v) = true ∧ (lstate s d v ≠ 5 ∨ x.drainAt + crossX v ≤ now s) then
    s.setLink d p { x with via := c + 1 }
  else s

def execCarrierSwitch (d : Fin 4) (p : Fin 12) (s : State) : Host.Outcome State Fault Refusal :=
  linkStep d s (carrierSwitch d p s)

/-- HOLD_EXPIRY: the port has been Active for 2^HOLD_EXP µs since its last commit (R367). -/
def holdExpiry (d p : Nat) (s : State) : State :=
  let h := s.fld .linkPortCtl [d, p] F.linkPortCtl_HOLD_EXP
  if lstate s d p = 5 ∧ h ≠ 0 ∧ passed s (s.link d p).commitAt (2 ^ min h 30) = true then
    chooseAll d [p] (s.setLink d p { s.link d p with held := true })
  else s

def execHoldExpiry (d : Fin 4) (p : Fin 12) (s : State) : Host.Outcome State Fault Refusal := linkStep d s (holdExpiry d p s)

/-- A receive lane, wavelength or clock lane is in use (R343, R346): clock lanes are 68 and 69. -/
def laneInUse (s : State) (d p lane : Nat) : Bool :=
  let n := 4 - s.fld .linkPortStatus [d, p] F.linkPortStatus_W
  let m := rxMap s d p
  if optical p then decide (wavesUsed m n / 2 ^ lane % 2 = 1)
  else if 68 ≤ lane then decide (s.fld .linkPortStatus [d, p] F.linkPortStatus_CLK = lane - 67)
  else
    let rx := s.fld .linkPortStatus [d, p] F.linkPortStatus_GRP_RX
    if lane < 64 then decide (rx / 2 ^ (lane / 16) % 2 = 1) && decide (m / 2 ^ lane % 2 = 1)
    else decide (sparesUsed p m n / 2 ^ (lane - 64) % 2 = 1)

/-- LOSS_OF_SIGNAL on a lane, wavelength or clock lane (R363). -/
def execLossOfSignal (d : Fin 4) (p : Fin 12) (lane : Fin 70) (s : State) : Host.Outcome State Fault Refusal :=
  linkStep d s (if laneInUse s d p lane then linkTrigger d p s else s)

/-- NO_GOOD_FRAME for 1 µs (R363). -/
def execNoGoodFrame (d : Fin 4) (p : Fin 12) (s : State) : Host.Outcome State Fault Refusal :=
  linkStep d s (if passed s (s.link d p).goodAt 1 then linkTrigger d p s else s)

/-- PRBS31_RECEIVED from the partner in Probe (R363, R364). -/
def execPrbs31Received (d : Fin 4) (p : Fin 12) (s : State) : Host.Outcome State Fault Refusal :=
  linkStep d s (if lstate s (partnerOf d p) p = 1 then
      sendPropose d p (linkTrigger d p (s.setLink d p { s.link d p with hold := false }))
    else s)

/-- A write of `port[p].ctl` (R358, R363, R367). -/
def linkCtlWrite (d p : Nat) (v : W64) (s : State) : Nat × State :=
  let was := s.bit .linkPortCtl [d, p] F.linkPortCtl_DISABLE
  let s := s.setReg .linkPortCtl [d, p] (v &&& 0xF03F03C1)
  let off := decide (F.linkPortCtl_DISABLE.get v = 1)
  let s :=
    if off && !was then
      let x := s.link d p
      chooseAll d [p] (setLState d p 6 (s.setLink d p
        { x with propose := none, theirs := none, confirm := none, commit := none, dead := 0, beat := false, heard := none }))
    else if !off && was && decide (lstate s d p = 6) then
      if portPowered s d p then enterProbe d p false true s else setLState d p 0 s
    else s
  let s := if F.linkPortCtl_RETRAIN.get v = 1 then linkTrigger d p s else s
  (OK, if F.linkPortCtl_RETURN.get v = 1 then chooseOne true d s p else s)

/-- LINK_RETRAIN: `ctl` written with RETRAIN 1 (R363). -/
def execLinkRetrain (who : Who) (d : Fin 4) (p : Fin 12) (v : W64) (s : State) : Host.Outcome State Fault Refusal :=
  .next (regCommand who .linkPortCtl [d, p] (linkCtlWrite d p (withBit F.linkPortCtl_RETRAIN v)) s)

/-- DISABLE: `ctl` written with DISABLE as given (R358). -/
def execDisable (who : Who) (d : Fin 4) (p : Fin 12) (v : W64) (s : State) : Host.Outcome State Fault Refusal :=
  .next (regCommand who .linkPortCtl [d, p] (linkCtlWrite d p v) s)

/-- CARRIER_RETURN: `ctl` written with RETURN 1 (R367). -/
def execCarrierReturn (who : Who) (d : Fin 4) (p : Fin 12) (v : W64) (s : State) : Host.Outcome State Fault Refusal :=
  .next (regCommand who .linkPortCtl [d, p] (linkCtlWrite d p (withBit F.linkPortCtl_RETURN v)) s)

/-! Frames (R348 to R354). -/

/-- The slot is live at a width step (R195). -/
def slotLive (w n : Nat) : Bool :=
  match w with
  | 0 => true
  | 1 => decide (n % 4 ≠ 3)
  | 2 => decide (n % 2 = 0)
  | _ => decide (n % 4 = 0)

/-- The slot in which the crossing ports of a die stand (R192). -/
def slotNow (s : State) (d : Nat) : Nat := s.hv .portSlot [d]

/-- The owner code of the present slot in the plane that the port reads (R192, R196). -/
def xportOwner (s : State) (d p : Nat) : Nat :=
  let w := s.fld .nocXportImpCs [d, p] F.nocXportImpCs_PLANE
  let n := slotNow s d
  (s.reg .nocXportLiveWord [d, p, w, n / 16]).toNat / 16 ^ (n % 16) % 16

/-- The sender has a credit for a queue (R353). -/
def hasCredit (x : LinkState) (q : Nat) : Bool := decide (12 ≤ q) || decide (x.credits.get 0 q < bufSize q)

/-- The oldest of two flits (R197): among flits of equal age the higher priority, then the response network, then the lower
owner code; a channel without a priority comes last. (DESIGN CHOICE, unsafe: log entry 79.) -/
def before (a b : OutFlit) : Bool :=
  let rank (f : OutFlit) : Nat := if f.q < 8 then 8 - queueRank f.q else f.q + 1
  decide (a.stamp < b.stamp) || (decide (a.stamp = b.stamp) && decide (rank a < rank b))

/-- The first flit by an order. -/
def firstFlit (l : List (Nat × OutFlit)) : Option (Nat × OutFlit) :=
  l.foldl (fun a e => match a with
    | none => some e
    | some b => if before e.2 b.2 then some e else some b) none

/-- The flit of a memory queue that a port sends next, with the port whose traffic it is: the flits of a packet stay
together, and traffic that waits for CARRIER_SWITCH is not sent (R323, R324, R368). -/
def readyFlit (s : State) (d p q : Nat) : Option (Nat × OutFlit) :=
  let firsts := (List.range 12).filterMap fun j =>
    if viaOf s d j = p then ((s.link d j).out.find? (fun f => f.q == q && f.at_ == p)).map (j, ·) else none
  match firsts.find? (fun e => !e.2.head) with
  | some e => some e
  | none => firstFlit firsts

/-- A flit of one of channels 8 to 11 is ready to leave a die for the die behind port p (R197, R370). -/
def sideReady (d p : Nat) (f : SideFlit) (s : State) : State :=
  let k := (d, partnerOf d p)
  let o : OutFlit :=
    { q := 8 + f.chan.val, head := true, flit := f.flit.toNat, stamp := min f.stamp (now s), at_ := p }
  { s with sides := s.sides.set k (s.sides.get [] k ++ [o]) }

/-- The first flit that waits in each of channels 8 to 11, where port p may send it now. -/
def sideFirsts (s : State) (d p : Nat) (may : Nat → Bool) : List (Nat × OutFlit) :=
  ((List.range 4).map (8 + ·)).filterMap fun q =>
    if may q then ((s.sides.get [] (d, partnerOf d p)).find? (fun f => f.q == q)).map (p, ·) else none

/-- A flit of channels 8 to 11 has been sent. -/
def sideSent (d p : Nat) (f : OutFlit) (s : State) : State :=
  let k := (d, partnerOf d p)
  let l := (s.sides.get [] k).erase f
  { s with sides := if l = [] then s.sides.erase k else s.sides.set k l }

/-- Port p of die d sends channel q (8 to 11): it is the lowest-numbered Active port to its die, and the last flit of the
channel on the port before it has been handed over (R370). -/
def sidePort (s : State) (d p q : Nat) : Bool :=
  let o := s.hv .chanPort [d, partnerOf d p, q]
  decide (((List.range 12).find? fun a => lstate s d a == 5 && portTo d a == portTo d p) = some p) &&
    (decide (o = 0) || decide (o = p + 1) ||
      ((s.link d (o - 1)).retry.all (fun f => f.q != q) && (s.link (partnerOf d p) (o - 1)).rxq.all (fun f => f.q != q)))

/-- The flit of a live slot (R197): the owner's, else the oldest that is ready with a credit. -/
def slotFlit (s : State) (d p : Nat) : Option (Nat × OutFlit) :=
  let x := s.link d p
  if slotLive (s.fld .nocXportImpCs [d, p] F.nocXportImpCs_PLANE) (slotNow s d) then
    let mem := ((List.range 8).filter (hasCredit x)).filterMap (readyFlit s d p)
    let all := mem ++ sideFirsts s d p (fun q => hasCredit x q && sidePort s d p q)
    match all.find? (fun e => e.2.q == xportOwner s d p) with
    | some e => some e
    | none => firstFlit all
  else none

/-- A heartbeat (R350), and a link-control frame that only returns credits. -/
def heartbeatFlit (s : State) (d p : Nat) : Nat :=
  1 + s.fld .linkPortStatus [d, p] F.linkPortStatus_EPOCH * 2 ^ 16 + s.fld .linkPortStatus [d, p] F.linkPortStatus_W * 2 ^ 48 +
    s.fld .linkPortStatus [d, p] F.linkPortStatus_GRP_TX * 2 ^ 50 +
    s.fld .linkPortStatus [d, p] F.linkPortStatus_GRP_RX * 2 ^ 54

/-- Make a new sequenced frame: it enters the retry buffer, takes a credit and returns credits of queue `crd` (R349,
R353). -/
def newFrame (d p : Nat) (f : OutFlit) (j crd : Nat) (s : State) : SentFrame × State :=
  let x := s.link d p
  let n := if crd < 12 then min 7 (x.earned.get 0 crd) else 0
  let fr : SentFrame :=
    { seq := x.txSeq, q := f.q, crdQ := if n = 0 then 15 else crd, crdN := n, head := f.head, flit := f.flit, pid := j,
      first := now s, last := now s, hdr := f.hdr, idx := f.idx }
  let x := { x with
    txSeq := (x.txSeq + 1) % 256, retry := x.retry ++ [fr], resend := if x.resend = 0 then 0 else x.resend + 1,
    credits := if f.q < 12 then x.credits.set f.q (x.credits.get 0 f.q + 1) else x.credits,
    earned := if n = 0 then x.earned else x.earned.set crd (x.earned.get 0 crd - n) }
  (fr, s.setLink d p x)

/-- A frame that is neither sequenced nor kept: it carries the SEQ of the last sequenced frame (R348, R349). -/
def looseFrame (x : LinkState) (q flit p : Nat) : SentFrame :=
  { seq := (x.txSeq + 255) % 256, q := q, crdQ := 15, crdN := 0, head := false, flit := flit, pid := p, first := 0, last := 0 }

/-- A link-control frame has something to say: a heartbeat, or credits to return (R350, R353). -/
def controlDue (x : LinkState) : Bool :=
  (x.beat || (List.range 12).any (fun q => decide (x.earned.get 0 q ≠ 0))) && decide (x.retry.length < 255)

/-- A port discards a packet whose header it finds uncorrectable in its buffer (R385): the flits of it that are still to be
sent. -/
def dropOut (d j hdr : Nat) (s : State) : State :=
  let x := s.link d j
  pruneFlight (s.setLink d j { x with out := x.out.filter (fun g => g.hdr != hdr || decide (8 ≤ g.q)) })

/-- The flit of the present slot becomes a new frame: one for each slot (R192, R351). The state alone changes when the header
of its packet is lost. -/
def slotFrame (d p crd : Nat) (s : State) : Option SentFrame × State :=
  let x := s.link d p
  if 255 ≤ x.retry.length ∨ s.hv .portSent [d, p] = now s + 1 then (none, s)
  else match slotFlit s d p with
    | none => (none, s)
    | some (j, f) =>
      let s := s.setHv .portSent [d, p] (now s + 1)
      if 8 ≤ f.q then
        let o := newFrame d p f j crd (sideSent d p f (s.setHv .chanPort [d, partnerOf d p, f.q] (p + 1)))
        (some o.1, o.2)
      else
        let lost := headLost s d (64 + p) f.hdr f.idx
        let s := readFlit d (64 + p) f.hdr f.idx false s
        if lost then (none, dropOut d j f.hdr s)
        else
          let y := s.link d j
          let o := newFrame d p f j crd (s.setLink d j { y with out := y.out.erase f, drainAt := now s })
          (some o.1, o.2)

/-- A frame is read from the retry buffer (R385): in place of the first flit of a packet whose header is lost, a link-control
frame takes its number, the credit that it took is free again, and the rest of its packet is discarded. -/
def readRetry (d p : Nat) (f : SentFrame) (s : State) : SentFrame × State :=
  if f.q < 8 then
    let lost := headLost s d (64 + p) f.hdr f.idx
    let s := readFlit d (64 + p) f.hdr f.idx true s
    if lost then
      let x := s.link d p
      ({ f with q := 12, head := false, flit := 0 },
        dropOut d f.pid f.hdr (s.setLink d p { x with credits := x.credits.set f.q (x.credits.get 0 f.q - 1) }))
    else (f, s)
  else (f, s)

/-- The frame that a port sends (R351): none when it has none of that kind, or one that comes before it. -/
def sendFrame (d p : Nat) (send : FrameSend) (crd : Nat) (s : State) : Option SentFrame × State :=
  let x := s.link d p
  match send with
  | .slot side => slotFrame d p crd (match side with | some f => sideReady d p f s | none => s)
  | .resend =>
    if x.resend = 0 then (none, s)
    else
      let i := x.retry.length - x.resend
      match x.retry[i]? with
      | none => (none, s)
      | some f =>
        let r := readRetry d p { f with last := now s } s
        let y := r.2.link d p
        (some r.1, r.2.setLink d p { y with resend := x.resend - 1, retry := y.retry.set i r.1 })
  | .control =>
    if x.resend ≠ 0 ∨ x.nakDue = true ∨ 255 ≤ x.retry.length ∨
        (x.beat = false ∧ (if crd < 12 then x.earned.get 0 crd else 0) = 0) then (none, s)
    else
      let o := newFrame d p
        { q := 12, head := false, flit := if x.beat then heartbeatFlit s d p else 0, stamp := 0, at_ := p } p crd
        (s.setLink d p { x with beat := false })
      (some o.1, o.2)
  | .null => if x.resend ≠ 0 ∨ x.nakDue = true ∨ controlDue x = true then (none, s) else (some (looseFrame x 13 0 p), s)

/-- A frame is discarded (R349, R363): 64 in succession, or one at four successive transmissions, retrain the port. -/
def discardFrame (d p : Nat) (same : Bool) (s : State) : State :=
  let x := s.link d p
  let y := { x with badRun := x.badRun + 1, sameRun := if same then x.sameRun + 1 else x.sameRun }
  let s := s.setLink d p y
  if 64 ≤ y.badRun ∨ 4 ≤ y.sameRun then linkTrigger d p s else s

/-- A frame is discarded as a CRC failure (R349): ERRS counts it. -/
def badFrame (d p : Nat) (same : Bool) (s : State) : State :=
  discardFrame d p same (s.bumpFld .linkPortErrs [d, p] F.linkPortErrs_CRC 1)

/-- The acknowledgement in a good frame (R348): the frames up to ACK leave the retry buffer. -/
def takeAck (d p ack : Nat) (s : State) : State :=
  let x := { s.link d p with goodAt := now s }
  if x.retry.any (fun f => f.seq == ack) then
    let r := (x.retry.dropWhile (fun f => f.seq != ack)).drop 1
    s.setLink d p { x with retry := r, resend := min x.resend r.length }
  else s.setLink d p x

/-- A sequenced frame is received (R349, R353, R354). -/
def receiveFrame (d p : Nat) (f : SentFrame) (b : BitVec 576) (s : State) : State :=
  let x := s.link d p
  if !frameGood b then
    badFrame d p (decide (f.seq = x.rxSeq)) (s.setLink d p { x with nakDue := x.nakDue || !x.nak, nak := true })
  else
    let s := takeAck d p (frameFld b 528 8) s
    let x := s.link d p
    if frameFld b 536 8 ≠ x.rxSeq then
      discardFrame d p false (s.setLink d p { x with nakDue := x.nakDue || !x.nak, nak := true })
    else
      let q := frameFld b 524 4
      let cq := frameFld b 520 4
      let fr : SentFrame :=
        { seq := x.rxSeq, q := q, crdQ := cq, crdN := frameFld b 517 3, head := b.getLsbD 512, flit := frameFld b 0 512,
          pid := f.pid, first := f.first, last := f.first, hdr := f.hdr, idx := f.idx }
      s.setLink d p { x with
        rxSeq := (x.rxSeq + 1) % 256, nak := false, nakDue := false, badRun := 0, sameRun := 0,
        credits := if cq < 12 then x.credits.set cq (x.credits.get 0 cq - fr.crdN) else x.credits,
        rxq := if q < 12 then x.rxq ++ [fr] else x.rxq,
        heard := if q = 12 ∧ fr.flit % 16 = 1 then some fr.flit else x.heard }

/-- A null frame is received (R349): a good one carries only its ACK. -/
def receiveNull (d p : Nat) (b : BitVec 576) (s : State) : State :=
  if frameGood b then
    let s := takeAck d p (frameFld b 528 8) s
    s.setLink d p { s.link d p with badRun := 0 }
  else badFrame d p false s

/-- The ACK that a port sends: SEQ of the last frame received good and in order (R348). -/
def ackOf (x : LinkState) : Nat := (x.rxSeq + 255) % 256

/-- SEQUENCED_FRAME: port p of die d sends a frame, which reaches the partner with the errors of its lanes (R347, R349 to
R354). -/
def sequencedFrame (d p : Nat) (send : FrameSend) (crd : Nat) (noise : List LaneFlip) (s : State) : State :=
  if lstate s d p = 5 then
    match sendFrame d p send crd s with
    | (none, t) => t
    | (some f, t) =>
      let e := partnerOf d p
      let b := frameBits f (ackOf (t.link d p)) ^^^ noiseBits t d p noise
      if lstate t e p ≠ 5 then t
      else if f.q = 13 then receiveNull e p b t
      else receiveFrame e p f b t
  else s

def execSequencedFrame (d : Fin 4) (p : Fin 12) (send : FrameSend) (crd : Fin 16) (noise : List LaneFlip) (s : State) :
    Host.Outcome State Fault Refusal := linkStep d s (sequencedFrame d p send crd noise s)

/-- Begin a resend of the last n frames of the retry buffer (R354). -/
def beginResend (d p n : Nat) (s : State) : State :=
  (s.setLink d p { s.link d p with resend := n }).bumpFld .linkPortErrs [d, p] F.linkPortErrs_RETRY 1

/-- NAK: the partner, which has no frame to resend, sends its NAK, and it reaches port p of die d (R349 to R351, R354). -/
def nakIn (d p : Nat) (noise : List LaneFlip) (s : State) : State :=
  let e := partnerOf d p
  let y := s.link e p
  if lstate s d p = 5 ∧ lstate s e p = 5 ∧ y.nakDue = true ∧ y.resend = 0 then
    let s := s.setLink e p { y with nakDue := false }
    let b := frameBits (looseFrame y 14 y.rxSeq p) (ackOf y) ^^^ noiseBits s e p noise
    if frameGood b then
      let s := takeAck d p (frameFld b 528 8) s
      let x := s.link d p
      beginResend d p (ackTo x.retry (frameFld b 0 8)).length (s.setLink d p { x with badRun := 0 })
    else badFrame d p false s
  else s

def execNak (d : Fin 4) (p : Fin 12) (noise : List LaneFlip) (s : State) : Host.Outcome State Fault Refusal :=
  linkStep d s (nakIn d p noise s)

/-- RETRY_TIMEOUT: the oldest frame has waited 256 `noc` cycles for its acknowledgement (R354). -/
def retryTimeout (d p : Nat) (s : State) : State :=
  let x := s.link d p
  match x.retry with
  | [] => s
  | f :: _ =>
    if lstate s d p = 5 ∧ x.resend = 0 ∧ f.last + 256 ≤ now s then beginResend d p x.retry.length s else s

def execRetryTimeout (d : Fin 4) (p : Fin 12) (s : State) : Host.Outcome State Fault Refusal :=
  linkStep d s (retryTimeout d p s)

/-- HEARTBEAT_SEND: 1,600 `noc` cycles after the last a heartbeat is due (R350). -/
def heartbeatSend (d p : Nat) (s : State) : State :=
  let x := s.link d p
  if lstate s d p = 5 ∧ passed s x.beatAt 1 = true then s.setLink d p { x with beat := true, beatAt := now s } else s

def execHeartbeatSend (d : Fin 4) (p : Fin 12) (s : State) : Host.Outcome State Fault Refusal :=
  linkStep d s (heartbeatSend d p s)

/-- HEARTBEAT: a received heartbeat is compared with the port's own agreement (R350, R364). -/
def heartbeatIn (d p : Nat) (s : State) : State :=
  let x := s.link d p
  match x.heard with
  | none => s
  | some h =>
    let s := s.setLink d p { x with heard := none }
    let mine := s.fld .linkPortStatus [d, p] F.linkPortStatus_EPOCH
    let theirs := h / 2 ^ 16 % 2 ^ 32
    if lstate s d p ≠ 5 ∨ (theirs = mine ∧ h / 2 ^ 48 % 4 = s.fld .linkPortStatus [d, p] F.linkPortStatus_W ∧
        h / 2 ^ 50 % 16 = s.fld .linkPortStatus [d, p] F.linkPortStatus_GRP_RX ∧
        h / 2 ^ 54 % 16 = s.fld .linkPortStatus [d, p] F.linkPortStatus_GRP_TX) then s
    else
      let s := linkFlag d p F.linkPortFlags_EPOCH_MIS s
      if theirs < mine then s.setLink d p { s.link d p with hold := true } else linkTrigger d p s

def execHeartbeat (d : Fin 4) (p : Fin 12) (s : State) : Host.Outcome State Fault Refusal := linkStep d s (heartbeatIn d p s)

/-! The optical path (R372 to R377). -/

/-- The lock bits of the rings of one direction. -/
def ringFld (rx : Bool) : Fld := if rx then F.linkPortRings_RX_LOCK else F.linkPortRings_TX_LOCK

def setRing (d p : Nat) (rx : Bool) (k : Nat) (on : Bool) (s : State) : State :=
  let v := s.fld .linkPortRings [d, p] (ringFld rx)
  s.setFld .linkPortRings [d, p] (ringFld rx) (v - v / 2 ^ k % 2 * 2 ^ k + on.toNat * 2 ^ k)

/-- Line k of the active input is lit. -/
def lineLit (s : State) (k : Nat) : Bool :=
  decide (F.photonInpwr_LINE_OK.get (s.reg .photonInpwr [s.fld .photonLaser [] F.photonLaser_ACT]) / 2 ^ k % 2 = 1)

/-- RING_LOCK (R372). -/
def execRingLock (d : Fin 4) (p : Fin 12) (rx : Bool) (k : Fin 18) (s : State) : Host.Outcome State Fault Refusal :=
  linkStep d s (if optical p && lineLit s k then setRing d p rx k true s else s)

/-- RING_LOSS_OF_LOCK: the wavelength fails in that direction, and the port retrains (R363, R372). -/
def execRingLossOfLock (d : Fin 4) (p : Fin 12) (rx : Bool) (k : Fin 18) (s : State) :
    Host.Outcome State Fault Refusal :=
  linkStep d s (if optical p && decide (s.fld .linkPortRings [d, p] (ringFld rx) / 2 ^ k.val % 2 = 1) then
      let used := if rx then laneInUse s d p k else laneInUse s (partnerOf d p) p k
      let s := setRing d p rx k false s
      if used then linkTrigger d p s else s
    else s)

/-- RING_RETRY: a failed ring tries to lock again (R372). -/
def execRingRetry (d : Fin 4) (p : Fin 12) (rx : Bool) (k : Fin 18) (ok : Bool) (s : State) :
    Host.Outcome State Fault Refusal :=
  linkStep d s (if optical p && ok && lineLit s k then setRing d p rx k true s else s)

/-- Set a flag of `lflags` and raise the photonics event (R377). -/
def photonFlag (f : Fld) (s : State) : State := (s.setFld .photonLflags [] f 1).raiseEvent 0 496

/-- The lines of the active input have changed: every optical port leaves Active (R375). -/
def opticalRetrain (s : State) : State :=
  (List.range 4).foldl (fun t d => [8, 9, 10, 11].foldl (fun t p => linkTrigger d p t) t) s

def inputOk (s : State) (b : Nat) : Bool :=
  if b = 0 then s.bit .photonLaser [] F.photonLaser_A_OK else s.bit .photonLaser [] F.photonLaser_B_OK

/-- Switch to an input (R374, R375): the rings lose the old lines. -/
def laserSwitch (b : Nat) (s : State) : State :=
  let s := (s.setFld .photonLaser [] F.photonLaser_ACT b).setFld .photonLaser [] F.photonLaser_SWITCHING 1
  let s := (List.range 4).foldl (fun t d => [8, 9, 10, 11].foldl (fun t p => t.setReg .linkPortRings [d, p] 0) t) s
  settleLaser (photonFlag F.photonLflags_SWITCHED (opticalRetrain s))

/-- LINE_LOSS: line k of input A (false) or B (true) is lost (R374 to R376). -/
def lineLoss (b : Bool) (k : Nat) (s : State) : State :=
  let i := b.toNat
  let act := s.fld .photonLaser [] F.photonLaser_ACT
  let v := F.photonInpwr_LINE_OK.get (s.reg .photonInpwr [i])
  if v / 2 ^ k % 2 = 0 then s
  else
    let s := s.setFld .photonInpwr [i] F.photonInpwr_LINE_OK (v - 2 ^ k)
    let was := inputOk s i
    let s := s.setFld .photonLaser [] (if b then F.photonLaser_B_OK else F.photonLaser_A_OK) 0
    let s := if was then photonFlag (if b then F.photonLflags_B_LOS else F.photonLflags_A_LOS) s else s
    if i = act then
      let s := photonFlag F.photonLflags_LINE s
      if was && s.bit .photonLaser [] F.photonLaser_AUTO && inputOk s (1 - i) then laserSwitch (1 - i) s
      else opticalRetrain s
    else s

def execLineLoss (b : Bool) (k : Fin 18) (s : State) : Host.Outcome State Fault Refusal := .next (lineLoss b k s)

/-- INPUT_OK: every line of an input is lit (R374, R375). -/
def inputBecomesOk (b : Bool) (power : BitVec 16) (s : State) : State :=
  let i := b.toNat
  let s := s.setReg .photonInpwr [i] (BitVec.ofNat 64 (power.toNat * 2 ^ 32 + (2 ^ 18 - 1)))
  let s := s.setFld .photonLaser [] (if b then F.photonLaser_B_OK else F.photonLaser_A_OK) 1
  let act := s.fld .photonLaser [] F.photonLaser_ACT
  if i = act then opticalRetrain s
  else if s.bit .photonLaser [] F.photonLaser_AUTO && !inputOk s act then laserSwitch i s
  else s

def execInputOk (b : Bool) (power : BitVec 16) (s : State) : Host.Outcome State Fault Refusal :=
  .next (inputBecomesOk b power s)

/-- A write of `laser` (R374). -/
def laserWrite (v : W64) (s : State) : Nat × State :=
  let s := plainWrite .photonLaser [] v s
  let sel := F.photonLaser_SEL.get v
  (OK, if inputOk s sel ∧ sel ≠ s.fld .photonLaser [] F.photonLaser_ACT then laserSwitch sel s else s)

/-- LASER_SEL: `laser` written (R374). -/
def execLaserSel (who : Who) (v : W64) (s : State) : Host.Outcome State Fault Refusal :=
  .next (regCommand who .photonLaser [] (laserWrite v) s)

/-- The Down ports of a die of a kind, with their domains On, begin their initial training (R358). -/
def linksStart (d : Nat) (f : Nat → Bool) (s : State) : State :=
  let ps := (List.range 12).filter fun p =>
    f p && decide (lstate s d p = 0) && portPowered s d p && !s.domOff (partnerOf d p) 33
  if ps = [] then s else chooseAll d ps (ps.foldl (fun t p => toProbe d p true true t) s)

/-- The ports of a die, and those of the other dies that lead to it, begin their initial training (R358). -/
def linksUp (d : Nat) (s : State) : State :=
  (List.range 4).foldl (fun t e => linksStart e (fun p => e == d || partnerOf e p == d) t) s

/-- Every Down port that is powered begins its initial training, those of a die together (R358, R625). -/
def linksAll (s : State) : State := (List.range 4).foldl (fun t d => linksStart d (fun _ => true) t) s

/-! One `noc` cycle of the crossing ports (R192, R196, R355, R356). -/

/-- The frames that are due in the present cycle have been handed over when it ends. -/
def dueHandovers (d : Nat) (s : State) : State :=
  (List.range 12).foldl (fun t p => (List.range 12).foldl (fun t q => frameHandover d p q t) t) s

end Sys2Proof.Machine
end

