-- ==== Sys2Proof/Machine/Fabric.lean ====
section
/-! DEFINITION. The configuration planes of a galley as memory (R528, R546), its user clocks and user PLLs (R272 to R280),
block RAM and queue controllers (R259 to R271), and the I/O banks and delay lines (R288 to R300). -/

namespace Sys2Proof.Machine
open Sys2Proof

/-! Planes (R528, R546, R547). -/

/-- The plane that is live. -/
def liveOf (s : State) (d g : Nat) : Nat := s.hv .livePlane [d, g] % 2

/-- A bit of the cell frames of a plane (FA 0x0000 to 0x5FFF). -/
def planeBit (s : State) (d g pl o : Nat) : Bool := (s.mem.readN (frameBase d g pl + o / 8 % 0x600000) 1).testBit (o % 8)

/-- The bits of the select of a multiplexer with n inputs: the smallest k with 2^k ≥ n + 1 (R245). -/
def selectWidth (n : Nat) : Nat := if n = 0 then 0 else Nat.log2 n + 1

/-- The bits of a plane that a cell takes, least significant first: a select and the declaration of a quoin lie in one frame.
(DESIGN CHOICE, safe: log entry 29.) -/
def cellBits (c : Cell) : List Nat :=
  let code (n : Nat) : List Nat :=
    (List.range n).map fun i => 2048 * (Config.codeFrame c % 0x6000) + Config.codeBit c i % 2048
  match c with
  | .select w => code (selectWidth (Config.wireInputs w).length)
  | .quoin _ => code 2
  | c => Config.frameMap c

/-- What a configuration cell of a plane holds (R528, R546), the frame map giving its bits. -/
def cellIn (s : State) (d g pl : Nat) (c : Cell) : Nat :=
  (cellBits c).foldr (fun o a => (planeBit s d g pl o).toNat + 2 * a) 0

/-- What a configuration cell of the live plane holds. -/
def cell (s : State) (d g : Nat) (c : Cell) : Nat := cellIn s d g (liveOf s d g) c

/-- A storage element of a galley that a load, a re-initialisation or a swap clears: the user registers return to their initial
values, the wire registers and the seam receive stages to 0 (R238, R247, R253, R550). -/
def FabKey.fresh (d g : Nat) : FabKey → Bool
  | .reg d' g' _ _ _ | .wire d' g' _ | .seamRx d' g' _ _ => decide (d' = d) && decide (g' = g)
  | _ => false

/-- Clear them: an element that is not listed holds its initial value. (DESIGN CHOICE, unsafe: log entry 61.) -/
def freshRegs (d g : Nat) (s : State) : State := { s with fab := s.fab.keep (fun k => !k.fresh d g) }

/-- The data array of block b that belongs to the live (0) or the shadow (1) side (R546, R551). -/
def arrayBase (s : State) (d g b side : Nat) : Nat :=
  frameBase d g ((liveOf s d g + s.hv .ramSkew [d, g, b] + side) % 2) + 0x600000 + 4096 * b

/-- The image of a pin in the pin frame of the live plane (R292, R528). -/
def pinImage (s : State) (d g off : Nat) : Nat :=
  s.mem.readN (frameBase d g (liveOf s d g) + 0x7E00 * 256 + off) 4

/-- `pin[n].cfg` and `qpin[m].cfg` (R292). -/
def pinCfg (s : State) (d n : Nat) : W64 := BitVec.ofNat 64 (pinImage s d (n / 6) (8 * (n % 6)))
def qpinCfg (s : State) (d m : Nat) : W64 := BitVec.ofNat 64 (pinImage s d (m / 4) (48 + 8 * (m % 4)))

/-- A self-test of the galley runs (R629). -/
def galleyTested (s : State) (d g : Nat) : Bool :=
  decide (s.fld .bistStatus [d] F.bistStatus_STATE ≠ 0) && decide (s.hv .bistKind [d] = 0) &&
    decide (s.hv .bistUnit [d] = g)

def galleyClosed (s : State) (d g : Nat) : Bool := s.bit .galleyQuoin [d, g] F.galleyQuoin_CLOSED

/-- The galley has failed a self-test and is locked out (R645). -/
def galleyLocked (s : State) (d g : Nat) : Bool := decide (s.fld .bistLockout [d] F.bistLockout_GALLEY / 2 ^ g % 2 = 1)

/-- The galley's clocks run and its user registers are out of reset: its domain runs, the initial load is over, no self-test has
it, it is not locked out, and no source failure has stopped its networks (R530, R559, R601, R645). -/
def galleyRuns (s : State) (d g : Nat) : Bool :=
  s.runs d g && !initialLoad s && !galleyTested s d g && !galleyLocked s d g && decide (s.hv .clkWait [] = 0)

/-! User PLLs: one set for each die, reached through every galley block (R276 to R280). -/

/-- A write of `upll[u].cfg` (R279, R280): while ENABLE is 1, only the write that clears ENABLE and changes nothing else
is not refused, and it stops the PLL. (DEDUCED, unsafe: log entry 28.) -/
def upllCfgWrite (d u : Nat) (v : W64) (s : State) : Nat × State :=
  let off := s.setFld .galleyUpllCfg [d, 0, u] F.galleyUpllCfg_ENABLE 0
  if s.bit .galleyUpllCfg [d, 0, u] F.galleyUpllCfg_ENABLE then
    if (plainWrite .galleyUpllCfg [d, 0, u] v s).reg .galleyUpllCfg [d, 0, u] = off.reg .galleyUpllCfg [d, 0, u]
    then (OK, off.setFld .galleyUpllStatus [d, 0, u] F.galleyUpllStatus_LOCK 0)
    else (REFUSED, s)
  else (OK, plainWrite .galleyUpllCfg [d, 0, u] v s)

/-- UPLL_CFG (R279). -/
def execUpllCfg (who : Who) (d : Fin 4) (g : Fin 16) (k : Fin 8) (v : W64) (s : State) :
    Host.Outcome State Fault Refusal :=
  .next (regCommand who .galleyUpllCfg [d, g, k] (upllCfgWrite d k v) s)

/-- A PLL may lock (R278, R280). -/
def upllMayLock (s : State) (d u : Nat) : Bool :=
  let m := s.fld .galleyUpllCfg [d, 0, u] F.galleyUpllCfg_MODE
  s.bit .galleyUpllCfg [d, 0, u] F.galleyUpllCfg_ENABLE && (decide (m = 1) || decide (m = 2)) &&
    decide (s.fld .galleyUpllCfg [d, 0, u] F.galleyUpllCfg_REFSEL ≤ 32)

/-- UPLL_LOCK (R278). -/
def execUpllLock (d : Fin 4) (k : Fin 8) (s : State) : Host.Outcome State Fault Refusal :=
  .next (if upllMayLock s d k && s.released d then
      s.setFld .galleyUpllStatus [d, 0, k] F.galleyUpllStatus_LOCK 1 else s)

/-- UPLL_LOSS_OF_LOCK (R278). -/
def execUpllLossOfLock (d : Fin 4) (k : Fin 8) (s : State) : Host.Outcome State Fault Refusal :=
  .next (if s.bit .galleyUpllStatus [d, 0, k] F.galleyUpllStatus_LOCK then
      ((s.setFld .galleyUpllStatus [d, 0, k] F.galleyUpllStatus_LOCK 0).setFld .galleyUpllStatus [d, 0, k]
        F.galleyUpllStatus_LOL 1).raiseEvent d 161
    else s)

/-! User clock networks (R272 to R275, R547). -/

/-- Complete a source change: CUR takes the live SRC (R273). -/
def completeSwitch (d g n : Nat) (s : State) : State :=
  let src := s.fld .galleyClksel (liveIx [d, g, n]) F.galleyClksel_SRC
  (((s.setFld .galleyClksel [d, g, n] F.galleyClksel_CUR src).setFld .galleyClksel [d, g, n]
    F.galleyClksel_SWITCHING 0).setFld .galleyClksel [d, g, n] F.galleyClksel_FORCE 0).setHv .clkEdges [d, g, n] 0

/-- A write of `clksel[n]`: SRC is the shadow copy (R547); FORCE lets a pending change go on without the edges of the old
source, and clears when the change completes (R273). -/
def clkselWrite (d g n : Nat) (v : W64) (s : State) : Nat × State :=
  let s := s.setFld .galleyClksel [d, g, n] F.galleyClksel_SRC (F.galleyClksel_SRC.get v)
  (OK, if F.galleyClksel_FORCE.get v = 1 ∧ s.bit .galleyClksel [d, g, n] F.galleyClksel_SWITCHING = true
    then (s.setFld .galleyClksel [d, g, n] F.galleyClksel_FORCE 1).setHv .clkEdges [d, g, n] (max 3 (s.hv .clkEdges [d, g, n]))
    else s)

/-- A clone of the galley runs (R549). -/
def cloning (s : State) (d g : Nat) : Bool := s.bit .galleySwap [d, g] F.galleySwap_CLONING

/-- FORCE: `clksel[n]` written with FORCE 1 (R273); the write waits while a clone runs (R549). (DEDUCED, unsafe: log entry
25.) -/
def execForceClock (who : Who) (d : Fin 4) (g : Fin 16) (n : Fin 32) (v : W64) (s : State) :
    Host.Outcome State Fault Refusal :=
  .next (if cloning s d g && (writeGate who .galleyClksel [d, g, n] s).isNone then s
    else regCommand who .galleyClksel [d, g, n] (clkselWrite d g n (withBit F.galleyClksel_FORCE v)) s)

/-- No source (R272). -/
def noSource (src : Nat) : Bool := decide (80 ≤ src)

/-- A source of R272 runs: a user PLL output that is on, with its PLL locked (R277, R278), a clock pin, the recovered clock of a
lane whose CDR has locked, or a local clock: a net that has risen in the last 64 `noc` cycles. (DESIGN CHOICE, unsafe: log
entry 95.) -/
def sourceRuns (s : State) (d g src : Nat) : Bool :=
  if src < 32 then
    s.bit .galleyUpllStatus [d, 0, src / 4] F.galleyUpllStatus_LOCK &&
      decide ((s.reg .galleyUpllCfg [d, 0, src / 4]).toNat / 2 ^ (32 + 8 * (src % 4)) % 256 ≠ 0)
  else if src < 40 then true
  else if src < 64 then s.bit .lgrpLaneStatus [d, (src - 40) / 8, (src - 40) % 8] F.lgrpLaneStatus_CDRLOCK
  else if src < 80 then
    decide (s.hv .localAt [d, g, src - 64] ≠ 0) && decide (s.hv .nocCycle [] < s.hv .localAt [d, g, src - 64] + 64)
  else false

/-- CUR of a user clock network. -/
def netSource (s : State) (d g n : Nat) : Nat := s.fld .galleyClksel [d, g, n] F.galleyClksel_CUR

/-- A user clock network runs: it is enabled, no source change holds it low, and its source runs (R272, R273, R275, R278). -/
def netRuns (s : State) (d g n : Nat) : Bool :=
  galleyRuns s d g && decide ((s.reg .galleyClk (liveIx [d, g])).toNat / 2 ^ n % 2 = 1) &&
    !s.bit .galleyClksel [d, g, n] F.galleyClksel_SWITCHING && sourceRuns s d g (netSource s d g n)

/-- The divider of a source that is a user PLL output in ratio mode; none for any other source (R276). -/
def sourceDiv (s : State) (d src : Nat) : Option Nat :=
  if src < 32 ∧ s.fld .galleyUpllCfg [d, 0, src / 4] F.galleyUpllCfg_MODE = 1 then
    some ((s.reg .galleyUpllCfg [d, 0, src / 4]).toNat / 2 ^ (32 + 8 * (src % 4)) % 256)
  else none

/-- The divider of the user PLL output in ratio mode that drives a network. -/
def ratioDiv (s : State) (d g n : Nat) : Option Nat := sourceDiv s d (netSource s d g n)

/-- The frequency of a network in kHz, as a fraction (R276, R283, R284). -/
def netKHz (s : State) (d g n : Nat) : Nat × Nat :=
  let src := netSource s d g n
  let u := src / 4
  let v := s.reg .galleyUpllCfg [d, 0, u]
  let div := v.toNat / 2 ^ (32 + 8 * (src % 4)) % 256
  if 32 ≤ src then (Config.sourceKHz d src, 1)
  else if F.galleyUpllCfg_MODE.get v = 1 then (3200000, div)
  else
    let r := F.galleyUpllCfg_REFSEL.get v
    let f := if r = 0 then 50000 else Config.sourceKHz d (31 + r)
    (f * F.galleyUpllCfg_FB.get v, F.galleyUpllCfg_PRE.get v * div)

/-- The fabric clock maximum of the grade, in kHz (R5). -/
def fabricMax (s : State) : Nat := if speedGrade s = 3 then 900000 else 750000

/-- A source has a rising edge in this `noc` cycle, which is two VCO cycles of ratio mode (R272, R276): a local clock rises
with its net; networks of one source share its edges. (DEDUCED, unsafe: log entry 96.) -/
def sourceEdge (s : State) (d g src : Nat) : Bool :=
  sourceRuns s d g src && (match sourceDiv s d src with
    | some div =>
      let t := 2 * (s.hv .nocCycle [] + Config.ratioPhase div)
      decide (t % div = 0) || decide ((t + 1) % div = 0)
    | none => if src < 64 then Config.edge s.freeCtr (128 * d + src) else decide (s.hv .localRise [d, g, src - 64] = 1))

/-- A user clock network has a rising edge in this `noc` cycle. -/
def netEdge (s : State) (d g n : Nat) : Bool := netRuns s d g n && sourceEdge s d g (netSource s d g n)

/-- The live SRC of a network. -/
def netWanted (s : State) (d g n : Nat) : Nat := s.fld .galleyClksel (liveIx [d, g, n]) F.galleyClksel_SRC

/-- A source change of a network is under way. -/
def netSwitching (s : State) (d g n : Nat) : Bool := s.bit .galleyClksel [d, g, n] F.galleyClksel_SWITCHING

/-- The edges of a source change after a `noc` cycle: three of the old source, then three of the new one; no source has none to
wait for (R273). (DEDUCED, unsafe: log entry 76.) -/
def switchEdges (s : State) (d g n : Nat) : Nat :=
  let c := s.hv .clkEdges [d, g, n]
  let old := netSource s d g n
  let new := netWanted s d g n
  if c < 3 then (if noSource old then 3 else if sourceEdge s d g old then c + 1 else c)
  else if noSource new then 6 else if sourceEdge s d g new then min 6 (c + 1) else c

/-- CLOCK_SOURCE_CHANGE: three edges of the old and then of the new source have passed (R273). -/
def execClockSourceChange (d : Fin 4) (g : Fin 16) (n : Fin 32) (s : State) : Host.Outcome State Fault Refusal :=
  .next (if netSwitching s d g n && (decide (6 ≤ s.hv .clkEdges [d, g, n]) ||
      (noSource (netSource s d g n) && noSource (netWanted s d g n))) then completeSwitch d g n s else s)

/-- NET of a fabric port in the live plane. -/
def portNet (s : State) (d g k : Nat) : Nat := s.fld .galleyFportCfg (liveIx [d, g, k]) F.galleyFportCfg_NET

/-- A fabric port accepts and sends: it is on and its network runs (R278, R281). -/
def portOn (s : State) (d g k : Nat) : Bool :=
  (decide (portMode s d g k = 1) || decide (portMode s d g k = 2)) && netRuns s d g (portNet s d g k)

/-! Block RAM and queue controllers. -/

def State.block (s : State) (d g b : Nat) : BlockState := s.blocks.get BlockState.init [d, g, b]

def State.setBlock (s : State) (d g b : Nat) (x : BlockState) : State := { s with blocks := s.blocks.set [d, g, b] x }

/-- The mode of the queue controller of a block (R265). -/
def ramMode (s : State) (d g b : Nat) : Nat := cell s d g (.ramMode b) % 4

/-- The user clock network of a port (R259). -/
def ramNet (s : State) (d g b : Nat) (portB : Bool) : Nat := cell s d g (.ramNet b portB) % 32

/-- The clock of a port runs. -/
def ramClock (s : State) (d g b : Nat) (portB : Bool) : Bool := netRuns s d g (ramNet s d g b portB)

/-- The bytes of an entry of a port (R259). -/
def portBytes (s : State) (d g b : Nat) (portB : Bool) : Nat :=
  match cell s d g (.ramAspect b portB) % 4 with
  | 0 => 4
  | 1 => 2
  | _ => 1

/-- The entries of a queue (R265). -/
def queueDepth (s : State) (d g b : Nat) : Nat := 4096 / portBytes s d g b false

/-- Free entries ≤ the almost-full threshold, and entries ≤ the almost-empty threshold (R266). -/
def nearFull (s : State) (d g b cnt : Nat) : Bool := decide (queueDepth s d g b - cnt ≤ cell s d g (.ramAfull b))
def nearEmpty (s : State) (d g b cnt : Nat) : Bool := decide (cnt ≤ cell s d g (.ramAempty b))

/-- The flags of a queue controller (R266, R269): 0 FULL, 1 AFULL, 2 EMPTY, 3 AEMPTY, 4 OVF, 5 UNF. In mode 2 a flag may fall
late; none is ever optimistic. -/
def queueFlag (s : State) (d g b i : Nat) : Bool :=
  let x := s.block d g b
  match i with
  | 0 => decide (queueDepth s d g b ≤ x.cnt) || decide (x.lateW ≠ 0)
  | 1 => nearFull s d g b x.cnt || decide (x.lateAf ≠ 0)
  | 2 => decide (x.cnt = 0) || decide (x.lateR ≠ 0)
  | 3 => nearEmpty s d g b x.cnt || decide (x.lateAe ≠ 0)
  | 4 => x.ovf
  | _ => x.unf

/-- Count an access of a block RAM (R260, R386, R387). -/
def ramAcct (d g b off corr bad : Nat) (s : State) : State := integ s d 8 (480 * g + b) (off % 64) corr bad

/-- A write strobe that is refused sets OVF (R267). -/
def queueOver (d g b : Nat) (s : State) : State := s.setBlock d g b { s.block d g b with ovf := true }

/-- The edges for which a flag that the other clock causes to fall stays, in mode 2 (R269). -/
def lagOf (mode : Nat) (late : Bool) : Nat := if decide (mode = 2) && late then 3 else 0

/-- A write strobe in a write-clock cycle (R267 to R269): it is refused while FULL is 1. `late` lets an EMPTY and AEMPTY that
this write ends stay for up to three edges of the read clock, as mode 2 may. -/
def queueWrite (d g b : Nat) (data : Nat) (late : Bool) (s : State) : State :=
  let mode := ramMode s d g b
  let x := s.block d g b
  let n := portBytes s d g b false
  let lag := lagOf mode late
  if queueFlag s d g b 0 then queueOver d g b s
  else
    let s := s.setBlock d g b { x with
      cnt := x.cnt + 1, wr := (x.wr + 1) % queueDepth s d g b,
      lateR := if x.cnt = 0 then lag else x.lateR,
      lateAe := if nearEmpty s d g b x.cnt && !nearEmpty s d g b (x.cnt + 1) then lag else x.lateAe }
    { s with mem := s.mem.writeN (arrayBase s d g b 0 + n * x.wr) n data }

/-- QUEUE_WRITE: the fabric writes an entry in mode 1 or 2 (R265, R267). -/
def execQueueWrite (d : Fin 4) (g : Fin 16) (b : Fin 480) (data : W32) (late : Bool) (s : State) :
    Host.Outcome State Fault Refusal :=
  let mode := ramMode s d g b
  .next (if ramClock s d g b false && (decide (mode = 1) || decide (mode = 2)) then queueWrite d g b data.toNat late s else s)

/-- A read strobe in a read-clock cycle (R267 to R269): it fails while EMPTY is 1. `late` as for a write, of FULL and AFULL. -/
def queueRead (d g b : Nat) (late : Bool) (s : State) : State :=
  let mode := ramMode s d g b
  let x := s.block d g b
  let n := portBytes s d g b false
  let a := arrayBase s d g b 0 + n * x.rd
  let lag := lagOf mode late
  if queueFlag s d g b 2 then s.setBlock d g b { x with unf := true }
  else
    let corr := s.mem.corrN a n
    let bad := s.mem.badN a n
    let depth := queueDepth s d g b
    ramAcct d g b (n * x.rd) corr bad (s.setBlock d g b
      { x with cnt := x.cnt - 1, rd := (x.rd + 1) % depth, outB := s.mem.readN a n,
               corrB := decide (corr ≠ 0), poisonB := decide (bad ≠ 0),
               lateW := if depth ≤ x.cnt then lag else x.lateW,
               lateAf := if nearFull s d g b x.cnt && !nearFull s d g b (x.cnt - 1) then lag else x.lateAf })

def execQueueRead (d : Fin 4) (g : Fin 16) (b : Fin 480) (late : Bool) (s : State) :
    Host.Outcome State Fault Refusal :=
  .next (if ramClock s d g b true && decide (ramMode s d g b ≠ 0) then queueRead d g b late s else s)

/-- CLRERR is 1 for a cycle of the write clock (`w`), of the read clock (`r`), or of both: OVF and UNF clear on their own
clocks, and a strobe that the queue refuses in the same cycle sets its flag again (R270). Both strobes meet the flags of the
beginning of the cycle (R267, R268). -/
def clrerr (d g : Nat) (e : ClrEdges) (s : State) : State :=
  let b := e.block.val
  let one := decide (ramMode s d g b = 1)
  let x := s.block d g b
  let cw := (e.w || (one && e.r)) && ramClock s d g b false
  let cr := (e.r || (one && e.w)) && ramClock s d g b true
  let s := s.setBlock d g b { x with ovf := x.ovf && !cw, unf := x.unf && !cr }
  let full := queueFlag s d g b 0
  let s := if e.rd && cr && decide (ramMode s d g b ≠ 0) then queueRead d g b false s else s
  match e.wr with
  | some v =>
    if cw && decide (ramMode s d g b ≠ 0) && decide (ramMode s d g b ≠ 3) then
      (if full then queueOver d g b s else queueWrite d g b v.toNat false s)
    else s
  | none => s

def execClrerr (d : Fin 4) (g : Fin 16) (e : ClrEdges) (s : State) : Host.Outcome State Fault Refusal :=
  .next (clrerr d g e s)

/-- Empty a queue and clear its flags (R271); the data stay. -/
def BlockState.rst (x : BlockState) : BlockState :=
  { x with cnt := 0, rd := 0, wr := 0, ovf := false, unf := false, lateW := 0, lateR := 0, lateAf := 0, lateAe := 0 }

/-- QUEUE_RST: RST is 1 for one cycle of each clock of the controller (R271). -/
def execQueueRst (d : Fin 4) (g : Fin 16) (b : Fin 480) (s : State) : Host.Outcome State Fault Refusal :=
  .next (if ramClock s d g b false && ramClock s d g b true then s.setBlock d g b (s.block d g b).rst else s)

/-- The byte that a port writes at byte e of the block. -/
def writesByte (o : PortOp) (n e : Nat) : Option Byte :=
  let base := o.addr.toNat * n % 4096
  if o.wr ∧ base ≤ e ∧ e < base + n ∧ (n = 1 ∨ o.be.getLsbD (e - base) = true) then
    some ((o.data >>> (8 * (e - base))).setWidth 8)
  else none

/-- One byte that a port reads (R261 to R263): its value, and 1 or 2 for a corrected or uncorrectable byte. A read that meets
a write on another clock returns the old or the new byte with check bits that agree. -/
def portByte (m : Mem) (base n : Nat) (own : PortOp) (other : Option PortOp) (nOther : Nat) (same : Bool)
    (choice ctr e : Nat) : Byte × Nat :=
  let r := m.read (base + e)
  match writesByte own n e, choice with
  | some v, 0 => (v, 0)
  | _, _ =>
    match other.bind (fun o => writesByte o nOther e) with
    | some v => if same then (r.data, r.st) else if Config.portRace ctr e then (v, 0) else (r.data, 0)
    | none => (r.data, r.st)

/-- What a port reads: the data, the corrected and the uncorrectable bytes. (DESIGN CHOICE, safe: log entry 30.) -/
def portRead (m : Mem) (base n : Nat) (own : PortOp) (other : Option PortOp) (nOther : Nat) (same : Bool)
    (choice ctr : Nat) : Nat × Nat × Nat :=
  (List.range n).foldl (fun (a : Nat × Nat × Nat) i =>
    let r := portByte m base n own other nOther same choice ctr (own.addr.toNat * n % 4096 + i)
    (a.1 + r.1.toNat * 256 ^ i, a.2.1 + (if r.2 = 1 then 2 ^ i else 0), a.2.2 + (if r.2 = 2 then 2 ^ i else 0)))
    (0, 0, 0)

/-- The writes of both ports: of two writes to one byte that of port A stays, or on two clocks either (R262, R263). -/
def portWrites (m : Mem) (base na nb : Nat) (pa pb : Option PortOp) (same : Bool) (ctr : Nat) : Mem :=
  let a (e : Nat) : Option Byte := pa.bind (fun o => writesByte o na e)
  let b (e : Nat) : Option Byte := pb.bind (fun o => writesByte o nb e)
  let touched (o : PortOp) (n : Nat) : List Nat := (List.range n).map fun i => o.addr.toNat * n % 4096 + i
  let es := (pa.map (touched · na)).getD [] ++ (pb.map (touched · nb)).getD []
  es.foldl (fun m e =>
    match a e, b e with
    | some x, some y => m.write (base + e) (if same || Config.portRace ctr (4096 + e) then x else y)
    | some x, none => m.write (base + e) x
    | none, some y => m.write (base + e) y
    | none, none => m) m

/-- BLOCK_RAM_ACCESS: one cycle of one port or of both (R259 to R263). -/
def blockRamAccess (d g b : Nat) (pa pb : Option PortOp) (s : State) : State :=
  let base := arrayBase s d g b 0
  let na := portBytes s d g b false
  let nb := portBytes s d g b true
  let same := decide (ramNet s d g b false = ramNet s d g b true)
  let m := s.mem
  let ctr := s.freeCtr
  let one (s : State) (portB : Bool) (o : Option PortOp) (q : Option PortOp) : State :=
    match o with
    | none => s
    | some o =>
      let n := if portB then nb else na
      let c := cell s d g (.ramChoice b portB) % 4
      if o.wr ∧ 2 ≤ c then s
      else
        let r := portRead m base n o q (if portB then na else nb) same c ctr
        let y := s.block d g b
        let y := if portB then { y with outB := r.1, corrB := decide (r.2.1 ≠ 0), poisonB := decide (r.2.2 ≠ 0) }
          else { y with outA := r.1, corrA := decide (r.2.1 ≠ 0), poisonA := decide (r.2.2 ≠ 0) }
        ramAcct d g b (o.addr.toNat * n % 4096) r.2.1 r.2.2 (s.setBlock d g b y)
  let s := one (one s false pa pb) true pb pa
  { s with mem := portWrites m base na nb pa pb same ctr }.draw

/-- A port whose clock does not run does nothing. -/
def execBlockRamAccess (d : Fin 4) (g : Fin 16) (b : Fin 480) (pa pb : Option PortOp) (s : State) :
    Host.Outcome State Fault Refusal :=
  let a := if ramClock s d g b false then pa else none
  let c := if ramClock s d g b true then pb else none
  .next (if ramMode s d g b = 0 ∧ (a.isSome = true ∨ c.isSome = true) then blockRamAccess d g b a c s else s)

/-! Serial lanes at the fabric. -/

def State.lane (s : State) (d j i : Nat) : LaneState := s.lanes.get LaneState.init [d, j, i]
def State.setLane (s : State) (d j i : Nat) (x : LaneState) : State := { s with lanes := s.lanes.set [d, j, i] x }

/-- The galley with which a lane group exchanges raw and JESD204C words (R442). -/
def laneGalley (d j : Nat) : Nat :=
  match d with
  | 0 => 1 + j
  | 1 => 2 - j
  | 2 => 13 + j
  | _ => 14 - j

/-- The lane group of a galley. -/
def galleyGroup (d g : Nat) : Option Nat := (List.range 3).find? fun j => decide (laneGalley d j = g)

/-! I/O banks and delay lines (R288 to R300). -/

/-- The VCCO code that a general or quick standard needs: 1 1.2 V, 2 1.5 V, 3 1.8 V, and 0 for none (R295, R297). -/
def needsVcco (quick : Bool) (std : Nat) : Nat :=
  if quick then (match std with | 1 => 3 | 2 => 1 | 3 => 3 | _ => 0)
  else (match std with | 1 => 3 | 4 => 3 | 8 => 3 | 2 => 2 | 5 => 2 | 6 => 2 | 3 => 1 | 7 => 1 | 9 => 1 | _ => 0)

/-- The pin is the second of a differential pair, whose configuration the device ignores (R295, R297). -/
def pairSecond (quick : Bool) (n : Nat) (firstStd : Nat) : Bool :=
  decide (n % 2 = 1) && (if quick then decide (firstStd = 3) else decide (firstStd = 8) || decide (firstStd = 9))

/-- STD of a pin in the live plane. -/
def stdOf (s : State) (d : Nat) (quick : Bool) (n : Nat) : Nat :=
  if quick then F.ioQpinCfg_STD.get (qpinCfg s d n) else F.ioPinCfg_STD.get (pinCfg s d n)

/-- Some pin of the bank needs another VCCO than the bank has (R296). -/
def bankMismatch (s : State) (d b : Nat) : Bool :=
  let quick := decide (4 ≤ b)
  let pins := if quick then (List.range 16).map (16 * (b - 4) + ·) else (List.range 24).map (24 * b + ·)
  let v := s.fld .ioBankStatus [d, b] F.ioBankStatus_VCCO
  pins.any fun n =>
    let need := needsVcco quick (stdOf s d quick n)
    decide (need ≠ 0) && decide (need ≠ v) && !pairSecond quick n (stdOf s d quick (n - 1))

/-- VMIS of a bank, with the I/O event (R296, R300). -/
def setVmis (d b : Nat) (s : State) : State := (s.setFld .ioBankStatus [d, b] F.ioBankStatus_VMIS 1).raiseEvent d 162

/-- BANK_PG_FALL: PG falls; VCCO is what the bank measures then (R300). -/
def execBankPgFall (d : Fin 4) (b : Fin 8) (vcco : Fin 4) (s : State) : Host.Outcome State Fault Refusal :=
  let t := s.setFld .ioBankStatus [d, b] F.ioBankStatus_VCCO vcco
  .next (if s.bit .ioBankStatus [d, b] F.ioBankStatus_PG then setVmis d b (t.setFld .ioBankStatus [d, b] F.ioBankStatus_PG 0)
    else t)

/-- BANK_PG_RISE (R296, R300). -/
def execBankPgRise (d : Fin 4) (b : Fin 8) (vcco : Fin 4) (s : State) : Host.Outcome State Fault Refusal :=
  let s := (s.setFld .ioBankStatus [d, b] F.ioBankStatus_PG 1).setFld .ioBankStatus [d, b] F.ioBankStatus_VCCO vcco
  .next (if bankMismatch s d b then setVmis d b s else s)

/-- A delay line of a quick pin stands at its target (R299). -/
def tapsThere (s : State) (d m : Nat) : Bool :=
  decide (s.fld .ioQpinDly [d, m] F.ioQpinDly_TX_TAP = s.hv .txTap [d, m]) &&
    decide (s.fld .ioQpinDly [d, m] F.ioQpinDly_RX_TAP = s.hv .rxTap [d, m])

/-- A write of `qpin[m].dly` (R299): stepping continues from the present taps. -/
def qpinDlyWrite (d m : Nat) (v : W64) (s : State) : Nat × State :=
  let s := plainWrite .ioQpinDly [d, m] v s
  (OK, s.setFld .ioQpinDly [d, m] F.ioQpinDly_BUSY (!tapsThere s d m).toNat)

/-- QPIN_DLY (R299). -/
def execQpinDly (who : Who) (d : Fin 4) (m : Fin 64) (v : W64) (s : State) : Host.Outcome State Fault Refusal :=
  .next (regCommand who .ioQpinDly [d, m] (qpinDlyWrite d m v) s)

/-- One tap toward a target (R299). -/
def tapStep (from_ target : Nat) : Nat :=
  if from_ < target then from_ + 1 else if target < from_ then from_ - 1 else from_

/-- One word-clock cycle of the delay lines of a pin. -/
def tapCycle (d m : Nat) (s : State) : State :=
  if s.bit .ioQpinDly [d, m] F.ioQpinDly_BUSY then
    (s.setHv .txTap [d, m] (tapStep (s.hv .txTap [d, m]) (s.fld .ioQpinDly [d, m] F.ioQpinDly_TX_TAP))).setHv .rxTap [d, m]
      (tapStep (s.hv .rxTap [d, m]) (s.fld .ioQpinDly [d, m] F.ioQpinDly_RX_TAP))
  else s

/-- DELAY_LINE_ARRIVE: the lines have stepped to their targets, and BUSY clears (R299). -/
def execDelayLineArrive (d : Fin 4) (m : Fin 64) (s : State) : Host.Outcome State Fault Refusal :=
  .next (if tapsThere s d m then s.setFld .ioQpinDly [d, m] F.ioQpinDly_BUSY 0 else s)

end Sys2Proof.Machine
end

