-- ==== Sys2Proof/Machine/Logic.lean ====
section
/-! DEFINITION. The design that a galley runs: its nets (R237 to R247), arithmetic blocks (R254 to R258), seam groups (R249 to
R253), pads (R290 to R298, R559) and loupe pins (R668, R669), and what one edge of its clocks does. -/

namespace Sys2Proof.Machine
open Sys2Proof

def State.fabv (s : State) (k : FabKey) : Nat := s.fab.get 0 k

/-- The number that bits spell, least significant first. -/
def bitsNat (n : Nat) (f : Nat → Bool) : Nat := (List.range n).foldr (fun i a => (f i).toNat + 2 * a) 0

/-! The nets of a galley. `val g` is the value of a net of galley g of the same die, and `wire` that of a wire. -/

/-- The galley next to a galley: 0 west, 1 east, 2 north, 3 south (R235). -/
def nextGalley (g side : Nat) : Option Nat :=
  match side with
  | 0 => if g % 4 = 0 then none else some (g - 1)
  | 1 => if g % 4 = 3 then none else some (g + 1)
  | 2 => if g < 4 then none else some (g - 4)
  | _ => if 12 ≤ g then none else some (g + 4)

def oppositeSide (side : Nat) : Nat := if side % 2 = 0 then side + 1 else side - 1

/-- The signal that a routing multiplexer drives onto a wire (R245). -/
def driven (val : Net → Bool) (s : State) (d g w : Nat) : Bool :=
  match cell s d g (.select w) with
  | 0 => false
  | k + 1 => ((Config.wireInputs w)[k]?).elim false val

/-- An enabled wire register drives the wire (R247). -/
def wireHeld (s : State) (d g w : Nat) : Bool := Config.wireLong w && decide (cell s d g (.wireReg w) = 1)

/-- What an input is fed with. -/
def fed (val : Net → Bool) (k : Sink) : Bool := val (.wire (Config.feed k))

/-- An output of a LUT: a LUT6 or a 64 × 1 RAM has one, two LUT5 that share five inputs or two 32 × 1 RAMs have two (R237,
R240). A RAM is read asynchronously at the address that its inputs give. -/
def lutOut (val : Net → Bool) (s : State) (d g col cl k : Nat) (second : Bool) : Bool :=
  let t := cell s d g (.lut col cl k)
  let a (n : Nat) : Nat := bitsNat n fun i => fed val (.lut col cl k i)
  if cell s d g (.lutForm col cl k) % 2 = 1 then t.testBit ((if second then 32 else 0) + a 5) else !second && t.testBit (a 6)

/-- The carry into bit i of the chain of a cluster (R239): the chain runs from north to south through a column of the galley,
and the northernmost cluster has no cluster above it. -/
def carryIn (val : Net → Bool) (s : State) (d g col cl i : Nat) : Bool :=
  match i with
  | j + 1 => val (.carry col cl j)
  | 0 => match cell s d g (.carryStart col cl) with
    | 0 => decide (0 < cl) && val (.carry col (cl - 1) 15)
    | k => decide (k = 2)

/-- The first output of a LUT passes the carry on, the second generates it. (PRESUMED, unsafe: log entry 73.) -/
def carryOut (val : Net → Bool) (s : State) (d g col cl i : Nat) : Bool :=
  if lutOut val s d g col cl i false then carryIn val s d g col cl i else lutOut val s d g col cl i true

/-- A user register (R238): an asynchronous reset shows at once. -/
def regOut (val : Net → Bool) (s : State) (d g col cl r : Nat) : Bool :=
  let init := decide (cell s d g (.regInit col cl r) % 2 = 1)
  if cell s d g (.regSync col cl r) = 0 ∧ fed val (.regRst col cl r) = true then init
  else xor init (decide (s.fabv (.reg d g col cl r) = 1))

/-! The latches of the quoins (R554, R555). -/

/-- The pin of the die. -/
def pinOf (g k : Nat) : Nat := if k < 6 then 6 * g + k else 4 * g + (k - 6)

def quickPin (k : Nat) : Bool := decide (6 ≤ k)

/-- DIR of a pin; a reserved value acts as input. -/
def padDir (s : State) (d g k : Nat) : Nat :=
  let v := if quickPin k then F.ioQpinCfg_DIR.get (qpinCfg s d (pinOf g k)) else F.ioPinCfg_DIR.get (pinCfg s d (pinOf g k))
  if v ≤ (if quickPin k then 1 else 2) then v else 0

/-- RATIO of a quick pin: 4, 8 or 10 bits in a word, 0 with no serialiser (R298). -/
def pinRatio (s : State) (d g k : Nat) : Nat :=
  let r := F.ioQpinCfg_RATIO.get (qpinCfg s d (pinOf g k))
  if quickPin k && (r == 4 || r == 8 || r == 10) then r else 0

/-- The word-clock network of a quick pin. -/
def pinWnet (s : State) (d g k : Nat) : Nat := F.ioQpinCfg_WNET.get (qpinCfg s d (pinOf g k))

/-- The network that clocks the signal of a latch: a seam group in use, or a pin that drives. A wire to a neighbour has none.
(DEDUCED, unsafe: log entry 92.) -/
def latchNet (s : State) (d g : Nat) : QSig → Option Nat
  | .seam e grp rx _ => if cell s d g (.seamUsed e grp rx) = 0 then none else some (cell s d g (.seamNet e grp rx) % 32)
  | .pad k | .padOe k =>
    if padDir s d g k = 0 then none
    else if pinRatio s d g k ≠ 0 then some (pinWnet s d g k % 32) else some (cell s d g (.padNet k 1) % 32)
  | .borderOut _ _ | .borderIn _ _ => none

/-- A latch holds its signal: the quoins are closed, and while they open its clock has had no edge yet (R554, R555). -/
def latched (s : State) (d g : Nat) (q : QSig) : Bool :=
  galleyClosed s d g && (decide (s.hv .quoinOpening [d, g] = 0) ||
    (match latchNet s d g q with | some n => !(s.hv .openNets [d, g]).testBit n | none => false))

/-- A stage of a seam group, transmit or receive, as it leaves the quoins of the galley; the receive stage of an unused group
drives 0 (R253, R554). -/
def seamStage (s : State) (d g e grp : Nat) (rx : Bool) : Nat :=
  if latched s d g (.seam e grp rx 0) then bitsNat 256 fun i => decide (s.fabv (.held d g (.seam e grp rx i)) = 1)
  else if cell s d g (.seamUsed e grp rx) = 0 then 0
  else s.fabv (if rx then .seamRx d g e grp else .seamTx d g e grp)

/-- A wire from the neighbour on a side, held at the end of each closed galley (R554). -/
def borderIn (val : Nat → Net → Bool) (s : State) (d g side i : Nat) : Bool :=
  if latched s d g (.borderIn side i) then decide (s.fabv (.held d g (.borderIn side i)) = 1)
  else match nextGalley g side with
    | none => false
    | some h =>
      if latched s d h (.borderOut (oppositeSide side) i) then decide (s.fabv (.held d h (.borderOut (oppositeSide side) i)) = 1)
      else fed (val h) (.border (oppositeSide side) i)

/-- An output of a block RAM port (R260). -/
def ramOut (s : State) (d g b : Nat) (portB : Bool) (i : Nat) : Bool :=
  let x := s.block d g b
  match i with
  | 32 => if portB then x.corrB else x.corrA
  | 33 => if portB then x.poisonB else x.poisonA
  | i => (if portB then x.outB else x.outA).testBit i

/-! Arithmetic blocks (R254 to R258). -/

/-- A field of the inputs as a signed number. -/
def signedAt (x lo n : Nat) : Int := (BitVec.ofNat n (x / 2 ^ lo)).toInt

/-- The inputs of an arithmetic block: A, B, C, D, E, and the dynamic inputs that subtract, choose the sign and load. -/
def arithIn (val : Net → Bool) (col row : Nat) : Nat := bitsNat 163 fun i => fed val (.arith col row i)

/-- The inputs that the last stage works on: each enabled pipeline register delays them by a cycle. (DESIGN CHOICE, unsafe:
log entry 80.) -/
def arithNow (s : State) (d g col row : Nat) (x : Nat) : Nat :=
  (List.range 3).foldl (fun x k =>
    if (cell s d g (.arithPipe col row)).testBit k then s.fabv (.pipe d g col row k) else x) x

/-- The pre-adder: its exact result (R254). -/
def preExact (x : Nat) : Int :=
  if x.testBit 160 then signedAt x 0 24 - signedAt x 72 24 else signedAt x 0 24 + signedAt x 72 24

/-- The output of an arithmetic block for given inputs, accumulator and cascade input (R254 to R256): P, or P0 and P1, in bits
0 to 95, PREOVF in bit 96 and ACCOVF in bit 97. -/
def arithOut (s : State) (d g col row x : Nat) (acc cascade : BitVec 64) : Nat :=
  let pre := decide (cell s d g (.arithPre col row) = 1)
  let a := if pre then (BitVec.ofInt 24 (preExact x)).toInt else signedAt x 0 24
  let p0 := a * signedAt x 24 24
  let p1 := signedAt x 48 24 * signedAt x 72 24
  let sum (base : BitVec 64) : Int := if x.testBit 161 then base.toInt - (p0 + p1) else base.toInt + (p0 + p1)
  let wide (v : Int) : Nat := (BitVec.ofInt 64 v).toNat + (if (BitVec.ofInt 64 v).toInt = v then 0 else 2 ^ 97)
  let out : Nat := match cell s d g (.arithMode col row) % 4 with
    | 0 => (BitVec.ofInt 48 p0).toNat + 2 ^ 48 * (BitVec.ofInt 48 p1).toNat
    | 1 => (BitVec.ofInt 64 (p0 + p1)).toNat
    | 2 => if x.testBit 162 then x / 2 ^ 96 % 2 ^ 64 else wide (sum acc)
    | _ => wide (sum cascade)
  out + (if pre && decide ((BitVec.ofInt 24 (preExact x)).toInt ≠ preExact x) then 2 ^ 96 else 0)

/-- The output has a register: the last pipeline register, or the accumulator. -/
def arithReg (s : State) (d g col row : Nat) : Bool :=
  (cell s d g (.arithPipe col row)).testBit 3 || decide (cell s d g (.arithMode col row) % 4 = 2)

/-- The inputs that a block computes on. -/
def arithArgs (val : Net → Bool) (s : State) (d g col row : Nat) : Nat := arithNow s d g col row (arithIn val col row)

/-- What a block drives, for the value that its cascade input has. -/
def arithShow (val : Net → Bool) (s : State) (d g col row above : Nat) : Nat :=
  if arithReg s d g col row then s.fabv (.arith d g col row)
  else arithOut s d g col row (arithArgs val s d g col row) 0 (BitVec.ofNat 64 above)

/-- What a block drives: the cascade comes from the block to its north in the column (R257). -/
def arithDrive (val : Net → Bool) (s : State) (d g col : Nat) : Nat → Nat
  | 0 => arithShow val s d g col 0 0
  | r + 1 => arithShow val s d g col (r + 1) (arithDrive val s d g col r)

/-- What a block would hold after an edge of its clock. -/
def arithNext (val : Net → Bool) (s : State) (d g col row : Nat) : Nat :=
  arithOut s d g col row (arithArgs val s d g col row) (BitVec.ofNat 64 (s.fabv (.arith d g col row)))
    (match row with | 0 => 0 | r + 1 => BitVec.ofNat 64 (arithDrive val s d g col r))

/-- SYNC~ of a link (R478): low until every lane is synchronised. -/
def syncLevel (s : State) (d j l : Nat) : Bool :=
  let cfg := s.reg .lgrpJesdCfg [d, j, l]
  decide (F.lgrpJesdCfg_EN.get cfg = 1 ∧ F.lgrpJesdCfg_ENC.get cfg = 0 ∧ F.lgrpJesdCfg_DIR.get cfg = 0) &&
    s.bit .lgrpJesdStatus [d, j, l] F.lgrpJesdStatus_SYNC

/-- The value of a net of galley g. -/
def netOf (val : Nat → Net → Bool) (s : State) (d g : Nat) : Net → Bool
  | .wire w => if wireHeld s d g w then decide (s.fabv (.wire d g w) = 1) else driven (val g) s d g w
  | .lut col cl k second => lutOut (val g) s d g col cl k second
  | .reg col cl r => regOut (val g) s d g col cl r
  | .sum col cl i => xor (lutOut (val g) s d g col cl i false) (carryIn (val g) s d g col cl i)
  | .carry col cl i => carryOut (val g) s d g col cl i
  | .arith col row i => (arithDrive (val g) s d g col row).testBit i
  | .ram b portB i => ramOut s d g b portB i
  | .flag b i => queueFlag s d g b i
  | .seam e grp i => (seamStage s d g e grp true).testBit i
  | .pad k => decide (s.fabv (.pad d g k 0) = 1)
  | .word k i => (s.fabv (.wordIn d g k)).testBit i
  | .lane i b => (galleyGroup d g).elim false fun j => (s.lane d j i).rx.testBit b
  | .jesdSync l => (galleyGroup d g).elim false fun j => syncLevel s d j l
  | .border side i => borderIn val s d g side i
  | .other i => Config.otherNet s.freeCtr i

/-- The value of a net, at a depth: a net that depends on itself shows a free value. -/
def netVal (s : State) (d : Nat) : Nat → Nat → Net → Bool
  | 0, _, _ => Config.loopValue s.freeCtr
  | n + 1, g, x => netOf (netVal s d n) s d g x

/-- No chain of nets without a loop is deeper: between two wires lie at most the carries of a column. -/
def netDepth : Nat := 4096 * (16 * Config.wires + 1)

/-- The value of a net of a galley. -/
def net (s : State) (d g : Nat) (x : Net) : Bool := netVal s d netDepth g x

/-- What an input of a unit of a galley is fed with. -/
def fedNow (s : State) (d g : Nat) (k : Sink) : Bool := fed (net s d g) k

/-! Seam groups (R249 to R253). Edge 0 faces the die beside, edge 1 the die above or below. -/

/-- The galley that a galley faces across a seam. -/
def seamPeer (d g e : Nat) : Option (Nat × Nat) :=
  if e = 0 then (if g % 4 = (if d % 2 = 0 then 3 else 0) then some (d + 1 - 2 * (d % 2), 4 * (g / 4) + (3 - g % 4)) else none)
  else if g / 4 = (if d < 2 then 3 else 0) then some ((d + 2) % 4, 4 * (3 - g / 4) + g % 4) else none

/-- The network of a stage of a seam group (R250). -/
def seamNet (s : State) (d g e grp : Nat) (rx : Bool) : Nat := cell s d g (.seamNet e grp rx) % 32

/-- The networks of a group meet R251. -/
def seamSound (s : State) (d g e grp : Nat) : Bool :=
  match seamPeer d g e with
  | none => false
  | some (d', g') =>
    let n := seamNet s d g e grp true
    match ratioDiv s d g n, ratioDiv s d' g' (seamNet s d' g' e grp false) with
    | some a, some b => decide (a = b) && decide ((netKHz s d g n).1 ≤ fabricMax s * (netKHz s d g n).2)
    | _, _ => false

/-- The seam groups of a galley after the edges of a cycle: the transmit stage takes the wires, the buffer what the other galley
transmits, and the receive stage the buffer. -/
def seamEdge (s : State) (d g : Nat) : List (FabKey × Nat) :=
  (List.range 2).flatMap fun e => match seamPeer d g e with
    | none => []
    | some (d', g') => (List.range 24).flatMap fun grp =>
      let tx : List (FabKey × Nat) :=
        if netEdge s d g (seamNet s d g e grp false) && decide (cell s d g (.seamUsed e grp false) ≠ 0) then
          [(.seamTx d g e grp, bitsNat 256 fun i => fedNow s d g (.seam e grp i))]
        else []
      let buf : List (FabKey × Nat) :=
        if netEdge s d' g' (seamNet s d' g' e grp false) then [(.seamBuf d g e grp, seamStage s d' g' e grp false)] else []
      let rx : List (FabKey × Nat) :=
        if netEdge s d g (seamNet s d g e grp true) then
          [(.seamRx d g e grp, if seamSound s d g e grp then s.fabv (.seamBuf d g e grp)
            else Config.seamJunk s.freeCtr (24 * (32 * d + 2 * g + e) + grp) % 2 ^ 256)]
        else []
      tx ++ buf ++ rx

/-! Pads (R290 to R300). Pins 0 to 5 of a galley are general, 6 to 9 quick (R288). -/

/-- The bank of a pin (R288). -/
def pinBank (g k : Nat) : Nat := if k < 6 then g / 4 else 4 + g / 4

/-- The word clock meets R298: an output of the same PLL, with the divider of the bit clock times RATIO / 2. -/
def wordSound (s : State) (d g k : Nat) : Bool :=
  let v := qpinCfg s d (pinOf g k)
  let u := F.ioQpinCfg_PLL.get v
  let src := netSource s d g (pinWnet s d g k)
  let div (o : Nat) : Nat := (s.reg .galleyUpllCfg [d, 0, u]).toNat / 2 ^ (32 + 8 * o) % 256
  decide (src / 4 = u) && decide (2 * div (src % 4) = div (F.ioQpinCfg_BITOUT.get v) * pinRatio s d g k)

/-- What a pad does. -/
inductive PadState where
  /-- high impedance with a weak pull-down or a bus-keeper (R290), or with no pull -/
  | pullDown
  | keeper
  | input (pull : Nat)
  | drive (level : Bool)
  /-- the bits of a word, first bit lowest (R298) -/
  | serial (word : Nat)
  /-- what the boundary register holds for the pin (R671) -/
  | boundary
  /-- high impedance by HIGHZ (R670, R671) -/
  | highZ
  deriving DecidableEq, Repr

/-- The strapped safe state of a bank (R290). -/
def strapped (s : State) (d b : Nat) : PadState := if s.board.strap.getLsbD (8 * d + b) then .keeper else .pullDown

/-- A pin whose standard names none, or none that exists, is off (R295). -/
def stdActs (s : State) (d : Nat) (quick : Bool) (n : Nat) : Nat :=
  let v := stdOf s d quick n
  if v ≤ (if quick then 3 else 9) then v else 0

/-- The pin is held in its strapped safe state (R291, R296, R300, R559). -/
def padStrapped (s : State) (d g k : Nat) : Bool :=
  let n := pinOf g k
  let need := needsVcco (quickPin k) (stdActs s d (quickPin k) n)
  let v := s.fld .ioBankStatus [d, pinBank g k] F.ioBankStatus_VCCO
  !s.domOn d g || !s.released d || initialLoad s || galleyTested s d g || galleyLocked s d g || decide (stdActs s d (quickPin k) n = 0) ||
    !s.bit .ioBankStatus [d, pinBank g k] F.ioBankStatus_PG || decide (v = 0) || decide (need ≠ v)

/-- The level and the output enable that the fabric gives a pin (R292, R294): held while the quoins are closed. -/
def padOut (s : State) (d g k : Nat) : Bool :=
  if latched s d g (.pad k) then decide (s.fabv (.held d g (.pad k)) = 1) else decide (s.fabv (.pad d g k 1) = 1)
def padEnable (s : State) (d g k : Nat) : Bool :=
  if latched s d g (.padOe k) then decide (s.fabv (.held d g (.padOe k)) = 1) else fedNow s d g (.padOe k)

/-- SAFE of a pin. -/
def padSafe (s : State) (d g k : Nat) : Nat :=
  if quickPin k then F.ioQpinCfg_SAFE.get (qpinCfg s d (pinOf g k)) else F.ioPinCfg_SAFE.get (pinCfg s d (pinOf g k))

/-- The source has failed and has not returned (R293, R601, R603). -/
def sourceFailed (s : State) : Bool :=
  decide (s.fld .powerClkstat [] F.powerClkstat_CKSTATE = 2) || decide (s.fld .powerClkstat [] F.powerClkstat_CKSTATE = 3)

/-- The routes that name a general pin (R680), as the pending bits of their events. -/
def pinRoutes (s : State) (d n : Nat) : List Bool :=
  (List.range 2048).filterMap fun x =>
    let v := s.reg .eventRoute [x / 512, x % 512]
    if F.eventRoute_PINEN.get v = 1 ∧ F.eventRoute_PDIE.get v = d ∧ F.eventRoute_PIN.get v = n then
      some ((s.reg .eventPend [x / 512, x % 512 / 32]).getLsbD (x % 32))
    else none

/-- What event routes drive on a pin: a general pin of an LVCMOS standard with DIR 1 shows whether an event of a route that
names it is pending (R680). (DEDUCED, unsafe: log entry 57.) -/
def eventLevel (s : State) (d g k : Nat) : Option Bool :=
  let std := stdActs s d false (pinOf g k)
  if quickPin k = false ∧ 1 ≤ std ∧ std ≤ 3 ∧ padDir s d g k = 1 then
    match pinRoutes s d (pinOf g k) with
    | [] => none
    | l => some (l.any id)
  else none

/-- Every die is Held or Off: the instructions of the pin group may act (R671). -/
def pinsFree (s : State) : Bool := (List.range 4).all (fun d => decide (s.fld .powerDie [d] F.powerDie_DSTATE ≤ 1))

/-- What an instruction of the pin group makes of the pins (R671). -/
def scanPins (s : State) : Option PadState :=
  if pinsFree s && decide (3 ≤ s.tap.ir) && decide (s.tap.ir ≤ 7) then some (if s.tap.ir = 7 then .highZ else .boundary) else none

/-- What a pin that its own configuration rules does (R291 to R298, R559). -/
def padAlone (s : State) (d g k : Nat) : PadState :=
  let safe := strapped s d (pinBank g k)
  if padStrapped s d g k then safe
  else if sourceFailed s && decide (padDir s d g k ≠ 0) then
    (match padSafe s d g k with | 1 => .drive false | 2 => .drive true | _ => safe)
  else if let some b := eventLevel s d g k then .drive b
  else
    let inp : PadState := .input (if quickPin k then 0 else F.ioPinCfg_PULL.get (pinCfg s d (pinOf g k)))
    match padDir s d g k with
    | 0 => inp
    | 1 => if pinRatio s d g k ≠ 0 ∧ latched s d g (.pad k) = false then .serial (s.fabv (.wordOut d g k)) else .drive (padOut s d g k)
    | _ => if padEnable s d g k then .drive (padOut s d g k) else inp

/-- The state of a pin by its owner's rules (R291 to R298): the second of a differential pair shows the other level of the first
(R295, R297). -/
def padOwn (s : State) (d g k : Nat) : PadState :=
  let n := pinOf g k
  if 0 < k ∧ k ≠ 6 ∧ pairSecond (quickPin k) n (stdActs s d (quickPin k) (n - 1)) = true then
    match padAlone s d g (k - 1) with
    | .drive b => .drive (!b)
    | .serial w => .serial (2 ^ pinRatio s d g (k - 1) - 1 - w)
    | x => x
  else padAlone s d g k

/-- The state of a pin: an instruction of the pin group overrides its owner (R671). -/
def padState (s : State) (d g k : Nat) : PadState := (scanPins s).getD (padOwn s d g k)

/-- The level at a pad: what the device drives, or what the board drives. -/
def padLevel (s : State) (d g k : Nat) : Bool :=
  match padState s d g k with
  | .drive b => b
  | _ => Config.padLevel s.freeCtr (160 * d + 10 * g + k)

/-- The pad registers and the words of the serialised pins after the edges of a cycle (R294, R298). (DEDUCED, safe: log
entry 60.) -/
def padEdge (s : State) (d g : Nat) : List (FabKey × Nat) :=
  (List.range 10).flatMap fun k =>
    let n (dir : Nat) : Nat := cell s d g (.padNet k dir) % 32
    let r := pinRatio s d g k
    let junk (i : Nat) : Nat := Config.wordJunk s.freeCtr (2 * (160 * d + 10 * g + k) + i) % 2 ^ r
    (if netEdge s d g (n 0) then [(FabKey.pad d g k 0, (padLevel s d g k).toNat)] else []) ++
    (if netEdge s d g (n 1) then [(FabKey.pad d g k 1, (fedNow s d g (.pad k)).toNat)] else []) ++
    (if r ≠ 0 ∧ netEdge s d g (pinWnet s d g k) = true then
      [(FabKey.wordOut d g k, if wordSound s d g k then bitsNat r fun i => fedNow s d g (.word k i) else junk 0),
        (FabKey.wordIn d g k, if wordSound s d g k then Config.lineWord s.freeCtr (160 * d + 10 * g + k) % 2 ^ r else junk 1)]
    else [])

/-! One cycle of the clocks of a galley. -/

/-- The user registers of a cluster after the edges of a cycle: each takes an output of its LUT (R238). (DESIGN CHOICE,
unsafe: log entry 80.) -/
def regEdge (s : State) (d g col cl : Nat) : List (FabKey × Nat) :=
  (List.range 32).flatMap fun r =>
    let key := FabKey.reg d g col cl r
    let clk := cell s d g (.clusterNet col cl (cell s d g (.regClock col cl r) % 2)) % 32
    let rst := fedNow s d g (.regRst col cl r)
    let split := cell s d g (.lutForm col cl (r / 2)) % 2 = 1 ∧ r % 2 = 1
    let next := net s d g (.lut col cl (r / 2) (decide split))
    if cell s d g (.regSync col cl r) = 0 ∧ rst = true then [(key, 0)]
    else if netEdge s d g clk = false then []
    else if rst then [(key, 0)]
    else if fedNow s d g (.regCe col cl r) then
      [(key, (xor next (decide (cell s d g (.regInit col cl r) % 2 = 1))).toNat)]
    else []

/-- The LUT cells of a cluster that a write changes, on its first clock: every RAM of the cluster has the one write address
and the one write enable (R240). -/
def lutWrites (s : State) (d g col cl : Nat) : List (Nat × Bool) :=
  if netEdge s d g (cell s d g (.clusterNet col cl 0) % 32) && fedNow s d g (.lutWe col cl) then
    let a (n : Nat) : Nat := bitsNat n fun i => fedNow s d g (.lutWa col cl i)
    (List.range 16).flatMap fun k =>
      let put (at_ : Nat) (second : Bool) : List (Nat × Bool) :=
        (((cellBits (.lut col cl k))[at_]?).map fun o => (o, fedNow s d g (.lutDi col cl k second))).toList
      match cell s d g (.lutForm col cl k) % 4 with
      | 2 => put (a 6) false
      | 3 => put (a 5) false ++ put (32 + a 5) true
      | _ => []
  else []

/-- The registers of the arithmetic blocks after the edges of a cycle. -/
def arithEdge (s : State) (d g : Nat) : List (FabKey × Nat) :=
  (List.range 9).flatMap fun col => (List.range 64).flatMap fun row =>
    if netEdge s d g (cell s d g (.arithNet col row) % 32) then
      let x := arithIn (net s d g) col row
      let stage (k : Nat) : Nat := (List.range k).foldl (fun x j =>
        if (cell s d g (.arithPipe col row)).testBit j then s.fabv (.pipe d g col row j) else x) x
      (FabKey.arith d g col row, arithNext (net s d g) s d g col row) ::
        (List.range 3).map fun k => (FabKey.pipe d g col row k, stage k)
    else []

/-- The wire registers after the edges of a cycle (R247). -/
def wireEdge (s : State) (d g : Nat) : List (FabKey × Nat) :=
  (List.range Config.wires).flatMap fun w =>
    if wireHeld s d g w && netEdge s d g (cell s d g (.wireNet w) % 32) then
      [(FabKey.wire d g w, (driven (net s d g) s d g w).toNat)]
    else []

/-- The clusters of a galley (R236). -/
def clusters : List (Nat × Nat) := (List.range 80).flatMap fun col => (List.range 128).map fun cl => (col, cl)

/-- Every storage element of a galley that the edges of a cycle change. -/
def galleyEdge (s : State) (d g : Nat) : List (FabKey × Nat) :=
  clusters.flatMap (fun c => regEdge s d g c.1 c.2) ++ wireEdge s d g ++ arithEdge s d g ++ seamEdge s d g ++ padEdge s d g

/-- Change one bit of a plane. -/
def setPlaneBit (base : Nat) (m : Mem) (o : Nat × Bool) : Mem :=
  let a := base + o.1 / 8 % 0x600000
  let b := (m.read a).data
  m.write a (if o.2 then b ||| BitVec.ofNat 8 (2 ^ (o.1 % 8)) else b &&& ~~~BitVec.ofNat 8 (2 ^ (o.1 % 8)))

/-- The flags of the queue controllers in mode 2 fall, or come nearer to their bounds, at the edges of their clocks (R269). -/
def queueEdge (s : State) (d g b : Nat) (x : BlockState) : BlockState :=
  let left (portB : Bool) (i n : Nat) : Nat :=
    if netEdge s d g (ramNet s d g b portB) then
      (if Config.flagFalls s.freeCtr (4 * (480 * (16 * d + g) + b) + i) then 0 else n - 1)
    else n
  { x with lateW := left false 0 x.lateW, lateAf := left false 1 x.lateAf,
           lateR := left true 2 x.lateR, lateAe := left true 3 x.lateAe }

/-- The registered loupe pins of a die (R668). -/
def loupeEdge (s : State) (d : Nat) : List (FabKey × Nat) :=
  (List.range 16).flatMap fun k =>
    let v := s.reg .debugLoupe [d, k]
    let g := F.debugLoupe_GALLEY.get v
    if netEdge s d g (F.debugLoupe_NET.get v) then
      [(FabKey.loupe d k, (net s d g (.wire (F.debugLoupe_WIRE.get v))).toNat)]
    else []

/-- Write storage elements. -/
def setFab (l : List (FabKey × Nat)) (s : State) : State := { s with fab := l.foldl (fun t e => t.set e.1 e.2) s.fab }

/-- The local clocks of a galley: each rises with its net (R272). -/
def localEdges (d g : Nat) (s : State) : State :=
  (List.range 16).foldl (fun t k =>
    let v := fedNow s d g (.localClk k)
    let up := v && decide (s.fabv (.localClk d g k) = 0)
    let t := (setFab [(.localClk d g k, v.toNat)] t).setHv .localRise [d, g, k] up.toNat
    if up then t.setHv .localAt [d, g, k] (s.hv .nocCycle [] + 1) else t) s

/-- The event nets of a galley (R679): a rise that is held for two `ctl` cycles, three `noc` cycles, is owed its event; while the
quoins are closed a level that is high raises nothing more. -/
def eventEdges (d g : Nat) (s : State) : State :=
  (List.range 4).foldl (fun t k =>
    let n := s.hv .eventHigh [d, g, k]
    let t := if galleyClosed s d g then t.setHv .eventOwed [d, g, k] 0 else t
    if !fedNow s d g (.event k) then t.setHv .eventHigh [d, g, k] 0
    else if galleyClosed s d g then t.setHv .eventHigh [d, g, k] 4
    else
      let t := t.setHv .eventHigh [d, g, k] (min 4 (n + 1))
      if n = 2 then t.setHv .eventOwed [d, g, k] 1 else t) s

/-! Quoins (R554, R555). -/

/-- The signals that the quoins of a galley latch. -/
def quoinSigs : List QSig :=
  ((List.range 4).flatMap fun side => (List.range (Config.borders side)).flatMap fun i =>
    [QSig.borderOut side i, QSig.borderIn side i]) ++
  ((List.range 2).flatMap fun e => (List.range 24).flatMap fun grp => (List.range 256).flatMap fun i =>
    [QSig.seam e grp false i, QSig.seam e grp true i]) ++
  (List.range 10).flatMap fun k => [QSig.pad k, QSig.padOe k]

/-- What a signal shows: of a serialised pin, the bit of the word that it sends last. -/
def sigNow (s : State) (d g : Nat) : QSig → Bool
  | .borderOut side i => fedNow s d g (.border side i)
  | .borderIn side i => net s d g (.border side i)
  | .seam e grp rx i => (seamStage s d g e grp rx).testBit i
  | .pad k => if pinRatio s d g k = 0 then padOut s d g k else (s.fabv (.wordOut d g k)).testBit (pinRatio s d g k - 1)
  | .padOe k => padEnable s d g k

/-- The latches that are open take what their quoin cells of the live plane declare: 0 the present value, 1 zero, 2 one. -/
def latchQuoins (d g : Nat) (s : State) : State :=
  setFab ((quoinSigs.filter (fun q => !latched s d g q)).map fun q => (FabKey.held d g q, match cell s d g (.quoin q) with
    | 0 => (sigNow s d g q).toNat
    | c => c / 2)) s

/-- The quoins of a galley are open: CLOSED falls when every latch has opened (R555). -/
def quoinsOpen (d g : Nat) (s : State) : State :=
  (s.setFld .galleyQuoin [d, g] F.galleyQuoin_CLOSED 0).setHv .quoinOpening [d, g] 0
def openSettle (d g : Nat) (s : State) : State :=
  if quoinSigs.any (latched s d g) then s else quoinsOpen d g s

/-- The edges of a cycle open latches of quoins that open. -/
def openEdges (s0 : State) (d g : Nat) (s : State) : State :=
  if s0.hv .quoinOpening [d, g] = 0 then s
  else openSettle d g (s.setHv .openNets [d, g]
    (s0.hv .openNets [d, g] ||| bitsNat 32 fun n => netEdge s0 d g n))

/-- The galleys that run. -/
def runningGalleys (s : State) : List (Nat × Nat) :=
  ((List.range 4).flatMap fun d => (List.range 16).map fun g => (d, g)).filter fun x => galleyRuns s x.1 x.2

/-- The edges of the local clocks and of the event nets of a cycle. -/
def netEdges (s : State) : State :=
  (runningGalleys s).foldl (fun t x => eventEdges x.1 x.2 (localEdges x.1 x.2 t)) s

/-- One cycle of the clocks of every galley that runs: every element takes what the nets showed before it. -/
def designCycle (s : State) : State :=
  let gs := runningGalleys s
  let s := netEdges s
  let l := gs.flatMap (fun x => galleyEdge s x.1 x.2) ++ (List.range 4).flatMap (loupeEdge s)
  let m := gs.foldl (fun m x => (clusters.flatMap fun c => lutWrites s x.1 x.2 c.1 c.2).foldl
    (setPlaneBit (frameBase x.1 x.2 (liveOf s x.1 x.2))) m) s.mem
  let bl := s.blocks.map fun e => match e.1 with
    | [d, g, b] => (e.1, queueEdge s d g b e.2)
    | _ => e
  let s' := setFab l { s with mem := m, blocks := bl }
  gs.foldl (fun t x => openEdges s x.1 x.2 ((List.range 32).foldl (fun t n => if netSwitching s x.1 x.2 n then
      t.setHv .clkEdges [x.1, x.2, n] (switchEdges s x.1 x.2 n) else t)
    ((List.range 4).foldl (fun t j =>
      if netEdge s x.1 x.2 (pinWnet s x.1 x.2 (6 + j)) then tapCycle x.1 (4 * x.2 + j) t else t) t))) s'

/-! Loupe pins (R668, R669). -/

/-- A loupe pin by the rules of the loupe: high impedance with a pull-down, or the level that it drives. -/
def loupeOwn (s : State) (d k : Nat) : PadState :=
  let v := s.reg .debugLoupe [d, k]
  let g := F.debugLoupe_GALLEY.get v
  if F.debugLoupe_EN.get v = 0 ∨ sourceFailed s = true then .pullDown
  else if Config.wires ≤ F.debugLoupe_WIRE.get v ∨ s.runs d g = false ∨ initialLoad s = true ∨ galleyTested s d g = true then
    .drive false
  else .drive (if F.debugLoupe_REG.get v = 1 then decide (s.fabv (.loupe d k) = 1) else net s d g (.wire (F.debugLoupe_WIRE.get v)))

/-- A loupe pin (R668, R669, R671). -/
def loupeState (s : State) (d k : Nat) : PadState := (scanPins s).getD (loupeOwn s d k)

end Sys2Proof.Machine
end

