-- ==== Sys2Proof/Machine/Serial.lean ====
section
/-! DEFINITION. The serial lanes (R438 to R460) and the JESD204C blocks (R477 to R480). -/

namespace Sys2Proof.Machine
open Sys2Proof

/-- The owner that a lane acts for (R439). -/
def ownerCfg (d j : Nat) (cfg : W64) : Nat :=
  let o := F.lgrpLaneCfg_OWNER.get cfg
  if 5 ≤ o then 0 else if o = 3 ∧ (d % 2 = 1 ∨ j = 2) then 0 else o

def laneOwner (s : State) (d j i : Nat) : Nat := ownerCfg d j (s.reg .lgrpLaneCfg [d, j, i])

/-- Set a flag of a lane and raise the lane event of the die (R460). -/
def laneFlag (d j i : Nat) (f : Fld) (s : State) : State := (s.setFld .lgrpLaneFlags [d, j, i] f 1).raiseEvent d 170

/-! Rates (R443, R444). -/

/-- REF 2 exists for a group (R443). -/
def refExists (d j r : Nat) : Bool := decide (r < 2) || (decide (r = 2) && decide (d % 2 = 0) && decide (j < 2))

/-- A PLL may lock (R443). -/
def pllMayLock (s : State) (d j a : Nat) : Bool :=
  let n := s.fld .lgrpPll [d, j, a] F.lgrpPll_N
  s.bit .lgrpPll [d, j, a] F.lgrpPll_ENABLE && decide (160 ≤ n) && decide (n ≤ 320) &&
    refExists d j (s.fld .lgrpPll [d, j, a] F.lgrpPll_REF)

/-- The symbol rate of a lane, as rate × 2^24 × 2^DIV in units of 200 MHz: 4f / 2^DIV (R444). -/
def laneRate (s : State) (d j i : Nat) : Nat × Nat :=
  let cfg := s.reg .lgrpLaneCfg [d, j, i]
  let a := F.lgrpLaneCfg_TXPLL.get cfg
  (s.fld .lgrpPll [d, j, a] F.lgrpPll_N * 2 ^ 24 + s.fld .lgrpPll [d, j, a] F.lgrpPll_F, F.lgrpLaneCfg_DIV.get cfg)

/-- A rate lies between two bounds in units of 10 kHz. -/
def rateIn (r : Nat × Nat) (lo hi : Nat) : Bool :=
  let unit := 2 ^ (24 + r.2)
  decide (lo * unit ≤ 20000 * r.1) && decide (20000 * r.1 ≤ hi * unit)

/-- A lane breaks the limits of its mode (R444). -/
def rateBad (s : State) (d j i : Nat) : Bool :=
  let cfg := s.reg .lgrpLaneCfg [d, j, i]
  let r := laneRate s d j i
  decide (5 < r.2) ||
    !(if F.lgrpLaneCfg_MODE.get cfg = 1 then rateIn r 2656250 5625000 else rateIn r 125000 3200000)

/-- The PLL of a lane is locked. -/
def lanePll (s : State) (d j i : Nat) : Bool :=
  s.bit .lgrpPll [d, j, s.fld .lgrpLaneCfg [d, j, i] F.lgrpLaneCfg_TXPLL] F.lgrpPll_LOCK

/-- Far-end loopback: the transmitter takes the receiver's rate, and TXPLL, DIV and TXPRE have no effect (R458). -/
def laneFar (s : State) (d j i : Nat) : Bool := decide (s.fld .lgrpLaneCfg [d, j, i] F.lgrpLaneCfg_LOOP = 3)

/-- The lane is in electrical idle (R440): in far-end loopback its transmitter takes the recovered clock and needs no PLL
(R458). (DEDUCED, unsafe: log entry 98.) -/
def laneIdle (s : State) (d j i : Nat) : Bool :=
  let x := s.lane d j i
  decide (laneOwner s d j i = 0) || (!laneFar s d j i && (!lanePll s d j i || rateBad s d j i)) || !x.written || x.settling ||
    decide (s.fld .guardFsel [] F.guardFsel_GSTATE = 6) || decide (s.hv .clkWait [] = 1)

/-- The transmitter is in electrical idle (R440). -/
def txIdle (s : State) (d j i : Nat) : Bool := laneIdle s d j i || !s.bit .lgrpLaneCfg [d, j, i] F.lgrpLaneCfg_TXEN

/-- The transmit pins are in electrical idle: IDLE of `status` (R440, R458). -/
def pinsIdle (s : State) (d j i : Nat) : Bool :=
  txIdle s d j i || decide (s.fld .lgrpLaneCfg [d, j, i] F.lgrpLaneCfg_LOOP = 1)

/-- A transmitter that is idle has no level on its pins, and a lane that is idle reports no signal (R440): LOS and CDRLOL are
set when SIGDET and CDRLOCK fall (R460). (DESIGN CHOICE, unsafe: log entry 38.) -/
def laneQuiet (d j s_i : Nat) (s : State) : State :=
  let s := if txIdle s d j s_i then s.setLane d j s_i { s.lane d j s_i with line := [] } else s
  if laneIdle s d j s_i then
    let los := s.bit .lgrpLaneStatus [d, j, s_i] F.lgrpLaneStatus_SIGDET && s.bit .lgrpLaneCfg [d, j, s_i] F.lgrpLaneCfg_RXEN
    let lol := s.bit .lgrpLaneStatus [d, j, s_i] F.lgrpLaneStatus_CDRLOCK
    let s := (s.setFld .lgrpLaneStatus [d, j, s_i] F.lgrpLaneStatus_SIGDET 0).setFld .lgrpLaneStatus [d, j, s_i]
      F.lgrpLaneStatus_CDRLOCK 0
    let s := if los then laneFlag d j s_i F.lgrpLaneFlags_LOS s else s
    if lol then laneFlag d j s_i F.lgrpLaneFlags_CDRLOL s else s
  else s

def quietGroup (d j : Nat) (s : State) : State := (List.range 8).foldl (fun t i => laneQuiet d j i t) s

/-- Every lane, when the device begins to wait for a clock (R440). -/
def quietAll (s : State) : State := (List.range 12).foldl (fun t n => quietGroup (n / 3) (n % 3) t) s

/-- RATEERR for a lane with an owner whose rate is settled (R444): its PLL is locked, or DIV is out of range. -/
def rateCheck (d j i : Nat) (s : State) : State :=
  if laneOwner s d j i ≠ 0 ∧ laneFar s d j i = false ∧ rateBad s d j i = true ∧
      (lanePll s d j i = true ∨ 5 < s.fld .lgrpLaneCfg [d, j, i] F.lgrpLaneCfg_DIV)
  then laneFlag d j i F.lgrpLaneFlags_RATEERR s else s

/-! The owners of lanes: Ethernet ports (R461, R462), JESD204C links and PCI Express. -/

def State.eth (s : State) (d m : Nat) : EthState := s.eths.get EthState.init (d, m)
def State.setEth (s : State) (d m : Nat) (x : EthState) : State := { s with eths := s.eths.set (d, m) x }

/-- Raise the Ethernet event of a controller (R471). -/
def ethEvent (d m : Nat) (s : State) : State := s.raiseEvent d (171 + m)

/-- Set a field of `status` of a port (R471). -/
def portFlag (d m q : Nat) (f : Fld) (s : State) : State := ethEvent d m (s.setFld .ethPortStatus [d, m, q] f 1)

/-! Port configuration (R461, R462). -/

/-- A mode: its lanes, PAM4, the symbol rate in 10 kHz, the FEC values that it allows, and its rate in Gb/s. -/
structure EthMode where
  lanes : Nat
  pam4 : Bool
  rate : Nat
  fec : List Nat
  gbps : Nat

/-- The table of R461; none for MODE 0 and the values that act as 0. -/
def ethMode : Nat → Option EthMode
  | 1 => some ⟨1, false, 125000, [0], 1⟩
  | 2 => some ⟨1, false, 1031250, [0], 10⟩
  | 3 => some ⟨1, false, 2578125, [0, 1], 25⟩
  | 4 => some ⟨1, true, 2656250, [2], 50⟩
  | 5 => some ⟨4, false, 2578125, [0, 1], 100⟩
  | 6 => some ⟨2, true, 2656250, [2], 100⟩
  | 7 => some ⟨1, true, 5312500, [2], 100⟩
  | 8 => some ⟨4, true, 2656250, [2], 200⟩
  | 9 => some ⟨2, true, 5312500, [2], 200⟩
  | 10 => some ⟨8, true, 2656250, [2], 400⟩
  | 11 => some ⟨4, true, 5312500, [2], 400⟩
  | _ => none

/-- The lanes of a configuration, by their number on the die. -/
def ethLanes (cfg : W64) : List Nat :=
  match ethMode (F.ethPortCfg_MODE.get cfg) with
  | some t => (List.range t.lanes).map (F.ethPortCfg_FIRST.get cfg + ·)
  | none => []

/-- A lane has the owner, the mode and the rate that a port mode needs. -/
def ethLaneOk (s : State) (d n : Nat) (t : EthMode) : Bool :=
  decide (n < 24) && decide (laneOwner s d (n / 8) (n % 8) = 2) &&
    (s.bit .lgrpLaneCfg [d, n / 8, n % 8] F.lgrpLaneCfg_MODE == t.pam4) &&
    rateIn (laneRate s d (n / 8) (n % 8)) t.rate t.rate

/-- The ports of a die that hold their lanes, with their configuration. -/
def heldPorts (s : State) (d : Nat) : List (Nat × Nat × W64) :=
  (List.range 4).flatMap fun m => (s.eth d m).up.map fun q => (m, q, s.reg .ethPortCfg [d, m, q])

/-- An enabled port meets R462. -/
def ethOk (s : State) (d m q : Nat) : Bool :=
  let cfg := s.reg .ethPortCfg [d, m, q]
  match ethMode (F.ethPortCfg_MODE.get cfg) with
  | none => false
  | some t =>
    let first := F.ethPortCfg_FIRST.get cfg
    let others := (heldPorts s d).filter (fun e => decide (¬(e.1 = m ∧ e.2.1 = q)))
    let total := (others.filter (fun e => e.1 == m)).foldl (fun a e =>
      a + (match ethMode (F.ethPortCfg_MODE.get e.2.2) with | some u => u.gbps | none => 0)) t.gbps
    decide (F.ethPortCfg_FEC.get cfg ∈ t.fec) && decide (F.ethPortCfg_COFF.get cfg ≠ 3) &&
      decide (8 ≤ F.ethPortCfg_RXBUF.get cfg) && decide (F.ethPortCfg_RXBUF.get cfg ≤ 14) &&
      decide (first % t.lanes = 0) && decide (first % 8 + t.lanes ≤ 8) &&
      (ethLanes cfg).all (fun n => ethLaneOk s d n t && others.all (fun e => decide (n ∉ ethLanes e.2.2))) &&
      decide (total ≤ 400)

/-- A change of LINK (R471). -/
def setLink (d m q : Nat) (up : Bool) (s : State) : State :=
  if s.bit .ethPortStatus [d, m, q] F.ethPortStatus_LINK = up then s
  else portFlag d m q F.ethPortStatus_LINKCHG (s.setFld .ethPortStatus [d, m, q] F.ethPortStatus_LINK up.toNat)

/-- The enabled ports of a die that do not hold their lanes do when they meet R462, in the order of controllers and ports; one
that holds them and no longer meets it goes down and sets CFGERR. (DEDUCED, unsafe: log entry 41.) -/
def ethSettle (d : Nat) (s : State) : State :=
  (List.range 32).foldl (fun t n =>
    let m := n / 8
    let q := n % 8
    let cfg := t.reg .ethPortCfg [d, m, q]
    let x := t.eth d m
    let enabled := F.ethPortCfg_EN.get cfg == 1 && (ethMode (F.ethPortCfg_MODE.get cfg)).isSome
    if decide (q ∈ x.up) = (enabled && ethOk t d m q) then t
    else if q ∈ x.up then
      portFlag d m q F.ethPortStatus_CFGERR ((setLink d m q false (t.setEth d m { x with up := x.up.filter (· ≠ q) })).setFld
        .ethPortTsadj [d, m, q] F.ethPortTsadj_CALOK 0)
    else t.setEth d m { x with up := x.up ++ [q] }) s

/-- Set a flag and raise the PCI Express event of the die (R476). -/
def pcieFlag (d : Nat) (f : Fld) (s : State) : State := (s.setFld .pcieStatus [d] f 1).raiseEvent d 175

/-- A change of UP (R476). -/
def setPcieUp (d : Nat) (up : Bool) (s : State) : State :=
  if s.bit .pcieStatus [d] F.pcieStatus_UP = up then s
  else pcieFlag d F.pcieStatus_LINKCHG (s.setFld .pcieStatus [d] F.pcieStatus_UP up.toNat)

/-- Set a flag of a link and raise the JESD event of the group (R480). -/
def jesdFlag (d j l : Nat) (f : Fld) (s : State) : State :=
  (s.setFld .lgrpJesdStatus [d, j, l] f 1).raiseEvent d (176 + j)

/-- The lanes of a link, by position. -/
def jesdLanes (cfg : W64) : List Nat :=
  (List.range (F.lgrpJesdCfg_LM1.get cfg + 1)).map (F.lgrpJesdCfg_FIRST.get cfg + ·)

/-- A link that has synchronised loses it (R480): LINKERR. -/
def jesdLoss (d j l : Nat) (s : State) : State :=
  if s.bit .lgrpJesdStatus [d, j, l] F.lgrpJesdStatus_SYNC then
    jesdFlag d j l F.lgrpJesdStatus_LINKERR ((s.setFld .lgrpJesdStatus [d, j, l] F.lgrpJesdStatus_SYNC 0).setFld
      .lgrpJesdStatus [d, j, l] F.lgrpJesdStatus_ALIGNED 0)
  else s

/-- The owner of a lane sees its link as down: the lane sends a pattern, or changes its loopback (R454, R458). -/
def ownerDown (d j i : Nat) (s : State) : State :=
  match laneOwner s d j i with
  | 2 => (List.range 32).foldl (fun t n =>
      if n % 8 ∈ (t.eth d (n / 8)).up ∧ 8 * j + i ∈ ethLanes (t.reg .ethPortCfg [d, n / 8, n % 8]) then
        setLink d (n / 8) (n % 8) false (t.setFld .ethPortTsadj [d, n / 8, n % 8] F.ethPortTsadj_CALOK 0)
      else t) s
  | 3 => setPcieUp d false s
  | 4 => (List.range 4).foldl (fun t l =>
      if i ∈ jesdLanes (t.reg .lgrpJesdCfg [d, j, l]) then jesdLoss d j l t else t) s
  | _ => s

/-! PLLs (R443, R446, R473). -/

/-- PCI Express owns a lane of the group and programs its PLLs (R473). -/
def pcieOwnsGroup (s : State) (d j : Nat) : Bool :=
  decide (j < 2) && (List.range 8).any (fun i => laneOwner s d j i == 3)

/-- A write of `pll[a]` (R443, R446, R473). -/
def pllWrite (d j a : Nat) (v : W64) (s : State) : Nat × State :=
  let old := s.reg .lgrpPll [d, j, a]
  let moved := decide (F.lgrpPll_N.get v ≠ F.lgrpPll_N.get old) || decide (F.lgrpPll_F.get v ≠ F.lgrpPll_F.get old) ||
    decide (F.lgrpPll_REF.get v ≠ F.lgrpPll_REF.get old)
  if pcieOwnsGroup s d j || (s.bit .lgrpPll [d, j, a] F.lgrpPll_ENABLE && moved) then (REFUSED, s)
  else
    let s := plainWrite .lgrpPll [d, j, a] v s
    (OK, ethSettle d (if F.lgrpPll_ENABLE.get v = 0 then quietGroup d j (s.setFld .lgrpPll [d, j, a] F.lgrpPll_LOCK 0) else s))

/-- LANE_PLL_LOCK (R443). -/
def execLanePllLock (d : Fin 4) (j : Fin 3) (a : Fin 2) (s : State) : Host.Outcome State Fault Refusal :=
  .next (if pllMayLock s d j a && s.runs d (35 + j.val) then
      let s := s.setFld .lgrpPll [d, j, a] F.lgrpPll_LOCK 1
      (List.range 8).foldl (fun t i =>
        if t.fld .lgrpLaneCfg [d, j, i] F.lgrpLaneCfg_TXPLL = a.val then rateCheck d j i t else t) s
    else s)

/-- A PLL loses lock (R446). -/
def pllLost (d j a : Nat) (s : State) : State :=
  if s.bit .lgrpPll [d, j, a] F.lgrpPll_LOCK then
    quietGroup d j (((s.setFld .lgrpPll [d, j, a] F.lgrpPll_LOCK 0).setFld .lgrpPll [d, j, a] F.lgrpPll_LOL 1).raiseEvent
      d 170)
  else s

/-- LANE_PLL_LOSS_OF_LOCK (R446). -/
def execLanePllLossOfLock (d : Fin 4) (j : Fin 3) (a : Fin 2) (s : State) : Host.Outcome State Fault Refusal :=
  .next (pllLost d j a s)

/-- The controller programs the PLLs of a group (R473): A at 8 GHz, B at 10 GHz, from REF 2. -/
def pciePlls (d j : Nat) (s : State) : State :=
  let one (t : State) (a n : Nat) : State :=
    let v := BitVec.ofNat 64 (n * 2 ^ 32 + 2 * 2 ^ 4 + 1)
    if t.reg .lgrpPll [d, j, a] &&& 0x1FFFFFFFF31 = v then t
    else quietGroup d j (t.setReg .lgrpPll [d, j, a] (v ||| (t.reg .lgrpPll [d, j, a] &&& 8)))
  one (one s 0 160) 1 200

/-! Owners and configuration (R439, R441, R458). -/

/-- A write of `lane[i].cfg` (R439 to R441, R448, R458): a new owner, and a new loopback, restart the receiver. -/
def laneCfgWrite (d j i : Nat) (v : W64) (s : State) : Nat × State :=
  let old := s.reg .lgrpLaneCfg [d, j, i]
  let s := plainWrite .lgrpLaneCfg [d, j, i] v s
  let x := s.lane d j i
  let changed := decide (F.lgrpLaneCfg_OWNER.get old ≠ F.lgrpLaneCfg_OWNER.get v)
  let s :=
    if changed then
      let s := s.setLane d j i { LaneState.init with settling := true, written := true }
      let s := s.setFld .lgrpLanePat [d, j, i] F.lgrpLanePat_CHKLOCK 0
      let s := s.setFld .lgrpLaneHist [d, j, i] F.lgrpLaneHist_RUN 0
      let s := if s.fld .lgrpLaneRxeq [d, j, i] F.lgrpLaneRxeq_ADAPT = 0 then s
        else (s.setFld .lgrpLaneRxeq [d, j, i] F.lgrpLaneRxeq_CTLE 0).setFld .lgrpLaneRxeq [d, j, i] F.lgrpLaneRxeq_DFE 0
      s.setFld .lgrpLaneStatus [d, j, i] F.lgrpLaneStatus_ADAPTED 0
    else
      let pre (f : Fld) (v0 : Nat) : Nat := if f.get old = f.get v then v0 else 0
      s.setLane d j i { x with written := true, txSym := pre F.lgrpLaneCfg_TXPRE x.txSym, rxSym := pre F.lgrpLaneCfg_RXPRE x.rxSym }
  let s := if F.lgrpLaneCfg_LOOP.get old = F.lgrpLaneCfg_LOOP.get v then s
    else
      let s := ownerDown d j i (s.setLane d j i { s.lane d j i with elastic := [] })
      if s.bit .lgrpLaneStatus [d, j, i] F.lgrpLaneStatus_CDRLOCK then
        laneFlag d j i F.lgrpLaneFlags_CDRLOL (s.setFld .lgrpLaneStatus [d, j, i] F.lgrpLaneStatus_CDRLOCK 0)
      else s
  let s := laneQuiet d j i (rateCheck d j i s)
  (OK, ethSettle d (if pcieOwnsGroup s d j then pciePlls d j s else s))

/-- OWNER_CHANGE: `cfg` written (R440, R441, R448). -/
def execOwnerChange (who : Who) (d : Fin 4) (j : Fin 3) (i : Fin 8) (v : W64) (s : State) :
    Host.Outcome State Fault Refusal :=
  .next (regCommand who .lgrpLaneCfg [d, j, i] (laneCfgWrite d j i v) s)

/-- OWNER_SETTLE: 1 µs has passed since OWNER changed (R440). -/
def execOwnerSettle (d : Fin 4) (j : Fin 3) (i : Fin 8) (s : State) : Host.Outcome State Fault Refusal :=
  .next (s.setLane d j i { s.lane d j i with settling := false })

/-! Equalisation (R450 to R452). -/

/-- The magnitude of a signed tap. -/
def tapSize (f : Fld) (v : W64) : Nat :=
  let x := f.get v
  if x < 2 ^ (f.width - 1) then x else 2 ^ f.width - x

/-- The taps of a word fit the swing (R450). -/
def tapsFit (v : W64) : Bool :=
  decide (tapSize F.lgrpLaneTxeq_PRE3 v + tapSize F.lgrpLaneTxeq_PRE2 v + tapSize F.lgrpLaneTxeq_PRE1 v +
    F.lgrpLaneTxeq_MAIN.get v + tapSize F.lgrpLaneTxeq_POST1 v ≤ 63)

/-- The lane of a group and position belongs to an enabled Ethernet port that trains its link, by the lane's number on
the die (R452). -/
def ethTraining (s : State) (d n : Nat) : Bool :=
  (List.range 4).any fun m => (s.eth d m).up.any fun q =>
    let cfg := s.reg .ethPortCfg [d, m, q]
    decide (F.ethPortCfg_LT.get cfg = 1) && !s.bit .ethPortStatus [d, m, q] F.ethPortStatus_LINK && decide (n ∈ ethLanes cfg)

/-- Training of a controller sets the taps of the lane (R452). -/
def tapsTrained (s : State) (d j i : Nat) : Bool :=
  (decide (laneOwner s d j i = 2) && ethTraining s d (8 * j + i)) ||
  (decide (laneOwner s d j i = 3) && s.bit .pcieCfg [d] F.pcieCfg_EN && !s.bit .pcieStatus [d] F.pcieStatus_UP)

/-- A write of `txeq` (R450, R452). -/
def txeqWrite (d j i : Nat) (v : W64) (s : State) : Nat × State :=
  if tapsTrained s d j i then (OK, s)
  else if tapsFit v then (OK, plainWrite .lgrpLaneTxeq [d, j, i] v s)
  else (OK, laneFlag d j i F.lgrpLaneFlags_TXEQ_ERR s)

/-- TXEQ (R450, R452). -/
def execTxeq (who : Who) (d : Fin 4) (j : Fin 3) (i : Fin 8) (v : W64) (s : State) : Host.Outcome State Fault Refusal :=
  .next (regCommand who .lgrpLaneTxeq [d, j, i] (txeqWrite d j i v) s)

/-- CDR_LOCK: the receiver detects a signal and locks to the data (R451). -/
def execCdrLock (d : Fin 4) (j : Fin 3) (i : Fin 8) (s : State) : Host.Outcome State Fault Refusal :=
  .next (if !laneIdle s d j i && s.bit .lgrpLaneCfg [d, j, i] F.lgrpLaneCfg_RXEN then
      (s.setFld .lgrpLaneStatus [d, j, i] F.lgrpLaneStatus_SIGDET 1).setFld .lgrpLaneStatus [d, j, i]
        F.lgrpLaneStatus_CDRLOCK 1
    else s)

/-- Adaptation may set the values of a lane: ADAPT 0 leaves them to software, and ADAPT 2 holds them once it has set ADAPTED
(R451). -/
def mayAdapt (s : State) (d j i : Nat) : Bool :=
  let a := s.fld .lgrpLaneRxeq [d, j, i] F.lgrpLaneRxeq_ADAPT
  s.bit .lgrpLaneStatus [d, j, i] F.lgrpLaneStatus_CDRLOCK && decide (a ≠ 0) &&
    (decide (a ≠ 2) || !s.bit .lgrpLaneStatus [d, j, i] F.lgrpLaneStatus_ADAPTED)

/-- ADAPTED: receive adaptation completes, with the values that it has found: CTLE, DFE and the FFE taps (R451). -/
def execAdapted (d : Fin 4) (j : Fin 3) (i : Fin 8) (ctle : BitVec 5) (dfe : BitVec 8) (ffe : List (BitVec 8)) (s : State) :
    Host.Outcome State Fault Refusal :=
  .next (if mayAdapt s d j i then
      let s := (s.setFld .lgrpLaneRxeq [d, j, i] F.lgrpLaneRxeq_CTLE ctle.toNat).setFld .lgrpLaneRxeq [d, j, i]
        F.lgrpLaneRxeq_DFE dfe.toNat
      (s.setLane d j i { s.lane d j i with ffe := ffe }).setFld .lgrpLaneStatus [d, j, i] F.lgrpLaneStatus_ADAPTED 1
    else s)

/-- A write of `rxeq` (R451): CTLE and DFE come from it only with ADAPT 0. -/
def rxeqWrite (d j i : Nat) (v : W64) (s : State) : Nat × State :=
  let old := s.reg .lgrpLaneRxeq [d, j, i]
  let v := if F.lgrpLaneRxeq_ADAPT.get v = 0 then v
    else F.lgrpLaneRxeq_CTLE.put (F.lgrpLaneRxeq_DFE.put v (F.lgrpLaneRxeq_DFE.get old)) (F.lgrpLaneRxeq_CTLE.get old)
  (OK, plainWrite .lgrpLaneRxeq [d, j, i] v s)

/-- `rxeq` as it reads: TAP is the FFE tap that TAPSEL names (R451). -/
def rxeqView (s : State) (d j i : Nat) : W64 :=
  let v := s.reg .lgrpLaneRxeq [d, j, i]
  F.lgrpLaneRxeq_TAP.put v ((s.lane d j i).ffe.getD (F.lgrpLaneRxeq_TAPSEL.get v) 0).toNat

/-- CDR_LOSS_OF_LOCK: the signal is lost (`los`), or the CDR loses lock (R460). -/
def execCdrLossOfLock (d : Fin 4) (j : Fin 3) (i : Fin 8) (los : Bool) (s : State) :
    Host.Outcome State Fault Refusal :=
  .next (if los then
      (if s.bit .lgrpLaneStatus [d, j, i] F.lgrpLaneStatus_SIGDET then
        let s := s.setFld .lgrpLaneStatus [d, j, i] F.lgrpLaneStatus_SIGDET 0
        if s.bit .lgrpLaneCfg [d, j, i] F.lgrpLaneCfg_RXEN then laneFlag d j i F.lgrpLaneFlags_LOS s else s
      else s)
    else if s.bit .lgrpLaneStatus [d, j, i] F.lgrpLaneStatus_CDRLOCK then
      laneFlag d j i F.lgrpLaneFlags_CDRLOL (s.setFld .lgrpLaneStatus [d, j, i] F.lgrpLaneStatus_CDRLOCK 0)
    else s)

/-! Patterns and histograms (R453 to R457). -/

/-- The pattern that a code gives in the lane's mode; 0 is off (R453). -/
def patternOf (s : State) (d j i code : Nat) : Nat :=
  let pam4 := s.bit .lgrpLaneCfg [d, j, i] F.lgrpLaneCfg_MODE
  if pam4 then (if code = 7 ∨ code = 8 then code else 0) else (if 1 ≤ code ∧ code ≤ 6 then code else 0)

/-- The exponents of the polynomial of a pattern (R453), the largest first. -/
def patternTaps : Nat → List Nat
  | 1 => [7, 6]
  | 2 => [9, 5]
  | 3 => [13, 12, 2, 1]
  | 4 => [15, 14]
  | 5 => [23, 18]
  | 6 => [31, 28]
  | 7 => [13, 12, 2, 1]
  | 8 => [31, 28]
  | _ => []

/-- The next bit of a pattern after its last bits, the newest lowest (R453). -/
def patternNext (code st : Nat) : Bool := (patternTaps code).foldl (fun a k => xor a (st.testBit (k - 1))) false

/-- The bits that the state of a pattern holds. -/
def patternShift (code st : Nat) (b : Bool) : Nat := (2 * st + b.toNat) % 2 ^ (patternTaps code).headD 1

/-- The next n bits of a pattern, and its state after them. -/
def patternBits (code : Nat) : Nat → Nat → List Bool × Nat
  | 0, st => ([], st)
  | n + 1, st =>
    let b := patternNext code st
    let r := patternBits code n (patternShift code st b)
    (b :: r.1, r.2)

def Checker.start : Checker := { state := 0, seed := 0, good := 0, win := [] }

/-- The checker compares one bit (R455): until it is locked its state is the received data. The second part says that the bit is
wrong. -/
def checkBit (code : Nat) (locked : Bool) (c : Checker) (b : Bool) : Checker × Bool :=
  let ready := decide ((patternTaps code).headD 1 ≤ c.seed)
  let p := patternNext code c.state
  let wrong := ready && p != b
  ({ state := patternShift code c.state (if locked then p else b), seed := if ready then c.seed else c.seed + 1,
     good := if ready && !wrong then c.good + 1 else 0, win := (wrong :: c.win).take 128 }, wrong)

/-- The checker of a lane loses lock and seeds itself again (R455). -/
def checkerLost (d j i : Nat) (s : State) : State :=
  laneFlag d j i F.lgrpLaneFlags_UNLOCK ((s.setLane d j i { s.lane d j i with chk := Checker.start }).setFld
    .lgrpLanePat [d, j, i] F.lgrpLanePat_CHKLOCK 0)

/-- What a locked checker counts (R455, R456): `bits` bits, of which `wrong` are wrong, in `syms` symbols of PAM4. -/
def checkerCounts (d j i bits wrong syms : Nat) (s : State) : State :=
  let s := (s.bumpFld .lgrpLaneBits [d, j, i] F.lgrpLaneBits_BITS bits).bumpFld .lgrpLaneErrs [d, j, i]
    F.lgrpLaneErrs_BIT wrong
  if s.bit .lgrpLaneCfg [d, j, i] F.lgrpLaneCfg_MODE then s.bumpFld .lgrpLaneErrs [d, j, i] F.lgrpLaneErrs_SYM syms else s

/-- The bits of one received symbol reach the checker (R455). -/
def checkSymbol (d j i : Nat) (s : State) (bits : List Bool) : State :=
  let code := patternOf s d j i (s.fld .lgrpLanePat [d, j, i] F.lgrpLanePat_CHK)
  if code = 0 then s
  else
    let locked := s.bit .lgrpLanePat [d, j, i] F.lgrpLanePat_CHKLOCK
    let x := s.lane d j i
    let r := bits.foldl (fun (a : Checker × Nat) b =>
      let q := checkBit code locked a.1 b
      (q.1, a.2 + q.2.toNat)) (x.chk, 0)
    let s := s.setLane d j i { x with chk := r.1 }
    if locked then
      let s := checkerCounts d j i bits.length r.2 (if r.2 = 0 then 0 else 1) s
      if 16 < (r.1.win.filter id).length then checkerLost d j i s else s
    else if 64 ≤ r.1.good then
      (s.setLane d j i { x with chk := { r.1 with win := [] } }).setFld .lgrpLanePat [d, j, i] F.lgrpLanePat_CHKLOCK 1
    else s

/-- CHECKER_LOCK: the checker has seeded itself, and 64 bits without an error have come (R455). -/
def execCheckerLock (d : Fin 4) (j : Fin 3) (i : Fin 8) (s : State) : Host.Outcome State Fault Refusal :=
  let code := patternOf s d j i (s.fld .lgrpLanePat [d, j, i] F.lgrpLanePat_CHK)
  .next (if decide (code ≠ 0) && s.bit .lgrpLaneStatus [d, j, i] F.lgrpLaneStatus_CDRLOCK &&
        !s.bit .lgrpLanePat [d, j, i] F.lgrpLanePat_CHKLOCK then
      let n := (patternTaps code).headD 1
      ((s.setLane d j i { s.lane d j i with
          chk := { state := Config.patternStart s.freeCtr % (2 ^ n - 1) + 1, seed := n, good := 64, win := [] } }).setFld
        .lgrpLanePat [d, j, i] F.lgrpLanePat_CHKLOCK 1).draw
    else s)

/-- CHECKER_UNLOCK: `bits` bits are compared, of which `wrong` are wrong in `syms` symbols; more than 16 of them within 128 bits
take the lock away (R455, R456). -/
def execCheckerUnlock (d : Fin 4) (j : Fin 3) (i : Fin 8) (bits wrong syms : Nat) (s : State) :
    Host.Outcome State Fault Refusal :=
  .next (if s.bit .lgrpLanePat [d, j, i] F.lgrpLanePat_CHKLOCK && decide (wrong ≤ bits) then
      let s := checkerCounts d j i bits wrong syms s
      if 16 < wrong then checkerLost d j i s else s
    else s)

/-- A write of `pat` (R453 to R455): a new checker pattern starts the checker again, a new generator pattern the generator, and
while the lane sends a pattern its owner has no link. -/
def patWrite (d j i : Nat) (v : W64) (s : State) : Nat × State :=
  let old := s.reg .lgrpLanePat [d, j, i]
  let s := plainWrite .lgrpLanePat [d, j, i] v s
  let s := if F.lgrpLanePat_CHK.get v = F.lgrpLanePat_CHK.get old then s
    else (s.setLane d j i { s.lane d j i with chk := Checker.start }).setFld .lgrpLanePat [d, j, i] F.lgrpLanePat_CHKLOCK 0
  let s := if F.lgrpLanePat_GEN.get v = F.lgrpLanePat_GEN.get old then s else s.setLane d j i { s.lane d j i with gen := 0 }
  (OK, if patternOf s d j i (F.lgrpLanePat_GEN.get v) = 0 then s else ownerDown d j i s)

/-- A write of `hist` (R457). -/
def histWrite (d j i : Nat) (v : W64) (s : State) : Nat × State :=
  let run := s.bit .lgrpLaneHist [d, j, i] F.lgrpLaneHist_RUN
  let s := plainWrite .lgrpLaneHist [d, j, i] (v &&& ~~~F.lgrpLaneHist_RUN.mask) s
  (OK, if F.lgrpLaneHist_RUN.get v = 1 ∧ run = false then
      (s.setLane d j i { s.lane d j i with bins := [] }).setFld .lgrpLaneHist [d, j, i] F.lgrpLaneHist_RUN 1
    else s)

/-- HISTOGRAM_RUN: `hist` written with RUN 1 (R457). -/
def execHistogramRun (who : Who) (d : Fin 4) (j : Fin 3) (i : Fin 8) (v : W64) (s : State) :
    Host.Outcome State Fault Refusal :=
  .next (regCommand who .lgrpLaneHist [d, j, i] (histWrite d j i (withBit F.lgrpLaneHist_RUN v)) s)

/-- The symbols of a histogram (R457): 2^(EXP + 16) in all; in NRZ levels 0 and 3 alone. -/
def countsFit (s : State) (d j i : Nat) (counts : List (Fin 512 × Nat)) : Bool :=
  decide ((counts.map (·.2)).sum = 2 ^ (s.fld .lgrpLaneHist [d, j, i] F.lgrpLaneHist_EXP + 16)) &&
    (s.bit .lgrpLaneCfg [d, j, i] F.lgrpLaneCfg_MODE ||
      counts.all (fun e => decide (e.1.val / 128 = 0 ∨ e.1.val / 128 = 3 ∨ e.2 = 0)))

/-- HISTOGRAM_DONE: the symbols are sorted; `counts` gives each bin, level × 128 + sample, that holds any (R456,
R457). -/
def execHistogramDone (d : Fin 4) (j : Fin 3) (i : Fin 8) (counts : List (Fin 512 × Nat)) (s : State) :
    Host.Outcome State Fault Refusal :=
  .next (if s.bit .lgrpLaneHist [d, j, i] F.lgrpLaneHist_RUN && countsFit s d j i counts then
      let x := s.lane d j i
      let add (t : Tbl Nat Nat) (e : Fin 512 × Nat) : Tbl Nat Nat :=
        Tbl.set t e.1.val (min (Tbl.get t 0 e.1.val + e.2) 65535)
      (s.setLane d j i { x with bins := counts.foldl add x.bins }).setFld .lgrpLaneHist [d, j, i] F.lgrpLaneHist_RUN 0
    else s)

/-- `hist` as it reads: COUNT of the bin that LEVEL and BIN select (R457). -/
def histView (s : State) (d j i : Nat) : W64 :=
  let v := s.reg .lgrpLaneHist [d, j, i]
  F.lgrpLaneHist_COUNT.put v
    ((s.lane d j i).bins.get 0 (128 * F.lgrpLaneHist_LEVEL.get v + F.lgrpLaneHist_BIN.get v))

/-! Line coding (R447 to R449). -/

/-- The Gray code of a pair of bits, the first the more significant (R447), and its inverse. -/
def gray (first second : Bool) : Nat :=
  match first, second with
  | false, false => 0
  | false, true => 1
  | true, true => 2
  | true, false => 3

def ungray (n : Nat) : Bool × Bool :=
  match n % 4 with
  | 0 => (false, false)
  | 1 => (false, true)
  | 2 => (true, true)
  | _ => (true, false)

/-- The level of a symbol (R447), with the polarity of the pins (R449). -/
def levelOf (invert : Bool) (sym : Nat) : Int :=
  let x : Int := 2 * (sym % 4 : Nat) - 3
  if invert then -x else x

/-- The symbol of a level at the pins. -/
def levelSymbol (invert : Bool) (level : Int) : Nat := (((if invert then -level else level) + 3) / 2).toNat % 4

/-- The transmit precoder: S(k) = (G(k) − S(k − 1)) mod 4 (R448). -/
def precode : Nat → List Nat → List Nat
  | _, [] => []
  | last, g :: r => let x := (g + 4 - last % 4) % 4; x :: precode x r

/-- The receive precoder: G(k) = (S(k) + S(k − 1)) mod 4 (R448). -/
def unprecode : Nat → List Nat → List Nat
  | _, [] => []
  | last, x :: r => (x + last) % 4 :: unprecode x r

/-- Bits in transmission order as symbols: NRZ takes the outer two levels, PAM4 two bits a symbol (R447, R457). -/
def symbols (pam4 : Bool) : List Bool → List Nat
  | [] => []
  | b :: r =>
    if pam4 then
      match r with
      | [] => [gray b false]
      | c :: r' => gray b c :: symbols pam4 r'
    else (if b then 3 else 0) :: symbols pam4 r

/-- Symbols as bits in transmission order. -/
def unsymbols (pam4 : Bool) (l : List Nat) : List Bool :=
  l.flatMap fun x => if pam4 then [(ungray x).1, (ungray x).2] else [decide (2 ≤ x)]

/-- The symbols that a lane puts on its pins for bits, and the state of its precoder after them (R447, R448). -/
def txCode (s : State) (d j i : Nat) (bits : List Bool) : List Nat × Nat :=
  let pam4 := s.bit .lgrpLaneCfg [d, j, i] F.lgrpLaneCfg_MODE
  let g := symbols pam4 bits
  if pam4 && s.bit .lgrpLaneCfg [d, j, i] F.lgrpLaneCfg_TXPRE then
    let l := precode (s.lane d j i).txSym g
    (l, l.getLastD (s.lane d j i).txSym)
  else (g, (s.lane d j i).txSym)

/-- The bits of received symbols, and the state of the receive precoder after them (R448). -/
def rxCode (s : State) (d j i : Nat) (l : List Nat) : List Bool × Nat :=
  let pam4 := s.bit .lgrpLaneCfg [d, j, i] F.lgrpLaneCfg_MODE
  if pam4 && s.bit .lgrpLaneCfg [d, j, i] F.lgrpLaneCfg_RXPRE then
    (unsymbols pam4 (unprecode (s.lane d j i).rxSym l), l.getLastD (s.lane d j i).rxSym)
  else (unsymbols pam4 l, (s.lane d j i).rxSym)

/-- The bits that a lane sends for bits of its owner: the pattern in their place while GEN is not 0 (R454). -/
def laneBits (s : State) (d j i : Nat) (own : List Bool) : List Bool × Nat :=
  let code := patternOf s d j i (s.fld .lgrpLanePat [d, j, i] F.lgrpLanePat_GEN)
  let x := s.lane d j i
  if code = 0 then (own, 0)
  else
    let m := 2 ^ (patternTaps code).headD 1
    let r := patternBits code own.length (if x.gen = 0 then Config.patternStart s.freeCtr % (m - 1) + 1 else x.gen - 1)
    (r.1, r.2 + 1)

/-- A lane sends bits on its pins (R447 to R449, R454); far-end loopback takes no part of them (R458). -/
def sendBits (d j i : Nat) (own : List Bool) (s : State) : State :=
  let b := laneBits s d j i own
  let c := txCode s d j i b.1
  let pol := s.bit .lgrpLaneCfg [d, j, i] F.lgrpLaneCfg_TXPOL
  if txIdle s d j i || laneFar s d j i then s
  else s.setLane d j i { s.lane d j i with gen := b.2, txSym := c.2, line := c.1.map (levelOf pol) }

/-! Raw lanes (R459). -/

/-- The bits of a raw word (R459). -/
def rawWidth (s : State) (d j i : Nat) : Nat := 32 * 2 ^ s.fld .lgrpLaneCfg [d, j, i] F.lgrpLaneCfg_WIDTH

/-- A raw lane sends a word, bit 0 first (R459); in near-end parallel loopback it is also received (R458). -/
def sendWord (d j i w : Nat) (s : State) : State :=
  let n := rawWidth s d j i
  let s := sendBits d j i ((List.range n).map w.testBit) s
  if s.fld .lgrpLaneCfg [d, j, i] F.lgrpLaneCfg_LOOP = 2 then s.setLane d j i { s.lane d j i with rx := w % 2 ^ n } else s

/-- RAW_TRANSMIT_WORD: a word from the galley of the group enters the buffer on TXNET, and in a word cycle the lane takes one;
an idle transmitter sends none (R440, R442, R459). -/
def rawWord (d j i : Nat) (offer : Option (BitVec 256)) (take : Bool) (s : State) : State :=
  if laneOwner s d j i = 1 then
    let x := s.lane d j i
    let s := match offer with
      | none => s
      | some w =>
        if netRuns s d (laneGalley d j) (s.fld .lgrpLaneCfg [d, j, i] F.lgrpLaneCfg_TXNET) = false then s
        else if 16 ≤ x.tx.length then laneFlag d j i F.lgrpLaneFlags_TXOF s
        else s.setLane d j i { x with tx := x.tx ++ [w.toNat % 2 ^ rawWidth s d j i] }
    if take && !txIdle s d j i then
      let y := s.lane d j i
      match y.tx with
      | [] => sendWord d j i 0 (laneFlag d j i F.lgrpLaneFlags_TXUF s)
      | w :: r => sendWord d j i w (s.setLane d j i { y with tx := r })
    else s
  else s

/-- The link of a group that holds a lane and runs in a direction: enabled and synchronised. -/
def jesdOn (s : State) (d j i dir : Nat) : Option Nat :=
  (List.range 4).find? fun l =>
    let cfg := s.reg .lgrpJesdCfg [d, j, l]
    decide (F.lgrpJesdCfg_EN.get cfg = 1) && decide (F.lgrpJesdCfg_DIR.get cfg = dir) && decide (i ∈ jesdLanes cfg) &&
      s.bit .lgrpJesdStatus [d, j, l] F.lgrpJesdStatus_SYNC

/-- The bits that a lane receives are a word for its owner: raw, or through the link layer of an aligned JESD204C link, whose
codes and CRC are checked (R442, R459, R477, R480). (DESIGN CHOICE, unsafe: log entry 89.) -/
def ownerWord (d j i : Nat) (bits : List Bool) (s : State) : State :=
  let x := s.lane d j i
  match laneOwner s d j i with
  | 1 => s.setLane d j i { x with rx := bits.foldr (fun b a => b.toNat + 2 * a) 0 }
  | 4 => (match jesdOn s d j i 0 with
    | none => s
    | some l =>
      let cfg := s.reg .lgrpJesdCfg [d, j, l]
      match Config.linkDecode (F.lgrpJesdCfg_ENC.get cfg == 1) (F.lgrpJesdCfg_SCR.get cfg == 1) bits with
      | none => jesdFlag d j l F.lgrpJesdStatus_CRCERR s
      | some w => if s.bit .lgrpJesdStatus [d, j, l] F.lgrpJesdStatus_ALIGNED then s.setLane d j i { x with rx := w % 2 ^ 256 } else s)
  | _ => s

/-- The symbols of a word time: from the pins, or in near-end serial loopback from the lane's own transmitter (R458). -/
def lanePins (s : State) (d j i : Nat) : List Int :=
  if s.fld .lgrpLaneCfg [d, j, i] F.lgrpLaneCfg_LOOP = 1 then (s.lane d j i).line
  else
    let n := rawWidth s d j i
    (List.range (if s.bit .lgrpLaneCfg [d, j, i] F.lgrpLaneCfg_MODE then n / 2 else n)).map fun k =>
      levelOf false (Config.lineSymbol s.freeCtr (256 * (24 * d + 8 * j + i) + k))

/-- The receiver of a lane takes symbols on its recovered clock (R447 to R449, R455, R458, R459): they go to the checker and the
owner, and in far-end loopback through the elastic buffer to the transmit pins. (DESIGN CHOICE, unsafe: log entry 38.) -/
def laneReceive (d j i : Nat) (s : State) : State :=
  let loop := s.fld .lgrpLaneCfg [d, j, i] F.lgrpLaneCfg_LOOP
  if laneOwner s d j i = 0 ∨ laneIdle s d j i = true ∨ loop = 2 ∨ s.bit .lgrpLaneCfg [d, j, i] F.lgrpLaneCfg_RXEN = false ∨
      s.bit .lgrpLaneStatus [d, j, i] F.lgrpLaneStatus_CDRLOCK = false then s
  else
    let pam4 := s.bit .lgrpLaneCfg [d, j, i] F.lgrpLaneCfg_MODE
    let l := (lanePins s d j i).map (levelSymbol (s.bit .lgrpLaneCfg [d, j, i] F.lgrpLaneCfg_RXPOL))
    let r := rxCode s d j i l
    let x := s.lane d j i
    let sent := x.elastic ++ l.map (levelOf (s.bit .lgrpLaneCfg [d, j, i] F.lgrpLaneCfg_TXPOL))
    let out := sent.length - 64
    let s := s.setLane d j i { x with
      rxSym := r.2,
      elastic := if loop = 3 then sent.drop out else [],
      line := if loop = 3 ∧ txIdle s d j i = false then sent.take out else x.line }
    let s := (if pam4 then (List.range (r.1.length / 2)).map (fun k => (r.1.drop (2 * k)).take 2) else r.1.map ([·])).foldl
      (checkSymbol d j i) s
    if r.1 = [] then s else ownerWord d j i r.1 s

/-- The transmitter of a lane of a JESD204C link takes a word of the design on TXNET (R442, R477). (DESIGN CHOICE, unsafe: log
entry 89.) -/
def jesdSend (d j i : Nat) (s : State) : State :=
  match laneOwner s d j i, jesdOn s d j i 1 with
  | 4, some l =>
    let g := laneGalley d j
    if netEdge s d g (s.fld .lgrpLaneCfg [d, j, i] F.lgrpLaneCfg_TXNET) then
      let cfg := s.reg .lgrpJesdCfg [d, j, l]
      let w := bitsNat (rawWidth s d j i) fun b => fedNow s d g (.laneOut i b)
      sendBits d j i (Config.linkEncode (F.lgrpJesdCfg_ENC.get cfg == 1) (F.lgrpJesdCfg_SCR.get cfg == 1) w) s
    else s
  | _, _ => s

/-- The word times of a cycle: receivers whose recovered clock has an edge, and transmitters of links. -/
def laneCycle (s : State) : State :=
  (List.range 96).foldl (fun t n =>
    let t := jesdSend (n / 24) (n % 24 / 8) (n % 8) t
    if Config.edge s.freeCtr (128 * (n / 24) + 40 + n % 24) then laneReceive (n / 24) (n % 24 / 8) (n % 8) t else t) s

def execRawTransmitWord (d : Fin 4) (j : Fin 3) (i : Fin 8) (offer : Option (BitVec 256)) (take : Bool) (s : State) :
    Host.Outcome State Fault Refusal := .next (rawWord d j i offer take s)

/-! JESD204C (R477 to R480). -/

/-- The link breaks R478: its ranges are bit rates, of two bits a symbol in PAM4 (R444). -/
def jesdBad (s : State) (d j l : Nat) : Bool :=
  let cfg := s.reg .lgrpJesdCfg [d, j, l]
  let ls := jesdLanes cfg
  let taken (i : Nat) : Bool := (List.range 4).any fun m =>
    decide (m ≠ l) && s.bit .lgrpJesdCfg [d, j, m] F.lgrpJesdCfg_EN &&
      decide (i ∈ jesdLanes (s.reg .lgrpJesdCfg [d, j, m]))
  let rate (i : Nat) : Bool :=
    let x := laneRate s d j i
    let x := if s.bit .lgrpLaneCfg [d, j, i] F.lgrpLaneCfg_MODE then (2 * x.1, x.2) else x
    if F.lgrpJesdCfg_ENC.get cfg = 1 then rateIn x 600000 3200000 else rateIn x 125000 1600000
  ls.any fun i => decide (8 ≤ i) || decide (laneOwner s d j i ≠ 4) || taken i || !rate i

/-- A write of `jesd[l].cfg` (R478): `sync` says that every lane synchronises. -/
def jesdCfgWrite (d j l : Nat) (sync : Bool) (v : W64) (s : State) : Nat × State :=
  let s := plainWrite .lgrpJesdCfg [d, j, l] v s
  let down := (s.setFld .lgrpJesdStatus [d, j, l] F.lgrpJesdStatus_SYNC 0).setFld .lgrpJesdStatus [d, j, l]
    F.lgrpJesdStatus_ALIGNED 0
  if F.lgrpJesdCfg_EN.get v = 0 then (OK, down.setHv .jesdBound [d, j, l] 0)
  else if jesdBad s d j l then (OK, jesdFlag d j l F.lgrpJesdStatus_LINKERR down)
  else if sync && (jesdLanes v).all (fun i => !laneIdle s d j i) then
    let s := s.setFld .lgrpJesdStatus [d, j, l] F.lgrpJesdStatus_SYNC 1
    (OK, if F.lgrpJesdCfg_SUBCLASS.get v = 0 ∨ s.hv .jesdBound [d, j, l] = 1 then
        s.setFld .lgrpJesdStatus [d, j, l] F.lgrpJesdStatus_ALIGNED 1 else s)
  else (OK, s)

/-- JESD_LINK_ENABLE: `cfg` written with EN 1 (R478). -/
def execJesdLinkEnable (who : Who) (d : Fin 4) (j : Fin 3) (l : Fin 4) (v : W64) (sync : Bool) (s : State) :
    Host.Outcome State Fault Refusal :=
  .next (regCommand who .lgrpJesdCfg [d, j, l] (jesdCfgWrite d j l sync (withBit F.lgrpJesdCfg_EN v)) s)

/-- A SYSREF edge at a link of subclass 1 (R479): it aligns the local clock of the block, and `off` says that it falls off the
boundary already held. -/
def sysrefEdge (d j l : Nat) (off : Bool) (s : State) : State :=
  if s.bit .lgrpJesdCfg [d, j, l] F.lgrpJesdCfg_EN && s.bit .lgrpJesdCfg [d, j, l] F.lgrpJesdCfg_SUBCLASS then
    if s.hv .jesdBound [d, j, l] = 0 then
      let s := s.setHv .jesdBound [d, j, l] 1
      if s.bit .lgrpJesdStatus [d, j, l] F.lgrpJesdStatus_SYNC then s.setFld .lgrpJesdStatus [d, j, l] F.lgrpJesdStatus_ALIGNED 1
      else s
    else if off then jesdFlag d j l F.lgrpJesdStatus_SYSERR s
    else s
  else s

/-- The source of a SYSREF edge is on: the internal one while SYSPER is not 0 (R506). -/
def sysrefOn (s : State) (src : Nat) : Bool := decide (src ≠ 8) || decide (s.fld .timeOut [] F.timeOut_SYSPER ≠ 0)

/-- SYSREF_EDGE from the source that SYSSRC names (R479). -/
def execSysrefEdge (d : Fin 4) (j : Fin 3) (l : Fin 4) (src : Fin 9) (off : Bool) (s : State) :
    Host.Outcome State Fault Refusal :=
  .next (if s.fld .lgrpJesdCfg [d, j, l] F.lgrpJesdCfg_SYSSRC = src.val ∧ sysrefOn s src = true then sysrefEdge d j l off s else s)

/-- JESD_SYNC_LOSS (R480). -/
def execJesdSyncLoss (d : Fin 4) (j : Fin 3) (l : Fin 4) (s : State) : Host.Outcome State Fault Refusal :=
  .next (jesdLoss d j l s)

/-- JESD_CRC_ERROR (R480). -/
def execJesdCrcError (d : Fin 4) (j : Fin 3) (l : Fin 4) (s : State) : Host.Outcome State Fault Refusal :=
  .next (if s.bit .lgrpJesdCfg [d, j, l] F.lgrpJesdCfg_EN then jesdFlag d j l F.lgrpJesdStatus_CRCERR s else s)

end Sys2Proof.Machine
end

