-- ==== Sys2Proof/Machine/BurstCode.lean ====
section
/-! DEFINITION. The code of a DRAM burst (R413 to R416), on the bits by which a stored line differs from its code word:
72 symbols of 8 bits, symbol i in bits 8i + 7 to 8i. -/

namespace Sys2Proof.Machine
open Sys2Proof

/-- Multiply by the root of the field polynomial x^8 + x^4 + x^3 + x^2 + 1. -/
def gfX (a : Byte) : Byte := (a <<< 1) ^^^ (if a.getLsbD 7 then 0x1D else 0)

/-- The product in GF(2^8). -/
def gfMul (a b : Byte) : Byte :=
  ((List.range 8).foldl (fun (p : Byte × Byte) k => (if b.getLsbD k then p.1 ^^^ p.2 else p.1, gfX p.2)) (0, a)).1

def gfPow (a : Byte) : Nat → Byte
  | 0 => 1
  | n + 1 => gfMul (gfPow a n) a

/-- The inverse: a^254. -/
def gfInv (a : Byte) : Byte := gfPow a 254

/-- The locator of symbol i: α^i. -/
def locator (i : Nat) : Byte := gfPow 2 i

/-- Symbol i of an error vector. -/
def symbolOf (e : BitVec 576) (i : Nat) : Byte := (e >>> (8 * i)).setWidth 8

/-- An error vector with the given symbols. -/
def vectorOf (l : List (Nat × Byte)) : BitVec 576 :=
  l.foldl (fun (e : BitVec 576) (p : Nat × Byte) => e ^^^ ((p.2.setWidth 576) <<< (8 * p.1))) 0

/-- The eight syndromes: the value of the polynomial at α^0 to α^7 (R413). -/
def syndromes (e : BitVec 576) : List Byte :=
  (List.range 8).map fun j =>
    (List.range 72).foldl (fun a i => a ^^^ gfMul (symbolOf e i) (gfPow (locator i) j)) 0

/-- The product of x + q over a list of locators, lowest coefficient first. -/
def polyOf : List Byte → List Byte
  | [] => [1]
  | q :: r =>
    let p := polyOf r
    (List.zipWith (· ^^^ ·) (p.map (gfMul q) ++ [0]) (0 :: p))

def polyAt (p : List Byte) (x : Byte) : Byte := p.foldr (fun c a => c ^^^ gfMul a x) 0

/-- The symbols at the listed positions that would give the syndromes, from the first of them. -/
def solveAt (syn : List Byte) (pos : List Nat) : List (Nat × Byte) :=
  pos.map fun p =>
    let l := polyOf ((pos.filter (fun q => decide (q ≠ p))).map locator)
    let num := (List.zipWith gfMul l syn).foldl (· ^^^ ·) 0
    (p, gfMul num (gfInv (polyAt l (locator p))))

/-- The error pattern on the listed positions with these syndromes, when there is one. -/
def patternAt (syn : List Byte) (pos : List Nat) : Option (BitVec 576) :=
  let e := vectorOf (solveAt syn pos)
  if syndromes e = syn then some e else none

/-- How many symbols of a pattern are wrong. -/
def weight (e : BitVec 576) : Nat := ((List.range 72).filter (fun i => decide (symbolOf e i ≠ 0))).length

/-- The symbols of a device (R414). -/
def deviceSymbols (x4 : Bool) (v : Nat) : List Nat :=
  if x4 then (List.range 4).map (4 * v + ·) else (List.range 8).map (8 * v + ·)

/-- A pattern of at most four wrong symbols in one device (R414). -/
def oneDevice (x4 : Bool) (syn : List Byte) : Option (BitVec 576) :=
  (List.range (if x4 then 18 else 9)).findSome? fun v =>
    match patternAt syn (deviceSymbols x4 v) with
    | some e => if weight e ≤ 4 then some e else none
    | none => none

/-- A pattern in the erased device and at most two further symbols (R415). -/
def withErasure (v : Nat) (syn : List Byte) : Option (BitVec 576) :=
  let dev := deviceSymbols true v
  let others := (List.range 72).filter (fun i => !(dev.contains i))
  (patternAt syn dev).orElse fun _ =>
    others.findSome? fun i =>
      (patternAt syn (dev ++ [i])).orElse fun _ =>
        (others.filter (fun j => decide (i < j))).findSome? fun j => patternAt syn (dev ++ [i, j])

/-- The pattern that the decoder corrects: `erase` is the erased device, if any (R414, R415). -/
def correctable (x4 : Bool) (erase : Option Nat) (syn : List Byte) : Option (BitVec 576) :=
  match erase with
  | some v => withErasure v syn
  | none => oneDevice x4 syn

/-- The poison pattern (R416). -/
def poisonPattern : BitVec 576 := vectorOf ((List.range 8).map (fun i => (64 + i, 0xFF)))

/-- What the decoder finds (R416, R417): the error left in the delivered line, and the corrected pattern. -/
inductive BurstResult where
  | clean (residue : BitVec 576)
  | corrected (residue pattern : BitVec 576)
  | poisoned
  | uncorrectable
  deriving DecidableEq, Repr

/-- Decode a line with error vector e (R416). Without erasure the poison pattern is not correctable, so that a codeword is
clean; with the erasure of device 5, 12 or 17 it is, and a codeword reads as poisoned by step 2. -/
def decodeBurst (x4 : Bool) (erase : Option Nat) (e : BitVec 576) : BurstResult :=
  if e = 0 ∧ erase = none then .clean 0
  else
    let syn := syndromes e
    let synP := List.zipWith (· ^^^ ·) syn (syndromes poisonPattern)
    if synP.all (· == 0) then .poisoned
    else if (correctable x4 erase synP).isSome then .poisoned
    else if syn.all (· == 0) then .clean e
    else match correctable x4 erase syn with
      | some p => .corrected (e ^^^ p) p
      | none => .uncorrectable

/-- The data bits that an error vector changes: DQ 8m + n carries bit n of line byte 8b + m in beat b (R413). -/
def dataMask (e : BitVec 576) : Nat :=
  (List.range 64).foldl (fun a t =>
    let m := t % 8
    let b := t / 8
    let byte := (List.range 8).foldl (fun x n => if e.getLsbD (8 * (8 * m + n) + b) then x + 2 ^ n else x) 0
    a + byte * 256 ^ t) 0

/-- The device that a correction locates: that of the first wrong symbol outside the erased device, or the erased device
(R417, R428). -/
def locatedDevice (x4 : Bool) (erase : Option Nat) (p : BitVec 576) : Nat :=
  let per := if x4 then 4 else 8
  let bad := ((List.range 72).filter (fun i => decide (symbolOf p i ≠ 0))).map (· / per)
  match bad.find? (fun v => decide (some v ≠ erase)) with
  | some v => v
  | none => bad.headD 0

end Sys2Proof.Machine
end

