-- ==== Sys2Proof/Machine/Ddr.lean ====
section
/-! DEFINITION. The DDR4 controllers: the map (R407 to R412), the cleanliness map (R389 to R396), line accesses (R413 to
R421), the queue (R422 to R427), refresh and training (R432 to R437). -/

namespace Sys2Proof.Machine
open Sys2Proof

/-! The address map (R407, R408, R410): one set of registers for each die. -/

/-- The channel (0 to 7) and channel address of a DRAM address under the map of die d; none is DECODE. -/
def dramMap (s : State) (d a : Nat) : Option (Nat × Nat) :=
  if s.fld .ddrMapcap [d, 0] F.ddrMapcap_CAP * 2 ^ 28 ≤ a then none
  else (List.range 4).findSome? (fun j =>
    let r := s.reg .ddrMap [d, 0, j]
    let base := F.ddrMap_BASE.get r * 2 ^ 28
    if F.ddrMap_EN.get r = 1 ∧ F.ddrMap_GRAIN.get r ≤ 12 ∧ base ≤ a ∧ a < base + F.ddrMap_SIZE.get r * 2 ^ 28 then
      let o := a - base
      let g := 2 ^ (F.ddrMap_GRAIN.get r + 8)
      let w := 2 ^ F.ddrMap_WAYS.get r
      some (F.ddrMap_FIRST.get r + o / g % w, F.ddrMap_CHOFF.get r * 2 ^ 28 + o / (g * w) * g + o % g)
    else none) >>= fun (ch, ca) => if ch ≤ 7 then some (ch, ca) else none

/-! State of a controller. -/

def State.ddr (s : State) (d k : Nat) : DdrState := s.ddrs.get DdrState.init (d, k)
def State.setDdr (s : State) (d k : Nat) (x : DdrState) : State := { s with ddrs := s.ddrs.set (d, k) x }

/-- The DRAM of a channel. -/
def dramBase (d k : Nat) : Nat := 2 ^ 48 + (2 * d + k) * 2 ^ 40

def ddrEp (d k : Nat) : Nat := outerEp d (if k = 0 then 1 else 6) 0

def ddrState (s : State) (d k : Nat) : Nat := s.fld .ddrStatus [d, k] F.ddrStatus_STATE

/-- The trained capacity in bytes (R412). -/
def ddrCap (s : State) (d k : Nat) : Nat := s.fld .ddrStatus [d, k] F.ddrStatus_CAPG * 2 ^ 30

/-- The options that took effect at the last INIT (R437). -/
def ddrX4 (s : State) (d k : Nat) : Bool := decide (F.ddrCfg_X4.get (BitVec.ofNat 64 (s.hv .ddrCfg [d, k])) = 1)
def ddrTwoRanks (s : State) (d k : Nat) : Bool :=
  decide (F.ddrCfg_RANKS.get (BitVec.ofNat 64 (s.hv .ddrCfg [d, k])) = 1)

/-- The erased device (R415). -/
def ddrErase (s : State) (d k : Nat) : Option Nat :=
  let v := s.fld .ddrCfg [d, k] F.ddrCfg_ERASE_DEV
  if s.bit .ddrCfg [d, k] F.ddrCfg_ERASE_EN && ddrX4 s d k && decide (v ≤ 17) then some v else none

/-- Set a flag of `eflags` and raise the event of the channel (R429). -/
def ddrFlag (d k : Nat) (f : Fld) (s : State) : State := (s.setFld .ddrEflags [d, k] f 1).raiseEvent d (168 + k)

/-- A corrected line (R417, R428). -/
def ddrCorrected (d k dev : Nat) (s : State) : State :=
  let s := ddrFlag d k F.ddrEflags_CE (s.bumpFld .ddrEcnt [d, k] F.ddrEcnt_CE 1)
  let n := if s.fld .ddrElog [d, k] F.ddrElog_LASTDEV = dev then min (s.fld .ddrElog [d, k] F.ddrElog_SAMEDEV + 1) 65535
    else 1
  let s := (s.setFld .ddrElog [d, k] F.ddrElog_LASTDEV dev).setFld .ddrElog [d, k] F.ddrElog_SAMEDEV n
  if n = 256 then ddrFlag d k F.ddrEflags_DEVREP s else s

/-- A poisoned or uncorrectable line (R417, R428). -/
def ddrLost (d k line : Nat) (poison : Bool) (s : State) : State :=
  let s := s.bumpFld .ddrEcnt [d, k] F.ddrEcnt_UE 1
  if s.bit .ddrEflags [d, k] F.ddrEflags_UE then ddrFlag d k F.ddrEflags_OVER s
  else ddrFlag d k F.ddrEflags_UE
    ((s.setFld .ddrElog [d, k] F.ddrElog_LINE line).setFld .ddrElog [d, k] F.ddrElog_POISON poison.toNat)

/-! Line accesses. -/

/-- A line as DRAM delivers it (R417): its data, whether it was corrected, whether it is bad, and the state after the
count. -/
structure LineRead where
  data : Nat
  corr : Bool
  bad : Bool
  s : State

/-- Read and decode a line in DRAM (R413 to R417). -/
def lineRead (d k line : Nat) (s : State) : LineRead :=
  let a := dramBase d k + 64 * line
  let raw := s.mem.readN a 64
  let er := ddrErase s d k
  match decodeBurst (ddrX4 s d k) er (s.mem.lines.get (a / 64)) with
  | .clean e => ⟨raw ^^^ dataMask e, false, false, s⟩
  | .corrected e p => ⟨raw ^^^ dataMask e, true, false, ddrCorrected d k (locatedDevice (ddrX4 s d k) er p) s⟩
  | .poisoned => ⟨0, false, true, ddrLost d k line true s⟩
  | .uncorrectable => ⟨0, false, true, ddrLost d k line false s⟩

/-- Write a whole line, poisoned or with fresh check symbols (R418). -/
def lineWrite (d k line data : Nat) (poison : Bool) (s : State) : State :=
  let a := dramBase d k + 64 * line
  let m := s.mem.writeN a 64 data
  { s with mem := { m with lines := m.lines.set (a / 64) (if poison then poisonPattern else 0) } }

/-- The bytes of a line with some of them replaced. -/
def mergeBytes (old lo len data : Nat) : Nat :=
  old % 256 ^ lo + data % 256 ^ len * 256 ^ lo + old / 256 ^ (lo + len) * 256 ^ (lo + len)

/-- Clear the locked reservations on a 64-byte granule, of every source but one (R312). -/
def ddrClearResv (d k line : Nat) (keep : Option Nat) (s : State) : State :=
  let x := s.ddr d k
  s.setDdr d k { x with resv := x.resv.filter (fun r => decide (r.2 ≠ line) || decide (some r.1 = keep)) }

/-! The cleanliness map (R389 to R396). -/

/-- Check the map byte of a granule (R396): an uncorrectable byte puts its eight granules into map loss. -/
def cmapCheck (d k granule : Nat) (s : State) : State :=
  let x := s.ddr d k
  let b := granule / 8
  if b ∈ x.lost then s
  else
    let a := cmapBase d k + b
    let s := integ s d 6 (2 ^ 20 * k + granule / 8 * 8) (b % 64) (s.mem.corrN a 1) (s.mem.badN a 1)
    if s.mem.badN a 1 = 0 then s
    else ((s.setDdr d k { x with lost := x.lost ++ [b] }).setFld .integEflags [d] F.integEflags_MAPLOST 1).raiseEvent d 166

def inMapLoss (s : State) (d k granule : Nat) : Bool := (s.ddr d k).lost.contains (granule / 8)

/-- The map bit of a granule: written (R389). -/
def mapBit (s : State) (d k granule : Nat) : Bool :=
  decide (s.mem.readN (cmapBase d k + granule / 8) 1 / 2 ^ (granule % 8) % 2 = 1)

/-- Set or clear the map bit of a granule whose map byte has been checked. -/
def setMapBit (d k granule : Nat) (v : Bool) (s : State) : State :=
  let a := cmapBase d k + granule / 8
  let old := s.mem.readN a 1
  let on := old / 2 ^ (granule % 8) % 2
  let new := old - on * 2 ^ (granule % 8) + v.toNat * 2 ^ (granule % 8)
  { s with mem := s.mem.write a (BitVec.ofNat 8 new) }

def slotOfGranule (s : State) (d k granule : Nat) : Option FillSlot :=
  (s.ddr d k).slots.find? (fun f => f.granule == granule)

/-- The line reads as zero without an access to DRAM (R391, R393). -/
def lineUnwritten (s : State) (d k line : Nat) : Bool :=
  let g := line / 1024
  !inMapLoss s d k g && !mapBit s d k g &&
    (match slotOfGranule s d k g with
      | some f => decide (f.done / 2 ^ (line % 1024) % 2 = 0)
      | none => true)

/-- Set the done bit of a line whose granule holds a slot (R393). -/
def setDone (d k line : Nat) (s : State) : State :=
  let x := s.ddr d k
  let i := line % 1024
  s.setDdr d k { x with slots := x.slots.map fun f =>
    if f.granule = line / 1024 ∧ f.done / 2 ^ i % 2 = 0 then { f with done := f.done + 2 ^ i } else f }

/-- A request that writes needs a slot for its granule (R392). -/
def needsSlot (s : State) (d k granule : Nat) : Bool :=
  !inMapLoss s d k granule && !mapBit s d k granule && (slotOfGranule s d k granule).isNone

/-- Allocate a free slot (R392). -/
def allocSlot (d k granule : Nat) (s : State) : State :=
  let x := s.ddr d k
  s.setDdr d k { x with slots := x.slots ++ [{ granule := granule, done := 0 }] }

/-! Performing a line of a request. -/

/-- The result of one line: STATUS, data of the line, whether it is marked, and the state. -/
structure LineDone where
  status : Nat
  data : Nat
  bad : Bool
  s : State

/-- The old value of a line for a merge or an atomic (R393, R396, R419). -/
def oldLine (d k line : Nat) (s : State) : LineRead :=
  if lineUnwritten s d k line then ⟨0, false, false, s⟩ else lineRead d k line s

/-- A read of a line (R391, R393, R396, R417); a scrub read gives the status payload (R398). -/
def performRead (d k : Nat) (scrub : Bool) (e : DramEntry) (s : State) : LineDone :=
  let ones (v : Nat) : Nat := (List.range e.len).foldl (fun a i => a + v * 256 ^ i) 0
  if inMapLoss s d k (e.line / 1024) then
    ⟨OK, if scrub then ones 2 else 0, true, s⟩
  else if lineUnwritten s d k e.line then ⟨OK, if scrub then ones 3 else 0, false, s⟩
  else
    let r := lineRead d k e.line s
    if scrub then ⟨OK, if r.bad then ones 2 else if r.corr then ones 1 else 0, false, r.s⟩
    else ⟨OK, r.data / 256 ^ e.lo % 256 ^ e.len, r.bad, r.s⟩

/-- A write of a line, whole or merged (R393, R396, R418 to R420). -/
def performWrite (d k : Nat) (e : DramEntry) (s : State) : State :=
  let s := ddrClearResv d k e.line none s
  if e.len = 64 then setDone d k e.line (lineWrite d k e.line e.data (decide (e.bad ≠ 0)) s)
  else
    let o := oldLine d k e.line s
    let new := if o.bad then 0 else mergeBytes o.data e.lo e.len e.data
    setDone d k e.line (lineWrite d k e.line new (o.bad || decide (e.bad ≠ 0)) o.s)

/-- A line of a locked write (R312, R418, R421): `held` says that the reservation of its source named the granule of its
address; the other reservations that the controller keeps on the granule stay, and R107 clears those that other cores hold
themselves. (DEDUCED, safe: log entry 69.) -/
def performLocked (d k : Nat) (held : Bool) (e : DramEntry) (s : State) : LineDone :=
  if !held then ⟨NOSTORE, 0, false, s⟩
  else if inMapLoss s d k (e.line / 1024) then
    let o := lineRead d k e.line s
    ⟨OK, 0, false, setDone d k e.line (lineWrite d k e.line (if o.bad then 0 else mergeBytes o.data e.lo e.len e.data)
      (o.bad || decide (e.bad ≠ 0)) o.s)⟩
  else
    let o := oldLine d k e.line s
    if o.bad then ⟨OK, 0, true, o.s⟩
    else ⟨OK, 0, false, setDone d k e.line
      (lineWrite d k e.line (mergeBytes o.data e.lo e.len e.data) (decide (e.bad ≠ 0)) o.s)⟩

/-- An atomic (R103, R315, R396, R421). -/
def performAtomic (d k : Nat) (r : Req) (e : DramEntry) (s : State) : LineDone :=
  if inMapLoss s d k (e.line / 1024) then ⟨OK, 0, true, s⟩
  else
    let o := oldLine d k e.line s
    if o.bad then ⟨OK, 0, true, o.s⟩
    else
      let old := o.data / 256 ^ e.lo % 256 ^ e.len
      let new := atomicNew r.afn (decide (e.len = 8)) old r.data r.cmp.toNat
      let s := ddrClearResv d k e.line none o.s
      ⟨OK, old, false, setDone d k e.line (lineWrite d k e.line (mergeBytes o.data e.lo e.len new) false s)⟩

/-- A write at the controller clears the reservation that a core's locked load would still set: the load has been performed, as
its record `l` shows, and its response is under way (R107). -/
def lklPassed (l : List (Nat × Nat)) (w : Option Who) (line a : Nat) (s : State) : State :=
  { s with units := s.units.map fun e =>
      if decide (w ≠ some (s.whoOf e.1)) && l.contains (epOf (s.whoOf e.1), line) then
        (e.1, { e.2 with outs := e.2.outs.map fun p => if p.remote && p.addr / 64 == a / 64 then p.noReserve else p })
      else e }

/-- A line has been written for an initiator (R102, R107): `l` are the records of the controller before. -/
def lineWritten (l : List (Nat × Nat)) (w : Option Who) (line a : Nat) (s : State) : State :=
  dramWritten w a (lklPassed l w line a s)

/-- The first line of a locked write decides for all of them, and clears the reservation of its source (R312). -/
def lockDecide (d k : Nat) (q : DramReq) (line : Nat) (s : State) : DramReq × State :=
  if q.req.lock && decide (q.req.op = .wr) && q.perf.isNone then
    let x := s.ddr d k
    let src := epOf q.req.who
    ({ q with perf := some (x.resv.contains (src, line)) },
      s.setDdr d k { x with resv := x.resv.filter (fun r => decide (r.1 ≠ src)) })
  else (q, s)

/-- Perform one line of a request. -/
def performLine (d k : Nat) (q : DramReq) (e : DramEntry) (s : State) : LineDone :=
  let r := q.req
  let l := (s.ddr d k).resv
  match r.op with
  | .rd =>
    let o := performRead d k (match r.who with | .scrub _ => true | _ => false) e s
    if r.lock then
      let x := o.s.ddr d k
      let src := epOf r.who
      { o with s := o.s.setDdr d k { x with resv := x.resv.filter (fun v => decide (v.1 ≠ src)) ++ [(src, e.line)] } }
    else o
  | .wr =>
    let o := if r.lock then performLocked d k (q.perf.getD false) e s else ⟨OK, 0, false, performWrite d k e s⟩
    if o.status = OK ∧ o.bad = false then { o with s := lineWritten l (some r.who) e.line (r.addr + e.off) o.s } else o
  | .at_ =>
    let o := performAtomic d k r e s
    if o.bad then o else { o with s := lineWritten l (some r.who) e.line (r.addr + e.off) o.s }

/-- A request of which every line is performed is answered (R308, R336): a marked line marks both its sectors
(R417). -/
def ddrReply (d k : Nat) (q : DramReq) (s : State) : State :=
  let pm := match q.req.op with
    | .rd => sectors q.bad
    | _ => if q.bad = 0 then 0 else 1
  respond (ddrEp d k) q.req q.tag q.gen q.status q.data pm s

/-- Put the result of a line into its request. -/
def lineInto (q : DramReq) (e : DramEntry) (o : LineDone) : DramReq :=
  { q with left := q.left - 1, data := q.data + o.data * 256 ^ e.off,
           bad := q.bad + (if o.bad then (2 ^ e.len - 1) * 2 ^ e.off else 0),
           status := if o.status = OK then q.status else o.status }

/-- Perform an entry of the queue, with a fill slot where it needs one (R392), and answer its request when it was the last. -/
def performEntry (d k : Nat) (e : DramEntry) (s : State) : State :=
  let x := s.ddr d k
  let s := s.setDdr d k { x with queue := x.queue.filter (fun q => decide (q.id ≠ e.id)) }
  match x.reqs.find? (fun q => q.rid == e.rid) with
  | none => s
  | some q =>
    let s := if q.req.op ≠ .rd ∧ needsSlot s d k (e.line / 1024) = true then allocSlot d k (e.line / 1024) s else s
    let t := lockDecide d k q (q.req.ca / 64) s
    let o := performLine d k t.1 e t.2
    let q := lineInto t.1 e o
    let y := o.s.ddr d k
    if q.left = 0 then
      ddrReply d k q (o.s.setDdr d k { y with reqs := y.reqs.filter (fun r => decide (r.rid ≠ q.rid)) })
    else o.s.setDdr d k { y with reqs := y.reqs.map (fun r => if r.rid = q.rid then q else r) }

/-! Arrival (R422, R423, R427). -/

/-- The service class of a request that arrives: real-time for a port whose PANIC is 1 (R423, R427). -/
def panicOf (s : State) : Who → Bool
  | .fport d g k =>
    decide (s.hv .panic [d, g, k] = 1) && s.bit .galleyFportCfg (liveIx [d, g, k]) F.galleyFportCfg_RT
  | _ => false

/-- The entries of the queue, and the lines in the real-time buffer before it (R422). -/
def DdrState.entries (x : DdrState) : List DramEntry := x.queue.filter (fun e => !e.buf)
def DdrState.buffered (x : DdrState) : List DramEntry := x.queue.filter (·.buf)

/-- The real-time lines that wait at a channel. -/
def DdrState.rtLines (x : DdrState) : Nat := (x.queue.filter (fun e => e.cls == 3)).length

/-- There is space for n lines of a class (R422, R431): the queue has 64 entries, at most 56 of them below real-time, and the
buffer before it has 32; a real-time request enters while fewer than 40 real-time lines wait. (DEDUCED, unsafe: log entry 31.) -/
def ddrSpace (s : State) (d k n : Nat) (rt : Bool) : Bool :=
  let x := s.ddr d k
  if rt then decide (x.rtLines < 40) || decide (x.queue.length + n ≤ 64 + 32)
  else decide (x.entries.length + n ≤ 64) && decide ((x.entries.filter (fun e => e.cls != 3)).length + n ≤ 56)

/-- The lines of the buffer enter the queue as entries come free, in order (R422). -/
def refill (x : DdrState) : DdrState :=
  let free := 64 - x.entries.length
  let go := (x.buffered.take free).map (·.id)
  { x with queue := x.queue.map fun e => if e.id ∈ go then { e with buf := false, age := 0 } else e }

/-- The entries of a request at channel address ca. -/
def ddrEntries (r : Req) (ca rid id : Nat) (cls : Nat) (panic : Bool) : List DramEntry :=
  let ls := splitBlocks 64 ca r.len (r.len / 64 + 2)
  (ls.zip (List.range ls.length)).map fun ((a, n), i) =>
    { id := id + i, rid := rid, line := a / 64, lo := a % 64, len := n, off := a - ca, op := r.op,
      data := r.data / 256 ^ (a - ca) % 256 ^ n, bad := sectorBytes r.pmask r.len / 2 ^ (a - ca) % 2 ^ n,
      cls := cls, age := 0, panic := panic, buf := decide (cls = 3) }

def DramEntry.isWrite (e : DramEntry) : Bool := decide (e.op ≠ .rd)

/-- The order of accesses to one line (R424), and of those accepted after a clear (R395). -/
def entryFree (x : DdrState) (e : DramEntry) : Bool :=
  x.queue.all (fun f => decide (e.id ≤ f.id) || decide (f.line ≠ e.line) || (!e.isWrite && !f.isWrite)) &&
    (match x.clr with | some (n, _) => decide (e.id < n) | none => true)

/-- The lines of the buffer enter the queue, and a read of an unwritten line whose turn it is is served without a DRAM command
(R391, R422). -/
def ddrSettle (d k : Nat) : Nat → State → State
  | 0, s => s
  | n + 1, s =>
    let s := s.setDdr d k (refill (s.ddr d k))
    let x := s.ddr d k
    match x.entries.find? (fun e => !e.isWrite && entryFree x e && lineUnwritten s d k e.line) with
    | some e => ddrSettle d k n (performEntry d k e s)
    | none => s

/-- Settle the queue of a controller. -/
def ddrSettled (d k : Nat) (s : State) : State := ddrSettle d k ((s.ddr d k).queue.length + 1) s

/-- A request reaches the controller; none while it must wait for space (R422). A request of a
channel that is not Ready, or beyond the trained capacity, is answered with DECODE (R412, R435); while the ranks are in
self-refresh it waits (R434). (DEDUCED, unsafe: log entry 31.) -/
def ddrArrive (d k ca : Nat) (r : Req) (tag gen : Nat) (s : State) : Option State :=
  let st := ddrState s d k
  if st = 5 then none
  else if st ≠ 3 ∨ ddrCap s d k < ca + r.len then some (respond (ddrEp d k) r tag gen DECODE 0 0 s)
  else
    let panic := panicOf s r.who
    let cls := if panic then 3 else r.pri
    let s := cmapCheck d k (ca / 65536) s
    let x := s.ddr d k
    let es := ddrEntries r ca x.nextId x.nextId cls panic
    if !ddrSpace s d k es.length (decide (cls = 3)) then none
    else
      let q : DramReq :=
        { rid := x.nextId, req := { r with ca := ca }, tag := tag, gen := gen, left := es.length, data := 0, bad := 0,
          status := OK }
      some (ddrSettle d k (x.queue.length + es.length + 1)
        (s.setDdr d k { x with queue := x.queue ++ es, reqs := x.reqs ++ [q], nextId := x.nextId + es.length + 1 }))

/-! The next DRAM command (R424 to R426, R433). -/

/-- The rank, the bank (rank, bank group and bank) and the row of a line (R412). -/
def lineRank (two : Bool) (line : Nat) : Nat := if two then line / 2 ^ 11 % 2 else 0
def lineRow (two : Bool) (line : Nat) : Nat := line / 2 ^ (if two then 12 else 11)
def lineGroup (two : Bool) (line : Nat) : Nat := (line / 8 % 4) ^^^ (lineRow two line % 4)
def lineInner (two : Bool) (line : Nat) : Nat := (line / 2 ^ 9 % 4) ^^^ (lineRow two line / 4 % 4)
def lineBank (two : Bool) (line : Nat) : Nat := lineRank two line * 16 + lineGroup two line * 4 + lineInner two line

/-- The column of a line: that of its first beat (R412). -/
def lineColumn (line : Nat) : Nat := line / 32 % 16 * 64 + line % 8 * 8

/-- An entry waits for a fill slot: it writes an unwritten granule that no slot holds, and none is free (R394). -/
def slotWaits (s : State) (d k : Nat) (e : DramEntry) : Bool :=
  e.isWrite && needsSlot s d k (e.line / 1024) && decide (8 ≤ (s.ddr d k).slots.length)

/-- The lowest line of a slot that is not done, if any. -/
def FillSlot.next (f : FillSlot) : Option Nat := (List.range 1024).find? (fun i => f.done / 2 ^ i % 2 = 0)

/-- The next line write of the fill engine for each slot, in the bulk class (R392, R394, R423). They are numbered after the
entries of the queue. (DEDUCED, unsafe: log entry 31.) -/
def fillEntries (x : DdrState) : List DramEntry :=
  (x.slots.zip (List.range x.slots.length)).filterMap fun (f, j) => f.next.map fun i =>
    { id := x.nextId + j, rid := 0, line := f.granule * 1024 + i, lo := 0, len := 64, off := 0, op := .wr, data := 0, bad := 0,
      cls := 0, age := f.age, panic := false }

/-- What the controller may issue a command for: the entries of the queue and the line writes of the fill engine. -/
def DdrState.work (x : DdrState) : List DramEntry := x.entries ++ fillEntries x

/-- The granule of a slot is filled: its map bit is set and the slot freed (R392), unless the granule is in map loss (R396). -/
def completeSlot (d k granule : Nat) (s : State) : State :=
  let s := cmapCheck d k granule s
  let x := s.ddr d k
  let s := s.setDdr d k { x with slots := x.slots.filter (fun e => decide (e.granule ≠ granule)) }
  if inMapLoss s d k granule then s else setMapBit d k granule true s

/-- The fill engine writes a line (R392). -/
def fillLine (d k line : Nat) (s : State) : State :=
  let s := setDone d k line (lineWrite d k line 0 false s)
  let x := s.ddr d k
  let g := line / 1024
  let s := s.setDdr d k { x with slots := x.slots.map fun f => if f.granule = g then { f with age := 0 } else f }
  match slotOfGranule s d k g with
  | some f => if f.next = none then completeSlot d k g s else s
  | none => s

/-- The signed debt of a rank (R433). -/
def debtFld (rank : Nat) : Fld := if rank = 0 then F.ddrStatus_DEBT0 else F.ddrStatus_DEBT1
def debt (s : State) (d k rank : Nat) : Int := (BitVec.ofNat 5 (s.fld .ddrStatus [d, k] (debtFld rank))).toInt
def setDebt (d k rank : Nat) (v : Int) (s : State) : State :=
  s.setFld .ddrStatus [d, k] (debtFld rank) (BitVec.ofInt 5 v).toNat

/-- The row of a line is open. -/
def rowOpen (x : DdrState) (two : Bool) (line : Nat) : Bool :=
  decide (x.rows.get 0 (lineBank two line) = lineRow two line + 1)

/-- The port whose line an entry is has PANIC 1 (R427). -/
def panicNow (s : State) (d k : Nat) (e : DramEntry) : Bool :=
  (s.ddr d k).reqs.any fun q => decide (q.rid = e.rid) && panicOf s q.req.who

/-- The age limit of an entry (R425, R427): 0 for none. A line that panic raised has PANIC_AGE while PANIC is 1. -/
def ageLimit (s : State) (d k : Nat) (e : DramEntry) : Nat :=
  let f := if e.panic && panicNow s d k e then F.ddrSched_PANIC_AGE else match e.cls with
    | 3 => F.ddrSched_AGE_RT | 2 => F.ddrSched_AGE_HI | 1 => F.ddrSched_AGE_NORM | _ => F.ddrSched_AGE_BULK
  s.fld .ddrSched [d, k] f

/-- The rank of an entry, lowest first (R425). -/
def entryRank (s : State) (d k : Nat) (e : DramEntry) : List Nat :=
  let x := s.ddr d k
  let lim := ageLimit s d k e
  let aged := decide (lim ≠ 0) && decide (lim ≤ e.age / 64)
  let rw := if decide (s.hv .wrMode [d, k] = 1) = e.isWrite then 0 else 1
  let row := if rowOpen x (ddrTwoRanks s d k) e.line then 0 else 1
  if e.cls = 3 then (if aged then [2, e.id] else [3, rw, row, e.id])
  else if aged then [4, e.id]
  else [5, 3 - e.cls, rw, row, e.id]

/-- Lists of numbers in order. -/
def listLt : List Nat → List Nat → Bool
  | a :: p, b :: q => decide (a < b) || (decide (a = b) && listLt p q)
  | [], _ :: _ => true
  | _, [] => false

/-- A write that a waiting read needs ranks as that read (R425). (DEDUCED, unsafe: log entry 31.) -/
def rankOf (s : State) (d k : Nat) (e : DramEntry) : List Nat :=
  let x := s.ddr d k
  let waits := x.queue.filter (fun f => e.isWrite && !f.isWrite && decide (f.line = e.line) && decide (e.id < f.id))
  waits.foldl (fun a f => let b := entryRank s d k f; if listLt b a then b else a) (entryRank s d k e)

/-- The first of the entries in rank order. -/
def bestEntry (s : State) (d k : Nat) (l : List DramEntry) : Option DramEntry :=
  l.foldl (fun a e => match a with
    | none => some e
    | some b => if listLt (rankOf s d k e) (rankOf s d k b) then some e else some b) none

/-- Close the banks of a rank, then refresh it: a command of mode 2x or 4x counts half or a quarter (R432, R433). -/
def refreshRank (d k rank : Nat) (s : State) : State :=
  let x := s.ddr d k
  let s := s.setDdr d k { x with rows := x.rows.keep (fun b => decide (b / 16 ≠ rank)) }
  let per := match s.fld .ddrCfg [d, k] F.ddrCfg_FGR with | 1 => 2 | 2 => 1 | _ => 4
  let part := s.hv .refPart [d, k, rank] + per
  let s := (s.setHv .powerDown [d, k, rank] 0).setHv .refNow [d, k, rank] 1
  if 4 ≤ part then setDebt d k rank (debt s d k rank - 1) (s.setHv .refPart [d, k, rank] (part - 4))
  else s.setHv .refPart [d, k, rank] part

/-- A rank has no queued entry. -/
def rankEmpty (s : State) (d k rank : Nat) : Bool :=
  (s.ddr d k).work.all (fun e => decide (lineRank (ddrTwoRanks s d k) e.line ≠ rank))

/-- A rank exists (R404). -/
def rankExists (s : State) (d k rank : Nat) : Bool := decide (rank = 0) || ddrTwoRanks s d k

/-- A `mem` cycle of a rank that has no queued entry and no refresh due; any other starts the count anew (R426). -/
def rankTick (d k : Nat) (s : State) (rank : Nat) : State :=
  s.setHv .rankIdle [d, k, rank]
    (if rankEmpty s d k rank && decide (debt s d k rank ≤ 0) then min (s.hv .rankIdle [d, k, rank] + 1) 256 else 0)

/-- One `mem` cycle of age for every entry, the write mode, and the idle ranks (R423, R425, R426). -/
def ddrTick (d k : Nat) (s : State) : State :=
  let s := [0, 1].foldl (rankTick d k) s
  let x := s.ddr d k
  let n := (x.entries.filter (·.isWrite)).length
  let mode := if s.fld .ddrSched [d, k] F.ddrSched_WR_HI ≤ n then 1
    else if n ≤ s.fld .ddrSched [d, k] F.ddrSched_WR_LO then 0 else s.hv .wrMode [d, k]
  (s.setDdr d k { x with
    queue := x.queue.map (fun e => if e.buf then e else { e with age := e.age + 1 }),
    slots := x.slots.map (fun f => { f with age := f.age + 1 }) }).setHv .wrMode [d, k] mode

/-- Issue the next command of an entry: precharge, activate, or the column command that performs it; afterwards a row
that no entry targets is closed (R426). -/
def issueEntry (d k : Nat) (e : DramEntry) (s : State) : State :=
  let two := ddrTwoRanks s d k
  let x := s.ddr d k
  let b := lineBank two e.line
  let open_ := x.rows.get 0 b
  let s := (s.setHv .powerDown [d, k, lineRank two e.line] 0).setHv .refNow [d, k, lineRank two e.line] 0
  if open_ = lineRow two e.line + 1 then
    let s := if x.nextId ≤ e.id then fillLine d k e.line s else performEntry d k e s
    let y := s.ddr d k
    if y.work.any (fun f => decide (lineBank two f.line = b) && decide (lineRow two f.line = lineRow two e.line)) then s
    else s.setDdr d k { y with rows := y.rows.erase b }
  else if open_ ≠ 0 then s.setDdr d k { x with rows := x.rows.erase b }
  else s.setDdr d k { x with rows := x.rows.set b (lineRow two e.line + 1) }

/-- DRAM_COMMAND: `ok` lists the entries whose next command the DRAM timing allows, `ref` the ranks that it allows to
be refreshed (R425, R433). -/
def dramCommand (d k : Nat) (ok ref : List Nat) (s : State) : State :=
  let s := ddrTick d k s
  let x := s.ddr d k
  let two := ddrTwoRanks s d k
  let ranks := if two then [0, 1] else [0]
  let urgent (r : Nat) : Bool := decide (8 ≤ debt s d k r)
  match ranks.find? (fun r => urgent r && ref.contains r) with
  | some r => refreshRank d k r s
  | none =>
    let cand := x.work.filter fun e => ok.contains e.id && (decide (x.nextId ≤ e.id) || entryFree x e) && !slotWaits s d k e &&
      (rowOpen x two e.line || !urgent (lineRank two e.line))
    match bestEntry s d k cand with
    | some e => ddrSettled d k (issueEntry d k e s)
    | none =>
      match ranks.find? (fun r => ref.contains r && decide (-8 < debt s d k r) && rankEmpty s d k r) with
      | some r => refreshRank d k r s
      | none => s

/-- The controller runs: its domain is On and out of reset, and STATE is 3. -/
def ddrRuns (s : State) (d k : Nat) : Bool := s.runs d 34 && decide (ddrState s d k = 3)

def execDramCommand (d : Fin 4) (k : Fin 2) (ok ref : List Nat) (s : State) : Host.Outcome State Fault Refusal :=
  .next (if ddrRuns s d k then dramCommand d k ok ref s else s)

/-- REFRESH_INTERVAL: a 1x interval of a rank passes (R433). -/
def execRefreshInterval (d : Fin 4) (k : Fin 2) (rank : Fin 2) (s : State) : Host.Outcome State Fault Refusal :=
  .next (if ddrRuns s d k && (decide (rank.val = 0) || ddrTwoRanks s d k) then
      let v := debt s d k rank
      let s := setDebt d k rank (min (v + 1) 15) s
      if v + 1 = 8 then ddrFlag d k F.ddrEflags_EMERG s else s
    else s)

/-- PRECHARGE_POWER_DOWN: a rank that has had no queued entry and no refresh due for 256 `mem` cycles (R426). -/
def execPrechargePowerDown (d : Fin 4) (k : Fin 2) (rank : Fin 2) (s : State) : Host.Outcome State Fault Refusal :=
  .next (if ddrRuns s d k && rankExists s d k rank && rankEmpty s d k rank && decide (debt s d k rank ≤ 0) &&
        decide (256 ≤ s.hv .rankIdle [d, k, rank]) then
      s.setHv .powerDown [d, k, rank] 1 else s)

/-- PANIC: the PANIC input of a fabric port changes; a rise makes its queued lines real-time (R427). -/
def panicInput (d : Fin 4) (g : Fin 16) (j : Fin 4) (on : Bool) (s : State) : State :=
  let s := s.setHv .panic [d, g, j] on.toNat
  if on && s.bit .galleyFportCfg (liveIx [d, g, j]) F.galleyFportCfg_RT then
    { s with ddrs := s.ddrs.map fun e =>
        (e.1, { e.2 with queue := e.2.queue.map fun q =>
          if e.2.reqs.any (fun r => decide (r.rid = q.rid) && decide (r.req.who = .fport d g j))
          then { q with cls := 3, panic := true } else q }) }
  else s

def execPanic (d : Fin 4) (g : Fin 16) (j : Fin 4) (on : Bool) (s : State) : Host.Outcome State Fault Refusal :=
  .next (if galleyRuns s d g then panicInput d g j on s else s)

/-! Fill and clear (R392, R395). -/

/-- Zero is written to every line of a slot that is not done, the map bit is set and the slot freed (R392). -/
def granuleFill (d k granule : Nat) (s : State) : State :=
  match slotOfGranule s d k granule with
  | none => s
  | some f =>
    completeSlot d k granule ((List.range 1024).foldl (fun t i =>
      if f.done / 2 ^ i % 2 = 0 then lineWrite d k (granule * 1024 + i) 0 false t else t) s)

/-- GRANULE_FILL: the fill engine fills the granule of a slot in one run, on a channel whose queue is empty; beside other
entries its line writes are commands of DRAM_COMMAND, which frees the slot with the last of them (R394). (DEDUCED, unsafe: log
entry 31.) -/
def execGranuleFill (d : Fin 4) (k : Fin 2) (granule : Fin 1048576) (s : State) :
    Host.Outcome State Fault Refusal :=
  .next (if ddrRuns s d k && decide ((s.ddr d k).queue = []) then granuleFill d k granule s else s)

/-- A write of `cmap[k].clr` (R395). -/
def cmapClrWrite (d k : Nat) (v : W64) (s : State) : Nat × State :=
  let s := (s.setFld .integCmapClr [d, k] F.integCmapClr_COUNT (F.integCmapClr_COUNT.get v)).setFld .integCmapClr [d, k]
    F.integCmapClr_FIRST (F.integCmapClr_FIRST.get v)
  let first := F.integCmapClr_FIRST.get v
  let count := F.integCmapClr_COUNT.get v
  if F.integCmapClr_GO.get v = 0 ∨ s.bit .integCmapClr [d, k] F.integCmapClr_BUSY = true ∨ count = 0 ∨
      ddrCap s d k < (first + count) * 65536 then (OK, s)
  else
    let x := s.ddr d k
    (OK, (s.setDdr d k { x with clr := some (x.nextId, first, count) }).setFld .integCmapClr [d, k]
      F.integCmapClr_BUSY 1)

/-- CMAP_CLEAR: `clr` written with GO 1 (R395). -/
def execCmapClear (who : Who) (d : Fin 4) (k : Fin 2) (v : W64) (s : State) : Host.Outcome State Fault Refusal :=
  .next (regCommand who .integCmapClr [d, k] (cmapClrWrite d k (withBit F.integCmapClr_GO v)) s)

/-- Clear the map bits of a range: a map byte that it names in part is read and checked, and a whole byte in map loss is
rewritten with 0 (R395, R396). -/
def clearMap (d k first count : Nat) (s : State) : State :=
  let s := if first % 8 = 0 then s else cmapCheck d k first s
  let s := if (first + count) % 8 = 0 then s else cmapCheck d k (first + count) s
  let x := s.ddr d k
  let hit (g : Nat) : Bool := decide (first ≤ g) && decide (g < first + count)
  let lostHit (b : Nat) : Bool := decide (first / 8 ≤ b) && decide (b ≤ (first + count - 1) / 8)
  let ends := x.lost.filter lostHit
  let keep := x.lost.filter (fun b => !lostHit b)
  let s := ends.foldl (fun t b => { t with mem := t.mem.write (cmapBase d k + b) 0 }) s
  let lo := (first + 7) / 8
  let hi := (first + count) / 8
  let s := if lo ≤ hi then { s with mem := s.mem.fill (cmapBase d k + lo) (hi - lo) } else s
  let edge := ((List.range 8).map (first / 8 * 8 + ·) ++ (List.range 8).map (hi * 8 + ·)).filter hit
  let s := edge.foldl (fun t g => if mapBit t d k g then setMapBit d k g false t else t) s
  s.setDdr d k { x with lost := keep, clr := none, slots := x.slots.filter (fun f => !hit f.granule),
                        resv := x.resv.filter (fun r => !hit (r.2 / 1024)) }

/-- CMAP_CLEAR_DONE: every request accepted before the clear is performed, and the clear completes (R395). -/
def execCmapClearDone (d : Fin 4) (k : Fin 2) (s : State) : Host.Outcome State Fault Refusal :=
  .next (match (s.ddr d k).clr with
    | some (n, first, count) =>
      if (s.ddr d k).queue.all (fun e => decide (n ≤ e.id)) then
        ddrSettled d k ((clearMap d k first count s).setFld .integCmapClr [d, k] F.integCmapClr_BUSY 0)
      else s
    | none => s)

/-! Power-up and training (R435 to R437). -/

/-- The capacity in GiB that the options give (R405). -/
def capGib (cfg : W64) : Nat :=
  let per := 2 ^ F.ddrCfg_DENS.get cfg * (if F.ddrCfg_X4.get cfg = 1 then 8 else 4)
  per * (F.ddrCfg_RANKS.get cfg + 1)

/-- INIT takes the options of `cfg` (R437). -/
def latchCfg (d k : Nat) (s : State) : State := s.setHv .ddrCfg [d, k] (s.reg .ddrCfg [d, k]).toNat

/-- Training ends, with the options that INIT took (R435, R437): `ok` is its result; DENS 3 fails at once. -/
def trainEnd (d k : Nat) (ok : Bool) (s : State) : State :=
  let cfg := BitVec.ofNat 64 (s.hv .ddrCfg [d, k])
  if ok && decide (F.ddrCfg_DENS.get cfg ≠ 3) then
    (s.setFld .ddrStatus [d, k] F.ddrStatus_CAPG (capGib cfg)).setFld .ddrStatus [d, k] F.ddrStatus_STATE 3
  else ddrFlag d k F.ddrEflags_TFAIL (s.setFld .ddrStatus [d, k] F.ddrStatus_STATE 4)

/-- Every rank owes a pass (R434, R436). -/
def owePasses (d k : Nat) (s : State) : State := s.setHv .centring [d, k] (if ddrTwoRanks s d k then 3 else 1)

/-- A write of `ddr[k].ctl` (R435, R436); without the result of a training, STATE is Initialising. -/
def ddrCtlWrite (d k : Nat) (ok : Option Bool) (v : W64) (s : State) : Nat × State :=
  let s := if F.ddrCtl_RETRAIN.get v = 1 ∧ ddrState s d k = 3 then
      owePasses d k (s.setFld .ddrCtl [d, k] F.ddrCtl_RETRAIN 1)
    else s
  let st := ddrState s d k
  if F.ddrCtl_INIT.get v = 1 ∧ (st = 0 ∨ st = 4) then
    let s := latchCfg d k s
    (OK, match ok with
      | some b => trainEnd d k b s
      | none => if s.fld .ddrCfg [d, k] F.ddrCfg_DENS = 3 then trainEnd d k false s
          else s.setFld .ddrStatus [d, k] F.ddrStatus_STATE 1)
  else (OK, s)

/-- The next step of a sequence that a register write began: power-up ends and training starts, or training ends; either may
fail (R435). -/
def initStep (d k : Nat) (ok : Bool) (s : State) : State :=
  if ok && decide (ddrState s d k = 1) then s.setFld .ddrStatus [d, k] F.ddrStatus_STATE 2 else trainEnd d k ok s

/-- INIT: power-up and training, with their result (R435); a sequence that a register write began goes on here as well, a step a
command. -/
def execInit (who : Who) (d : Fin 4) (k : Fin 2) (v : W64) (ok : Bool) (s : State) :
    Host.Outcome State Fault Refusal :=
  .next (if ddrState s d k = 1 ∨ ddrState s d k = 2 then initStep d k ok s
    else regCommand who .ddrCtl [d, k] (ddrCtlWrite d k (some ok) (withBit F.ddrCtl_INIT v)) s)

/-- DDR_RETRAIN: `ctl` written with RETRAIN 1 (R436). -/
def execDdrRetrain (who : Who) (d : Fin 4) (k : Fin 2) (v : W64) (s : State) : Host.Outcome State Fault Refusal :=
  .next (regCommand who .ddrCtl [d, k] (ddrCtlWrite d k none (withBit F.ddrCtl_RETRAIN v)) s)

/-- The controller has left self-refresh and owes its passes (R434). -/
def ddrReturns (s : State) (d k : Nat) : Bool :=
  s.runs d 34 && decide (ddrState s d k = 5) && decide (s.hv .clkWait [] = 0)

/-- Self-refresh (R434): the rows close. -/
def enterSelfRefresh (d k : Nat) (s : State) : State :=
  if ddrState s d k = 3 then
    (s.setDdr d k { s.ddr d k with rows := [] }).setFld .ddrStatus [d, k] F.ddrStatus_STATE 5
  else s

/-- RESET_n of a channel is low: before INIT, in its first step, and after an INIT that failed at once for the DENS that it took
(R435, R437, R696). (DEDUCED, unsafe: log entry 31.) -/
def ddrResetLow (s : State) (d k : Nat) : Bool :=
  decide (ddrState s d k = 0) || decide (ddrState s d k = 1) ||
    (decide (ddrState s d k = 4) && decide (F.ddrCfg_DENS.get (BitVec.ofNat 64 (s.hv .ddrCfg [d, k])) = 3))

/-- CKE of a rank is low: with RESET_n, in self-refresh through a clock wait, or in precharge power-down (R426, R434, R696). -/
def ddrCkeLow (s : State) (d k rank : Nat) : Bool :=
  ddrResetLow s d k || (decide (ddrState s d k = 5) && decide (s.hv .clkWait [] = 1)) ||
    decide (s.hv .powerDown [d, k, rank] = 1)

/-- A centring pass runs on a rank directly after a refresh of it, when RETRAIN owes it or INTERVAL is not 0 (R436), and on
every rank that has left self-refresh (R434). -/
def mayCentre (s : State) (d k rank : Nat) : Bool :=
  rankExists s d k rank &&
    (ddrReturns s d k || (ddrRuns s d k && decide (s.hv .refNow [d, k, rank] = 1) &&
      (decide (s.hv .centring [d, k] / 2 ^ rank % 2 = 1) || decide (s.fld .ddrTrain [d, k] F.ddrTrain_INTERVAL ≠ 0))))

/-- CENTRING_PASS of a rank: when every rank has had its pass, RETRAIN clears (R436), and a controller that has left
self-refresh is Ready again (R434). -/
def execCentringPass (d : Fin 4) (k : Fin 2) (rank : Fin 2) (s : State) : Host.Outcome State Fault Refusal :=
  .next (if mayCentre s d k rank then
      let old := s.hv .centring [d, k]
      let left := if old / 2 ^ rank.val % 2 = 1 then old - 2 ^ rank.val else old
      let s := s.setHv .centring [d, k] left
      if left = 0 then
        let s := s.setFld .ddrCtl [d, k] F.ddrCtl_RETRAIN 0
        if ddrState s d k = 5 then s.setFld .ddrStatus [d, k] F.ddrStatus_STATE 3 else s
      else s
    else s)

/-- ZQ_CALIBRATION of a rank changes no state that a program can see (R436). -/
def execZqCalibration (_d : Fin 4) (_k : Fin 2) (_rank : Fin 2) (s : State) : Host.Outcome State Fault Refusal :=
  .next s

end Sys2Proof.Machine
end

