-- ==== Sys2Proof/Machine/Window.lean ====
section
/-! DEFINITION. The address space of the package (R12, R30 to R35, R37): what lies at an address, and whole accesses of the
units that reach memory without an interface of their own. -/

namespace Sys2Proof.Machine
open Sys2Proof

/-- What an address names (R12, R33, R35, R37); `alias_` marks the physical alias of an engine position. -/
inductive Place where
  | dram
  | fabric (d g : Nat)
  | engData (d c p o : Nat) (alias_ : Bool)
  | engInstr (d c p o : Nat) (alias_ : Bool)
  | caseMem (d c o : Nat)
  | sram (d o : Nat)
  | dieReg (d : Nat)
  | pkgReg
  | pcie (d o : Nat)
  | unassigned
  deriving DecidableEq, Repr

/-- An offset in the block of an engine (R35). (DEDUCED, unsafe: log entry 26.) -/
def engPlace (d c p o : Nat) (al : Bool) : Place :=
  if o < 0x20000 then .engData d c p o al
  else if o < 0x28000 then .engInstr d c p (o - 0x20000) al
  else .unassigned

/-- An offset in the memory window of a die (R35, R37). -/
def diePlace (s : State) (d o : Nat) : Place :=
  if o < 0x2000000 then
    let e := o / 0x40000
    engPlace d (e / 8) (s.posOf d (e / 8) (e % 8)) (o % 0x40000) false
  else if 0x10000000 ≤ o ∧ o < 0x11000000 then .caseMem d ((o - 0x10000000) / 0x100000) (o % 0x100000)
  else if 0x20000000 ≤ o ∧ o < 0x20000000 + 144 * 0x40000 then
    let e := (o - 0x20000000) / 0x40000
    engPlace d (e / 9) (e % 9) (o % 0x40000) true
  else if 0x30000000 ≤ o ∧ o < 0x30080000 then .sram d (o - 0x30000000)
  else .unassigned

/-- What lies at a package address (R12). -/
def place (s : State) (a : Nat) : Place :=
  if a < 0x8000000000 then .dram
  else if a < 0x9000000000 then .fabric ((a - 0x8000000000) / 0x400000000) (a / 0x40000000 % 16)
  else if a < 0x9400000000 then diePlace s ((a - 0x9000000000) / 0x100000000) (a % 0x100000000)
  else if 0xA000000000 ≤ a ∧ a < 0xA400000000 then .dieReg ((a - 0xA000000000) / 0x100000000)
  else if 0xB000000000 ≤ a ∧ a < 0xB100000000 then .pkgReg
  else if 0xC000000000 ≤ a ∧ a < 0x10000000000 then
    (if a < 0xE000000000 then .pcie 0 (a - 0xC000000000) else .pcie 2 (a - 0xE000000000))
  else .unassigned

/-- The state block of an engine position (R662): its die, case and position, and the offset in it. -/
def stateBlock (a : Nat) : Option (Nat × Nat × Nat × Nat) :=
  if 0x9000000000 ≤ a ∧ a < 0x9400000000 then
    let o := a % 0x100000000
    let e := (o - 0x20000000) / 0x40000
    let b := (o - 0x20000000) % 0x40000
    if 0x20000000 ≤ o ∧ e < 144 ∧ 0x28000 ≤ b ∧ b < 0x29000 then
      some ((a - 0x9000000000) / 0x100000000, e / 9, e % 9, b - 0x28000)
    else none
  else none

/-- The last byte of a range lies in the same assigned range as the first (R30). -/
def placeFits (s : State) (a n : Nat) : Bool :=
  match place s a, place s (a + n - 1) with
  | .dram, .dram => true
  | .fabric d g, .fabric d' g' => decide (d = d') && decide (g = g')
  | .engData d c p _ l, .engData d' c' p' _ l' => decide ((d, c, p, l) = (d', c', p', l'))
  | .engInstr d c p _ l, .engInstr d' c' p' _ l' => decide ((d, c, p, l) = (d', c', p', l'))
  | .caseMem d c _, .caseMem d' c' _ => decide ((d, c) = (d', c'))
  | .sram d _, .sram d' _ => decide (d = d')
  | .dieReg d, .dieReg d' => decide (d = d')
  | .pkgReg, .pkgReg => true
  | .pcie d _, .pcie d' _ => decide (d = d')
  | _, _ => false

/-- The key of an on-chip memory byte: its physical package address. -/
def chipKey : Place → Option Nat
  | .engData d c p o _ => some (lmemBase d c p + o)
  | .engInstr d c p o _ => some (imemBase d c p + o)
  | .caseMem d c o => some (caseBase d c + o)
  | .sram d o => some (sramBase d + o)
  | _ => none

/-- CLASS of `elog` for an on-chip memory, and the address that it logs for the byte that lies k bytes further (R387). -/
def chipLog (s : State) (a : Nat) : Place → Nat × (Nat → Nat)
  | .engData d c p o _ => (0, fun k => engLogAddr s d c p (o + k))
  | .engInstr d c p o _ => (1, fun k => engLogAddr s d c p (0x20000 + o + k))
  | .sram _ o => (4, fun k => (o + k) / 64 * 64)
  | _ => (2, fun k => (a + k) / 64 * 64)

/-- The die that holds a place. -/
def placeDie : Place → Nat
  | .fabric d _ => d
  | .engData d _ _ _ _ => d
  | .engInstr d _ _ _ _ => d
  | .caseMem d _ _ => d
  | .sram d _ => d
  | .dieReg d => d
  | .pcie d _ => d
  | _ => 0

/-- Read n bytes of on-chip memory: the data, the uncorrectable bytes, and the state after the accounting (R380,
R386). -/
def chipRead (pl : Place) (key a n : Nat) (s : State) : Nat × Nat × State :=
  let bad := s.mem.badN key n
  let l := chipLog s a pl
  (s.mem.readN key n, bad, integ2 s (placeDie pl) l.1 (fun k => l.2 (k - key)) key n (s.mem.corrN key n) bad)

/-- A write of an engine's instruction memory is accepted: the engine is stopped, or OVERLAY is 1 (R61, R62). An engine that is
Armed or Fault-stopped counts as stopped, one that is Halted or Migrating as running. (DESIGN CHOICE, unsafe: log entry 70.) -/
def instrWritable (s : State) (d c p : Nat) : Bool :=
  let sl := s.slotOf d c p
  let st := (s.unit (.eng ⟨d % 4, by omega⟩ ⟨c % 16, by omega⟩ (posFin p))).st
  decide (st = .stopped) || decide (st = .faultStopped) || decide (st = .armed) ||
    (decide (sl < 8) && s.bit .caseEngCtl [d, c, sl] F.caseEngCtl_OVERLAY)

/-- Write n bytes of on-chip memory, with the bytes of marked sectors poisoned (R314, R381). -/
def chipWrite (pl : Place) (key n data bad : Nat) (s : State) : State :=
  let s := { s with mem := s.mem.writeBad key n data bad }
  match pl with
  | .caseMem d c o => (splitBlocks 64 o n (n / 64 + 2)).foldl (fun t p => clearResv d c (p.1 / 64) t) s
  | _ => s

/-! Whole accesses of a unit of the package, without an interface: the guard core and the timing unit. -/

/-- The channel and the channel address of a DRAM address that the map of die 0 serves now. -/
def dramServed (s : State) (a n : Nat) : Option (Nat × Nat × Nat) :=
  match dramMap s 0 a with
  | some (ch, ca) =>
    if ddrState s (ch / 2) (ch % 2) = 3 ∧ ca + n ≤ ddrCap s (ch / 2) (ch % 2) then some (ch / 2, ch % 2, ca) else none
  | none => none

/-- Read one piece that lies in one 64-byte line: none for an error response, else the data and whether it is poisoned. -/
def readLine (a n : Nat) (s : State) : Option (Nat × Bool) × State :=
  let pl := place s a
  match pl, chipKey pl with
  | .dram, _ =>
    match dramServed s a n with
    | some (d, k, ca) =>
      let s := cmapCheck d k (ca / 65536) s
      if inMapLoss s d k (ca / 65536) then (some (0, true), s)
      else
        let o := oldLine d k (ca / 64) s
        (some (o.data / 256 ^ (ca % 64) % 256 ^ n, o.bad), o.s)
    | none => (none, s)
  | pl, some key =>
    let r := chipRead pl key a n s
    (some (r.1, decide (r.2.1 ≠ 0)), r.2.2)
  | _, none => (none, s)

/-- A write of an unwritten granule gets its slot (R392); it waits until one is free, which is when the first slot is filled
(R394). -/
def freeSlot (d k granule : Nat) (s : State) : State :=
  if needsSlot s d k granule then
    let s := match (s.ddr d k).slots with
      | f :: _ => if 8 ≤ (s.ddr d k).slots.length then granuleFill d k f.granule s else s
      | [] => s
    allocSlot d k granule s
  else s

/-- Write one piece that lies in one line: false for an error response. -/
def writeLine (a n data : Nat) (s : State) : Bool × State :=
  let pl := place s a
  match pl, chipKey pl with
  | .dram, _ =>
    match dramServed s a n with
    | some (d, k, ca) =>
      let g := ca / 65536
      let s := freeSlot d k g (cmapCheck d k g s)
      let e : DramEntry :=
        { id := 0, rid := 0, line := ca / 64, lo := ca % 64, len := n, off := 0, op := .wr, data := data, bad := 0,
          cls := 0, age := 0, panic := false }
      (true, lineWritten (s.ddr d k).resv none (ca / 64) a (performWrite d k e s))
    | none => (false, s)
  | .engInstr d c p _ _, some key => if instrWritable s d c p then (true, chipWrite pl key n data 0 s) else (false, s)
  | pl, some key => (true, chipWrite pl key n data 0 s)
  | _, none => (false, s)

/-- Read a range, line by line: none for an error response, else the data and whether any of it is poisoned. -/
def readMarked (a n : Nat) (s : State) : Option (Nat × Bool) × State :=
  (splitBlocks 64 a n (n / 64 + 2)).foldl (fun (r : Option (Nat × Bool) × State) p =>
    let q := readLine p.1 p.2 r.2
    (match r.1, q.1 with
      | some x, some y => some (x.1 + y.1 * 256 ^ (p.1 - a), x.2 || y.2)
      | _, _ => none, q.2)) (some (0, false), s)

/-- Read a range for a reader that takes no poisoned data: none for that, and for an error response. -/
def readRange (a n : Nat) (s : State) : Option Nat × State :=
  let r := readMarked a n s
  (match r.1 with | some (x, false) => some x | _ => none, r.2)

/-- Write a range, line by line. -/
def writeRange (a n data : Nat) (s : State) : Bool × State :=
  (splitBlocks 64 a n (n / 64 + 2)).foldl (fun (r : Bool × State) p =>
    let q := writeLine p.1 p.2 (data / 256 ^ (p.1 - a) % 256 ^ p.2) r.2
    (r.1 && q.1, q.2)) (true, s)

end Sys2Proof.Machine
end

