-- ==== Sys2Proof/Machine/Timing.lean ====
section
/-! DEFINITION. The timing unit: device time and its followers (R481 to R487), sources and votes (R491 to R496), the unit's
states (R497), holdover (R500 to R503) and outputs (R505 to R508). -/

namespace Sys2Proof.Machine
open Sys2Proof

def State.setTime (s : State) (x : TimeState) : State := { s with time := x }

/-- Set a flag of `flags`, or of a source, and raise the timing event (R509). -/
def timeFlag (f : Fld) (s : State) : State := (s.setFld .timeFlags [] f 1).raiseEvent 0 497
def srcFlag (n : Nat) (f : Fld) (s : State) : State := (s.setFld .timeSrcStat [n] f 1).raiseEvent 0 497

/-- The timing unit runs: its domain is On, and the device does not wait for a clock. -/
def timeRuns (s : State) : Bool :=
  s.pdomOn 0 && (decide (s.hv .clkWait [] = 0) || (decide (s.fld .timeCtl [] F.timeCtl_XOFREQ ≠ 0) && !s.time.xoLost))

/-! Device time (R481, R482, R484). -/

/-- One ns and one second in units of 2^−48 ns. -/
def nsUnit : Nat := 2 ^ 48
def secUnit : Nat := 1000000000 * 2 ^ 48

/-- Device time is taken modulo 2^48 seconds. -/
def timeSpan : Nat := 2 ^ 48 * secUnit

def secOf (t : Nat) : Nat := t / secUnit % 2 ^ 48
def nsOf (t : Nat) : Nat := t / nsUnit % 1000000000

/-- TUNE as it acts (R503). -/
def tuneOn (s : State) : Bool := s.bit .timeCtl [] F.timeCtl_TUNE && !s.time.xoLost

/-- FREQ as a signed number. -/
def freqOf (s : State) : Int := (BitVec.ofNat 40 (s.fld .timeFreq [] F.timeFreq_FREQ)).toInt

/-- INC in units of 2^−48 ns (R482). -/
def timeInc (s : State) : Int :=
  let f := freqOf s
  let x := (4 * 2 ^ 48 + 4 * f) / 5
  if (4 * 2 ^ 48 + 4 * f) % 5 ≠ 0 ∧ Config.incUp f = true then x + 1 else x

/-- Add a signed amount to a time. -/
def addTime (t : Nat) (x : Int) : Nat := (((t : Int) + x) % (timeSpan : Int)).toNat

/-- The follower of a die (R485). -/
def followTime (s : State) (d : Nat) : Nat := s.time.follow.get 0 d

/-- The rate of a follower: INC with FREQ 0 before its first frame. -/
def followRate (s : State) (d : Nat) : Int := s.time.rates.get (4 * 2 ^ 48 / 5) d

/-- The time channel reaches the follower of die d: on die 0 by the fixed path, elsewhere by the port that carries channels
8 to 11 (R370), once its echo exchange has ended (R485, R486). -/
def timePath (s : State) (d : Nat) : Bool :=
  if d = 0 then true
  else
    match (List.range 12).find? (fun a => lstate s d a == 5 && portTo d a == some 0) with
    | some p => decide (s.hv .echo [d, p] = 0)
    | none => false

/-- Device time crosses a whole second plus an amount between two times. -/
def crosses (off : Int) (old new : Nat) : Bool := decide (addTime old (-off) / secUnit ≠ addTime new (-off) / secUnit)

/-- PPSOFF in units of 2^−48 ns (R505). -/
def ppsOffset (s : State) : Int := (BitVec.ofNat 16 (s.fld .timeOut [] F.timeOut_PPSOFF)).toInt * (nsUnit : Int)

/-- The ns since device time last crossed a whole second plus PPSOFF (R505). -/
def ppsPhase (s : State) : Nat := nsOf (addTime s.time.now (-ppsOffset s))

/-- PPSW ms, in ns; 0 acts as 1. -/
def ppsWidth (s : State) : Nat := max 1 (s.fld .timeOut [] F.timeOut_PPSW) * 1000000

/-- The `time` ticks since the whole second. -/
def secTicks (s : State) (t : Nat) : Nat := t % secUnit / (max 1 (timeInc s)).toNat

/-- The SYSREF ticks of a frame (R506): the multiples of SYSPER among the counts since the whole second. -/
def sysTicks (s : State) (old new : Nat) : Nat :=
  let p := s.fld .timeOut [] F.timeOut_SYSPER
  let n := secTicks s new
  if p = 0 then 0
  else if crosses 0 old new then n / p + 1 else n / p - secTicks s old / p

/-- An edge of PPS_OUT that a frame has brought comes before the next frame ends, and a pulse ends after PPSW (R505). -/
def ppsSettle (s : State) : State :=
  let x := s.time
  s.setTime { x with ppsOut := if x.ppsDue then true else x.ppsOut && decide (ppsPhase s < ppsWidth s), ppsDue := false }

/-- TIME_FRAME: 1,250 cycles of the `time` clock pass, and the master's frame reaches the follower of die 0 and those of
`reach`, which take its time and its rate; the others keep their own rate (R482, R485, R486). -/
def timeFrame (reach : BitVec 4) (s : State) : State :=
  let s := ppsSettle s
  let x := s.time
  let inc := timeInc s
  let now := addTime x.now (1250 * inc)
  let ds := (List.range 4).filter fun d => decide (d = 0) || (reach.getLsbD d && timePath s d)
  let fs : Tbl Nat Nat := (List.range 4).map fun d =>
    (d, if d ∈ ds then now else addTime (x.follow.get 0 d) (1250 * followRate s d))
  let rs : Tbl Nat Int := (List.range 4).map fun d => (d, if d ∈ ds then inc else followRate s d)
  let al := s.fld .timeStatus [] F.timeStatus_FALIGN
  let al := (List.range 4).foldl (fun a d => if d ∈ ds ∧ a / 2 ^ d % 2 = 0 then a + 2 ^ d else a) al
  (s.setTime { x with
    now := now, follow := fs, rates := rs, due := x.due || decide (nsOf now < nsOf x.now),
    halfDue := x.halfDue || (s.bit .timeStatus [] F.timeStatus_STEPPING && crosses (500000000 * (nsUnit : Int)) x.now now),
    ppsDue := crosses (ppsOffset s) x.now now, sysDue := sysTicks s x.now now }).setFld .timeStatus [] F.timeStatus_FALIGN al

/-- The followers while the timing unit is Off: each goes on at its last rate (R614). -/
def followersAlone (s : State) : State :=
  s.setTime { s.time with
    follow := (List.range 4).map fun d => (d, addTime (s.time.follow.get 0 d) (1250 * followRate s d)) }

def execTimeFrame (reach : BitVec 4) (s : State) : Host.Outcome State Fault Refusal :=
  .next (if timeRuns s then timeFrame reach s
    else if !s.pdomOn 0 && decide (s.hv .clkWait [] = 0) then followersAlone s else s)

/-- The one-way delay of a port (R486): half the round trip less the partner's turnaround, and the asymmetry. (DEDUCED, unsafe:
log entry 90.) -/
def echoDelay (d p : Nat) (e : EchoIn) : Nat := (((e.round : Int) - (e.turn : Int)) / 2 + Config.asymmetry d p).toNat

/-- ECHO_EXCHANGE of a port after its commit: its one-way delay is known (R486). -/
def execEchoExchange (d : Fin 4) (p : Fin 12) (e : EchoIn) (s : State) : Host.Outcome State Fault Refusal :=
  .next (if lstate s d p = 5 then (s.setHv .echo [d, p] 0).setHv .echoDelay [d, p] (echoDelay d p e) else s)

/-- FOLLOWER_GAP: 2 ms without a usable frame (R486). -/
def execFollowerGap (d : Fin 4) (s : State) : Host.Outcome State Fault Refusal :=
  let al := s.fld .timeStatus [] F.timeStatus_FALIGN
  .next (if al / 2 ^ d.val % 2 = 1 then
      timeFlag F.timeFlags_FOLLOW (s.setFld .timeStatus [] F.timeStatus_FALIGN (al - 2 ^ d.val)) else s)

/-- `now` and `now_hi` (R487), from the follower of the reader's die. -/
def timeNowView (s : State) (d : Nat) : W64 :=
  BitVec.ofNat 64 (secOf (followTime s d) % 2 ^ 32 * 2 ^ 32 + nsOf (followTime s d))
def timeNowHiView (s : State) (d : Nat) : W64 := BitVec.ofNat 64 (secOf (followTime s d) / 2 ^ 32)

/-- An instant: a follower's time and a delay after its last frame in units of 2^−16 ns. -/
def stampAt (s : State) (d sub : Nat) : Nat := (followTime s d + sub * 2 ^ 32) % timeSpan

/-- A timestamp as R465 lays it out (R481). -/
def stampBytes (t : Nat) : Nat := t / 2 ^ 32 % 2 ^ 16 + nsOf t * 2 ^ 16 + secOf t * 2 ^ 48

/-! Steps (R484). -/

/-- STEP_APPLY: NS has passed 500,000,000 with a step pending (R484). -/
def stepApply (s : State) : State :=
  if s.bit .timeStatus [] F.timeStatus_STEPPING && s.time.halfDue then
    let own : Int := match s.time.servoStep with | some v => v | none => 0
    let soft : Int := if s.bit .timeCtl [] F.timeCtl_STEP then (s.reg .timeStep []).toInt else 0
    let v := own + 65536 * soft
    let x := s.time
    let s := s.setTime { x with
      now := addTime x.now (v * 2 ^ 32), servoStep := none, model := x.model - v, halfDue := false }
    (s.setFld .timeStatus [] F.timeStatus_STEPPING 0).setFld .timeCtl [] F.timeCtl_STEP 0
  else s

def execStepApply (s : State) : Host.Outcome State Fault Refusal := .next (if timeRuns s then stepApply s else s)

/-! The unit's states (R497). -/

def tstate (s : State) : Nat := s.fld .timeStatus [] F.timeStatus_STATE
def tsel (s : State) : Nat := s.fld .timeStatus [] F.timeStatus_SEL

/-- A change of state (R497): HOLDMIN starts at 0 on entering holdover, and M is aligned on entering Locked (R494). -/
def setTstate (n : Nat) (s : State) : State :=
  let old := tstate s
  if n = old then s
  else
    let x := s.time
    let fresh := decide (3 ≤ n) && decide (old < 3)
    let x := { x with good := 0, bad := 0, holdSecs := if fresh then 0 else x.holdSecs,
                      model := if n = 2 then 0 else x.model }
    let s := s.setTime x
    let s := if fresh then s.setFld .timeStatus [] F.timeStatus_HOLDMIN 0 else s
    timeFlag F.timeFlags_STATECHG (s.setFld .timeStatus [] F.timeStatus_STATE n)

/-- Holdover, or out of spec as MODEL gives. -/
def holdState (s : State) : Nat := if s.bit .timeStatus [] F.timeStatus_MODEL then 3 else 4

/-- Enter Acquiring; a servo step is scheduled for an offset beyond 1 µs (R484). -/
def enterAcquiring (off : Option Int) (s : State) : State :=
  let s := setTstate 1 s
  match off with
  | some o =>
    if s.bit .timeCtl [] F.timeCtl_STEPEN && decide (1000 * 65536 < o.natAbs) then
      (s.setTime { s.time with servoStep := some o }).setFld .timeStatus [] F.timeStatus_STEPPING 1
    else s
  | none => s

/-- A write of `ctl` (R483, R484, R493, R495, R497, R500, R503). -/
def timeCtlWrite (v : W64) (s : State) : Nat × State :=
  let old := s.reg .timeCtl []
  let keep := old &&& (F.timeCtl_STEP.mask ||| F.timeCtl_ADMIT.mask)
  let s := s.setReg .timeCtl [] ((v &&& 0xFFF0F809) ||| keep)
  let s := if F.timeCtl_XOFREQ.get old ≠ F.timeCtl_XOFREQ.get v ∨ F.timeCtl_TUNE.get old ≠ F.timeCtl_TUNE.get v then
      (s.setTime { s.time with window := [], windowSecs := 0 }).setFld .timeStatus [] F.timeStatus_MODEL 0 else s
  let s := if F.timeCtl_XOFREQ.get v ≠ 0 then s.setTime { s.time with xoLost := false } else s
  let s := if F.timeCtl_STEP.get v = 1 then
      (s.setFld .timeCtl [] F.timeCtl_STEP 1).setFld .timeStatus [] F.timeStatus_STEPPING 1 else s
  -- ADMIT counts for a Suspect source that has agreed long enough (R493)
  let s := (List.range 4).foldl (fun t n =>
    if F.timeCtl_ADMIT.get v / 2 ^ n % 2 = 1 ∧ t.fld .timeSrcStat [n] F.timeSrcStat_SSTATE = 3 ∧
        F.timeVote_REQUAL.get t.time.vote ≤ t.time.agree.get 0 n then
      let a := t.fld .timeCtl [] F.timeCtl_ADMIT
      (t.setTime { t.time with admitted := if n ∈ t.time.admitted then t.time.admitted else t.time.admitted ++ [n] }).setFld
        .timeCtl [] F.timeCtl_ADMIT (a - a / 2 ^ n % 2 * 2 ^ n + 2 ^ n)
    else t) s
  let st := tstate s
  (OK,
    if F.timeCtl_EN.get v = 0 then setTstate 0 s
    else if F.timeCtl_HOLD.get v = 1 then setTstate (holdState s) s
    else if F.timeCtl_HOLD.get old = 1 ∧ 3 ≤ st ∧ tsel s ≠ 15 then enterAcquiring s.time.selOff s
    else s)

/-- STEP: `ctl` written with STEP 1 (R484). -/
def execStep (who : Who) (v : W64) (s : State) : Host.Outcome State Fault Refusal :=
  .next (regCommand who .timeCtl [] (timeCtlWrite (withBit F.timeCtl_STEP v)) s)

/-- HOLD: `ctl` written with HOLD as given (R497). -/
def execHold (who : Who) (v : W64) (s : State) : Host.Outcome State Fault Refusal :=
  .next (regCommand who .timeCtl [] (timeCtlWrite v) s)

/-- SERVO_EN: `ctl` written with EN as given (R497). -/
def execServoEn (who : Who) (v : W64) (s : State) : Host.Outcome State Fault Refusal :=
  .next (regCommand who .timeCtl [] (timeCtlWrite v) s)

/-- Writes of `freq` and `code` are ignored while EN is 1 (R483). -/
def servoValueWrite (n : RegName) (v : W64) (s : State) : Nat × State :=
  (OK, if s.bit .timeCtl [] F.timeCtl_EN then s else plainWrite n [] v s)

/-! Sources (R491 to R496). -/

/-- `src[n].cfg` as the last evaluation took it (R495). -/
def srcCfg (s : State) (n : Nat) : W64 := s.time.cfgs.get 0 n

/-- KIND as it acts: only the lowest slot with KIND 1 is GNSS (R491). -/
def srcKind (s : State) (n : Nat) : Nat :=
  let k := F.timeSrcCfg_KIND.get (srcCfg s n)
  if 3 < k then 0
  else if k = 1 ∧ (List.range n).any (fun m => F.timeSrcCfg_KIND.get (srcCfg s m) == 1) then 0
  else k

/-- The writes of `src[s].cfg` and `vote` since the last evaluation take effect (R495). -/
def takeCfgs (s : State) : State :=
  s.setTime { s.time with
    cfgs := (List.range 4).map fun n => (n, s.reg .timeSrcCfg [n]),
    vote := s.reg .timeVote [] }

/-- The lane of a SyncE source has a recovered clock (R491). -/
def laneClock (s : State) (n : Nat) : Bool :=
  let l := F.timeSrcCfg_LANE.get (srcCfg s n)
  decide (l < 96) && s.bit .lgrpLaneStatus [l / 24, l % 24 / 8, l % 8] F.lgrpLaneStatus_CDRLOCK

/-- The nearest whole second to a time, and the offset of that second from it in units of 2^−16 ns. -/
def nearestSecond (t : Nat) : Nat × Int :=
  let n := (t + secUnit / 2) / secUnit
  (n % 2 ^ 48, ((n * secUnit : Nat) : Int) / 2 ^ 32 - (t : Int) / 2 ^ 32)

/-- PPS_IN: a rising edge, `sub` × 2^−16 ns after the last time frame of die 0 (R491, R492). -/
def ppsIn (sub : Nat) (s : State) : State :=
  let t := stampAt s 0 sub
  let (w, off) := nearestSecond t
  let x := s.time
  let valid := s.bit .timeTod [] F.timeTod_VALID
  let mis := valid && decide (s.fld .timeTod [] F.timeTod_TOD_SEC ≠ secOf t)
  let old := x.pps.get (0, 0, false) (w % 2)
  let gnss := (List.range 4).find? (fun n => srcKind s n == 1)
  match gnss with
  | none => s
  | some n =>
    let s := s.setTime { x with pps := x.pps.set (w % 2) (old.1 + 1, off, old.2.2 || mis) }
    let s := s.setFld .timeTod [] F.timeTod_VALID 0
    if mis then srcFlag n F.timeSrcStat_TODMIS s else s

def execPpsIn (sub : Nat) (s : State) : Host.Outcome State Fault Refusal :=
  .next (if timeRuns s then ppsIn sub s else s)

/-- A write of `meas` (R491). -/
def measWrite (n : Nat) (v : W64) (s : State) : Nat × State :=
  (OK, if srcKind s n = 2 then s.setTime { s.time with meas := s.time.meas.set n v.toInt } else s)

/-- MEAS (R491). -/
def execMeas (who : Who) (n : Fin 4) (v : W64) (s : State) : Host.Outcome State Fault Refusal :=
  .next (regCommand who .timeSrcMeas [n] (measWrite n v) s)

/-- The measurement of a source in an evaluation: an offset in 2^−16 ns, or for SyncE the frequency against M in 0.01 ppb;
and whether a time-of-day mismatch counts against it (R491, R492). -/
structure SrcSeen where
  kind : Nat
  state : Nat
  fresh : Option Int
  mis : Bool

/-- The measurements (R491, R492): the edges near the second that has passed, the last `meas`, the lane frequencies. -/
def measure (e : EvalIn) (s : State) (n : Nat) : SrcSeen :=
  let k := srcKind s n
  let st := s.fld .timeSrcStat [n] F.timeSrcStat_SSTATE
  let w := (secOf s.time.now + 2 ^ 48 - 1) % 2
  let p := s.time.pps.get (0, 0, false) w
  match k with
  | 1 => ⟨1, st, if p.1 = 1 then some p.2.1 else none, p.2.2⟩
  | 2 => ⟨2, st, (s.time.meas.find? (fun m => m.1 == n)).map (·.2), false⟩
  | 3 => ⟨3, st, if laneClock s n then (e.freqs[n]?).join else none, false⟩
  | _ => ⟨0, st, none, false⟩

/-- The lower middle value of a list. -/
def median (l : List Int) : Option Int :=
  let sorted := l.foldl (fun (a : List Int) x => a.filter (· ≤ x) ++ [x] ++ a.filter (x < ·)) []
  sorted[(sorted.length - 1) / 2]?

/-- A Qualified time source with a measurement. -/
def SrcSeen.votes (x : SrcSeen) : Bool := (decide (x.kind = 1) || decide (x.kind = 2)) && decide (x.state = 2) && x.fresh.isSome

/-- The check of a source in an evaluation (R492, R494): one that does not pass disagrees, a time source with no measurement
among them; none for a source that is Off. -/
def srcCheck (s : State) (all : List SrcSeen) (n : Nat) (x : SrcSeen) : Option Bool :=
  let model := s.bit .timeStatus [] F.timeStatus_MODEL
  let v := s.time.vote
  if x.kind = 0 then none
  else if x.kind = 3 then
    some (!model || (match x.fresh with
      | some o => decide (o.natAbs ≤ 10 * F.timeVote_FTHRESH.get v)
      | none => false))
  else match x.fresh with
    | none => some false
    | some o =>
      let th := F.timeVote_THRESH.get v * 65536
      let dist (v : Int) : Nat := (v - s.time.model).natAbs
      let voters := (all.zip (List.range 4)).filter (fun e => e.1.votes)
      let others := (voters.filter (fun e => decide (e.2 ≠ n))).filterMap (fun e => e.1.fresh)
      let peer :=
        match voters, others with
        | [_, _], [q] =>
          if x.votes ∧ th < (o - q).natAbs then (if model then decide (dist o ≤ dist q) else false)
          else decide ((o - q).natAbs ≤ th)
        | _, l => match median l with
          | none => true
          | some m => decide ((o - m).natAbs ≤ th)
      let mdl := !model || decide (dist o ≤ F.timeVote_PTHRESH.get v * 65536)
      some (peer && mdl && !x.mis)

/-- The new state of a source, with its counts (R493). -/
def srcNext (s : State) (n : Nat) (x : SrcSeen) (chk : Option Bool) : Nat × Nat × Nat × Nat :=
  let t := s.time
  let ag := if chk = some true then t.agree.get 0 n + 1 else 0
  let di := if chk = some false then t.disagree.get 0 n + 1 else 0
  let si := if x.fresh.isNone then t.silent.get 0 n + 1 else 0
  let requal := F.timeVote_REQUAL.get t.vote
  let persist := max 1 (F.timeVote_PERSIST.get t.vote)
  let lost := x.fresh.isNone && decide (F.timeVote_LOSS.get t.vote ≤ si)
  let st :=
    if x.kind = 0 then 0
    else if x.state = 0 then 1
    else if x.state ≠ 4 ∧ lost = true then 4
    else match x.state with
      | 1 => if requal ≤ ag then 2 else 1
      | 2 => if persist ≤ di then 3 else 2
      | 3 => if requal ≤ ag ∧ (s.bit .timeCtl [] F.timeCtl_ADMIT_AUTO = true ∨ n ∈ t.admitted) then 2 else 3
      | _ => if x.fresh.isSome then 1 else 4
  if st = x.state then (st, ag, di, si) else (st, 0, 0, if st = 4 then si else 0)

/-- LAST of a source: 0.25 ns, or 0.01 ppb for SyncE, held to 32 bits. -/
def lastOf (kind : Nat) (o : Int) : Nat :=
  let v := if kind = 3 then o else o / 2 ^ 14
  let v := if v < -2 ^ 31 then -2 ^ 31 else if 2 ^ 31 ≤ v then 2 ^ 31 - 1 else v
  (BitVec.ofInt 32 v).toNat

/-- Record the evaluation of one source. -/
def srcUpdate (s0 : State) (all : List SrcSeen) (s : State) (n : Nat) : State :=
  match all[n]? with
  | none => s
  | some x =>
    let chk := srcCheck s0 all n x
    let (st, ag, di, si) := srcNext s0 n x chk
    let t := s.time
    let s := s.setTime { t with
      agree := t.agree.set n ag, disagree := t.disagree.set n di, silent := t.silent.set n si,
      admitted := t.admitted.filter (· ≠ n) }
    let s := match x.fresh with
      | some o => s.setFld .timeSrcStat [n] F.timeSrcStat_LAST (lastOf x.kind o)
      | none => s
    let s := match chk with
      | some b => s.setFld .timeSrcStat [n] F.timeSrcStat_DISAG (!b).toNat
      | none => s
    let s := s.setFld .timeSrcStat [n] F.timeSrcStat_SSTATE st
    if st = x.state then s
    else if st = 3 then srcFlag n F.timeSrcStat_SUSP s
    else if st = 4 then srcFlag n F.timeSrcStat_LOSTF s
    else s

/-- The selected source: the Qualified time source of lowest PRIO, then lowest number; 15 for none (R496). -/
def selectSource (s : State) : Nat :=
  let ok := (List.range 4).filter fun n =>
    (srcKind s n == 1 || srcKind s n == 2) && decide (s.fld .timeSrcStat [n] F.timeSrcStat_SSTATE = 2)
  match ok.foldl (fun (a : Option Nat) n => match a with
      | none => some n
      | some m => if F.timeSrcCfg_PRIO.get (srcCfg s n) < F.timeSrcCfg_PRIO.get (srcCfg s m) then some n else some m)
    none with
  | some n => n
  | none => 15

/-- The state of the unit after an evaluation (R496, R497): `off` is the offset of the selected source; a second without one
ends a succession of either kind. -/
def unitNext (oldSel : Nat) (off : Option Int) (s : State) : State :=
  let st := tstate s
  let sel := tsel s
  let hold := s.bit .timeCtl [] F.timeCtl_HOLD
  let near (o : Int) : Bool := decide (o.natAbs ≤ 100 * 65536)
  let x := s.time
  let s := s.setTime { x with
    good := if off.any near then x.good + 1 else 0, bad := if off.any (fun o => !near o) then x.bad + 1 else 0 }
  match st with
  | 0 => if s.bit .timeCtl [] F.timeCtl_EN && decide (sel ≠ 15) && !hold then enterAcquiring off s else s
  | 1 => if sel = 15 then setTstate (holdState s) s else if 60 ≤ s.time.good then setTstate 2 s else s
  | 2 =>
    if sel = 15 then setTstate (holdState s) s
    else if sel ≠ oldSel ∨ 8 ≤ s.time.bad then enterAcquiring off s
    else s
  | _ =>
    let n := s.time.holdSecs + 1
    let s := (s.setTime { s.time with holdSecs := n }).setFld .timeStatus [] F.timeStatus_HOLDMIN (min (n / 60) 65535)
    if sel ≠ 15 ∧ hold = false then enterAcquiring off s
    else if st = 3 ∧ 60 * s.fld .timeCtl [] F.timeCtl_HOLDLIM ≤ s.fld .timeStatus [] F.timeStatus_HOLDMIN then setTstate 4 s
    else s

/-- The value that the model gives a second: u = Y0 + A × t + C × (θ − θ0), t in days of device time (R500). (DEDUCED, unsafe:
log entry 99.) -/
def modelU (s : State) : Int :=
  let m := s.reg .timeModel0 []
  let y : Int := (m.setWidth 32).toInt
  let a : Int := (BitVec.ofNat 32 (m.toNat / 2 ^ 32)).toInt
  let c : Int := ((s.reg .timeModel1 []).setWidth 32).toInt
  let th : Int := (BitVec.ofNat 16 (s.fld .timeTsense [] F.timeTsense_TEMP)).toInt
  (y * 86400 * 256 + a * secOf s.time.now * 256 + c * (th - Config.theta0) * 86400) / (86400 * 256 * 65536)

/-- The control value in use: CODE, or FREQ (R483). -/
def controlNow (s : State) : Int :=
  if tuneOn s then (s.fld .timeCode [] F.timeCode_CODE : Int) else freqOf s

/-- What M gains on device time in a second, in units of 2^−16 ns: it runs on the model's control value (R494). -/
def modelDrift (s : State) : Int :=
  let u := modelU s - controlNow s
  if tuneOn s then u * (BitVec.ofNat 24 (s.fld .timeDac [] F.timeDac_KDAC)).toInt else u * 1000000000 / 2 ^ 32

/-- Apply a control value. -/
def setControl (u : Int) (s : State) : State :=
  if tuneOn s then
    (s.setFld .timeCode [] F.timeCode_CODE (BitVec.ofInt 24 u).toNat).setFld .timeFreq [] F.timeFreq_FREQ 0
  else s.setFld .timeFreq [] F.timeFreq_FREQ (BitVec.ofInt 40 u).toNat

/-- A Qualified SyncE source. -/
def synceUp (s : State) : Bool :=
  (List.range 4).any fun n => srcKind s n == 3 && decide (s.fld .timeSrcStat [n] F.timeSrcStat_SSTATE = 2)

/-- 10 ppm in units of 2^−48. -/
def slewMax : Int := 2814749767

/-- The value of the servo in a second: the loop is open, and FREQ moves by at most 10 ppm (R484). (DEDUCED, unsafe: log
entry 90.) -/
def servoValue (s : State) : Int :=
  let v := Config.servo s.freeCtr
  if tuneOn s then v else max (freqOf s - slewMax) (min (freqOf s + slewMax) v)

/-- The window of the model takes a second (R500): hours of Locked seconds, of which 72 count. -/
def windowSecond (s : State) : State :=
  let x := s.time
  let w := if x.windowSecs = 0 then 0 :: x.window.take 71 else x.window
  let w := match w with | a :: r => (if tstate s = 2 then a + 1 else a) :: r | [] => []
  s.setTime { x with window := w, windowSecs := (x.windowSecs + 1) % 3600 }

/-- The Locked hours in the window. -/
def windowHours (s : State) : Nat := s.time.window.sum / 3600

/-- The control value of a second (R483, R497, R500), and the learning of the model while Locked: Free-run holds the value, and
holdover takes it from a Qualified SyncE source or from the model. (DESIGN CHOICE, safe: log entry 43.) -/
def servoApply (s : State) : State :=
  let s := windowSecond s
  let st := tstate s
  let c := s.freeCtr
  let s :=
    if st = 0 then s
    else if 3 ≤ st ∧ synceUp s = false then setControl (modelU s) s
    else setControl (servoValue s) s
  let s :=
    if st = 2 then
      let h := windowHours s
      let s := (s.setReg .timeModel0 [] (Config.modelFit c)).setReg .timeModel1 []
        (BitVec.ofNat 64 (h * 2 ^ 48 + (Config.modelC c).toNat))
      if 24 ≤ h then s.setFld .timeStatus [] F.timeStatus_MODEL 1 else s
    else s
  s.draw

/-- EVALUATION, once NS has carried into SEC (R493 to R497): measurements, checks, source states, selection and unit state, in
this order. -/
def evaluation (e : EvalIn) (s : State) : State :=
  let s := takeCfgs s
  let s := s.setTime { s.time with model := s.time.model + modelDrift s, alignSecs := s.time.alignSecs + 1 }
  let all := (List.range 4).map (measure e s)
  let s1 := (List.range 4).foldl (srcUpdate s all) s
  let w := (secOf s.time.now + 2 ^ 48 - 1) % 2
  let s1 := (s1.setTime { s1.time with meas := [], pps := s1.time.pps.erase w }).setFld .timeCtl [] F.timeCtl_ADMIT 0
  let oldSel := tsel s1
  let sel := selectSource s1
  let s1 := s1.setFld .timeStatus [] F.timeStatus_SEL sel
  let off := (all[sel]?).bind (·.fresh)
  servoApply (unitNext oldSel off (s1.setTime { s1.time with selOff := off }))

def execEvaluation (e : EvalIn) (s : State) : Host.Outcome State Fault Refusal :=
  .next (if timeRuns s && s.time.due then evaluation e (s.setTime { s.time with due := false }) else s)

/-- MODEL_ALIGN: M is aligned to device time, every 1,024 s (R494). -/
def execModelAlign (s : State) : Host.Outcome State Fault Refusal :=
  .next (if timeRuns s && decide (1024 ≤ s.time.alignSecs) then s.setTime { s.time with model := 0, alignSecs := 0 } else s)

/-! Sensor, tuning port and oscillator (R501 to R503). -/

/-- The temperature in units of 2^−8 °C (R501). -/
def sensorTemp (raw : BitVec 16) (scale : Nat) : Nat :=
  (BitVec.ofInt 16 (raw.toInt * 256 / 2 ^ scale)).toNat

/-- SENSOR_READ: the sensor at TADDR is asked for its register TREG; `raw` is what it answers, none for a failed read (R501). -/
def sensorRead (raw : Option (BitVec 16)) (s : State) : State :=
  if s.bit .timeTsense [] F.timeTsense_EN then
    let s := s.setTime { s.time with
      i2c := (s.fld .timeTsense [] F.timeTsense_TADDR, s.fld .timeTsense [] F.timeTsense_TREG,
        if s.bit .timeTsense [] F.timeTsense_FAST then 400 else 100) }
    match raw with
    | some v =>
      (s.setTime { s.time with sensorFails := 0 }).setFld .timeTsense [] F.timeTsense_TEMP
        (sensorTemp v (s.fld .timeTsense [] F.timeTsense_TSCALE))
    | none =>
      let n := s.time.sensorFails + 1
      let s := s.setTime { s.time with sensorFails := n }
      if n = 10 then timeFlag F.timeFlags_TSLOST s else s
  else s

def execSensorRead (raw : Option (BitVec 16)) (s : State) : Host.Outcome State Fault Refusal :=
  .next (if timeRuns s then sensorRead raw s else s)

/-- The frame of the tuning port (R502). -/
def dacFrame (s : State) : Nat :=
  let cb := s.fld .timeDac [] F.timeDac_CODEBITS
  (s.fld .timeCode [] F.timeCode_CODE % 2 ^ cb + s.fld .timeDac [] F.timeDac_PREFIX * 2 ^ cb) %
    2 ^ s.fld .timeDac [] F.timeDac_WLEN

/-- TUNING_FRAME (R502). -/
def execTuningFrame (s : State) : Host.Outcome State Fault Refusal :=
  let w := s.fld .timeDac [] F.timeDac_WLEN
  let cb := s.fld .timeDac [] F.timeDac_CODEBITS
  .next (if timeRuns s && tuneOn s && decide (16 ≤ w) && decide (w ≤ 32) && decide (12 ≤ cb) && decide (cb ≤ 24) &&
        decide (cb ≤ w) then
      s.setTime { s.time with dacFrame := dacFrame s } else s)

/-- XO_LOSS: the oscillator stops or drifts (R503). -/
def execXoLoss (s : State) : Host.Outcome State Fault Refusal :=
  .next (if timeRuns s && decide (s.fld .timeCtl [] F.timeCtl_XOFREQ ≠ 0) && !s.time.xoLost then
      timeFlag F.timeFlags_XOLOS ((s.setTime { s.time with xoLost := true }).setFld .timeStatus []
        F.timeStatus_MODEL 0)
    else s)

/-! Outputs (R505, R506, R508). -/

/-- The outputs are held low in the present state (R505). -/
def squelched (s : State) : Bool := decide (s.fld .timeOut [] F.timeOut_SQUELCH / 2 ^ tstate s % 2 = 1)

/-- PPS_OUT rises, or falls after its width (R505). (DEDUCED, unsafe: log entry 81.) -/
def execPpsOut (rise : Bool) (s : State) : Host.Outcome State Fault Refusal :=
  .next (if timeRuns s then
      (if rise then (if s.time.ppsDue then s.setTime { s.time with ppsOut := true, ppsDue := false } else s)
      else if ppsWidth s ≤ ppsPhase s then s.setTime { s.time with ppsOut := false } else s)
    else s)

/-- The levels of PPS_OUT and F10M_OUT (R505). -/
def ppsLevel (s : State) : Bool := s.time.ppsOut && !squelched s
def f10Level (s : State) : Bool :=
  s.bit .timeOut [] F.timeOut_F10EN && !squelched s && decide (ppsPhase s % 100 < 50)

/-- SYSREF_OUT at a tick of the last frame that is a multiple of SYSPER: a pulse reaches the JESD204C links that follow the
internal SYSREF; `off` says that it falls off the boundary that they hold (R479, R506). -/
def execSysrefOut (off : Bool) (s : State) : Host.Outcome State Fault Refusal :=
  .next (if timeRuns s && decide (s.fld .timeOut [] F.timeOut_SYSPER ≠ 0) && decide (0 < s.time.sysDue) then
      (List.range 4).foldl (fun t d => (List.range 3).foldl (fun t j => (List.range 4).foldl (fun t l =>
        if t.fld .lgrpJesdCfg [d, j, l] F.lgrpJesdCfg_SYSSRC = 8 then sysrefEdge d j l off t else t) t) t)
        (s.setTime { s.time with sysDue := s.time.sysDue - 1 })
    else s)

/-- UART_RECEIVE: a byte arrives (R508). -/
def execUartReceive (b : Byte) (s : State) : Host.Outcome State Fault Refusal :=
  .next (if timeRuns s then
      (if 256 ≤ s.time.uart.length then s.setFld .timeUart [] F.timeUart_OVR 1
       else s.setTime { s.time with uart := s.time.uart ++ [b.toNat] })
    else s)

/-- The `noc` cycles of a byte of ten bits, at 1.6 GHz (R508). -/
def uartCycles (s : State) : Nat :=
  let baud := match s.fld .timeUart [] F.timeUart_BAUD with | 1 => 19200 | 2 => 38400 | 3 => 57600 | 4 => 115200 | _ => 9600
  (16000000000 + baud - 1) / baud

/-- A write of `uart`: the byte in TXB is sent, unless one is being sent (R508). (DESIGN CHOICE, safe: log entry 39.) -/
def uartWrite (v : W64) (s : State) : Nat × State :=
  let s := plainWrite .timeUart [] v s
  (OK, if s.bit .timeUart [] F.timeUart_TXBUSY then s
    else (s.setTime { s.time with uartTx := F.timeUart_TXB.get v, uartLeft := uartCycles s }).setFld .timeUart []
      F.timeUart_TXBUSY 1)

/-- UART_TRANSMIT (R508). -/
def execUartTransmit (who : Who) (v : W64) (s : State) : Host.Outcome State Fault Refusal :=
  .next (regCommand who .timeUart [] (uartWrite v) s)

/-- `uart` as it reads: RXV and the oldest byte (R508). -/
def uartView (s : State) : W64 :=
  F.timeUart_RXB.put (F.timeUart_RXV.put (s.reg .timeUart []) (if s.time.uart = [] then 0 else 1)) (s.time.uart.headD 0)

/-! Authentication keys (R499). -/

/-- A write of `authload` (R468, R499): GO reads the record, unless a load is under way. -/
def authloadWrite (v : W64) (s : State) : Nat × State :=
  let busy := s.bit .timeAuthload [] F.timeAuthload_BUSY
  let s := plainWrite .timeAuthload [] (v &&& ~~~F.timeAuthload_GO.mask) s
  (OK, if F.timeAuthload_GO.get v = 1 ∧ busy = false then
      (s.setTime { s.time with auth := some v }).setFld .timeAuthload [] F.timeAuthload_BUSY 1
    else s)

/-- The authentication record has been read (R499): its key is loaded into the slot of every die, or the slot is emptied. -/
def authDone (v : W64) (s : State) : State :=
  let r := readRange (64 * F.timeAuthload_ADDR.get v) 64 s
  let s := (r.2.setTime { r.2.time with auth := none }).setFld .timeAuthload [] F.timeAuthload_BUSY 0
  match r.1 with
  | none => s.setFld .timeAuthload [] F.timeAuthload_ERR 1
  | some x =>
    let slot := F.timeAuthload_SLOT.get v
    let id := x / 2 ^ 256 % 2 ^ 32
    s.setTime { s.time with keys := (List.range 4).foldl (fun k d =>
      if id = 0 then k.erase (d, slot) else k.set (d, slot) (id, x % 2 ^ 256)) s.time.keys }

/-- One `noc` cycle of the timing unit: the byte on TODTX, and a load of `authload` that is under way. (DESIGN CHOICE, safe: log
entry 39.) -/
def timeCycle (s : State) : State :=
  let x := s.time
  let s := if x.uartLeft = 0 then s
    else if x.uartLeft = 1 then (s.setTime { x with uartLeft := 0 }).setFld .timeUart [] F.timeUart_TXBUSY 0
    else s.setTime { x with uartLeft := x.uartLeft - 1 }
  match x.auth with
  | some v => if timeRuns s then authDone v s else s
  | none => s

/-- AUTHLOAD: `authload` written with GO 1 (R499). -/
def execAuthload (who : Who) (v : W64) (s : State) : Host.Outcome State Fault Refusal :=
  .next (regCommand who .timeAuthload [] (authloadWrite (withBit F.timeAuthload_GO v)) s)

end Sys2Proof.Machine
end

