-- ==== Sys2Proof/Machine/Ether.lean ====
section
/-! DEFINITION. The Ethernet controllers (R461 to R471, R488, R498): ports, rings and frames, MACsec associations. -/

namespace Sys2Proof.Machine
open Sys2Proof

/-- Training leaves taps and precoders on a lane (R452, R463). -/
def applyEq (d owner : Nat) (s : State) (e : LaneEq) : State :=
  let j := e.lane.val / 8
  let i := e.lane.val % 8
  if laneOwner s d j i = owner then
    let s := if tapsFit (e.txeq.setWidth 64) then s.setReg .lgrpLaneTxeq [d, j, i] (e.txeq.setWidth 64) else s
    (s.setFld .lgrpLaneCfg [d, j, i] F.lgrpLaneCfg_TXPRE e.txpre.toNat).setFld .lgrpLaneCfg [d, j, i]
      F.lgrpLaneCfg_RXPRE e.rxpre.toNat
  else s

/-- The lanes of a port carry data: none is idle, sends a pattern or relocks (R440, R454). -/
def ethLanesReady (s : State) (d m q : Nat) : Bool :=
  (ethLanes (s.reg .ethPortCfg [d, m, q])).all fun n =>
    !txIdle s d (n / 8) (n % 8) && decide (patternOf s d (n / 8) (n % 8)
      (s.fld .lgrpLanePat [d, n / 8, n % 8] F.lgrpLanePat_GEN) = 0)

/-- LINK_CHANGE: the link of a port goes up or down; `cal` says that its variable latency is measured (R471, R488). -/
def linkChange (d m q : Nat) (up cal : Bool) (eq : List LaneEq) (s : State) : State :=
  if up then
    if decide (q ∈ (s.eth d m).up) && ethLanesReady s d m q then
      let s := if s.bit .ethPortCfg [d, m, q] F.ethPortCfg_LT then eq.foldl (applyEq d 2) s else s
      setLink d m q true (s.setFld .ethPortTsadj [d, m, q] F.ethPortTsadj_CALOK cal.toNat)
    else s
  else setLink d m q false (s.setFld .ethPortTsadj [d, m, q] F.ethPortTsadj_CALOK 0)

def execLinkChange (d : Fin 4) (m : Fin 4) (q : Fin 8) (up cal : Bool) (eq : List LaneEq) (s : State) :
    Host.Outcome State Fault Refusal := .next (linkChange d m q up cal eq s)

/-! Rings (R464, R465). -/

def ringReg (tx : Bool) : RegName := if tx then .ethPortTxq else .ethPortRxq

def ringVal (s : State) (d m q r : Nat) (tx : Bool) : W64 := s.reg (ringReg tx) [d, m, q, r]

/-- A ring with LOG2N outside 4 to 12 is disabled. -/
def ethRingOk (v : W64) : Bool := decide (4 ≤ F.ethPortRxq_LOG2N.get v) && decide (F.ethPortRxq_LOG2N.get v ≤ 12)

/-- The address of a descriptor. -/
def descAddr (v : W64) (idx : Nat) : Nat := F.ethPortRxq_BASE.get v * 65536 + 32 * idx

/-- The frames of a ring that are under way. -/
def ringJobs (s : State) (d m q r : Nat) (tx : Bool) : List EthJob :=
  (s.eth d m).jobs.filter fun j => decide (j.port = q) && decide (j.ring = r) && decide (j.tx = tx)

/-- The next free descriptor of a ring, from HEAD up to TAIL − 1: the first that no frame under way has; none when the ring is
disabled or none is left. -/
def nextDesc (s : State) (d m q r : Nat) (tx : Bool) : Option Nat :=
  let v := ringVal s d m q r tx
  let n := 2 ^ F.ethPortRxq_LOG2N.get v
  let head := F.ethPortRxq_HEAD.get v
  let free := (F.ethPortRxq_TAIL.get v + n - head % n) % n
  if ethRingOk v then
    ((List.range free).map (fun k => (head + k) % n)).find? fun i => (ringJobs s d m q r tx).all (fun j => decide (j.idx ≠ i))
  else none

/-- A request of the controller at the priority of a queue (R464). -/
def ethReq (s : State) (d m : Fin 4) (r : Nat) (op : ReqOp) (addr len data : Nat) : Req :=
  { mkReq s (.eth d m) op addr len data with pri := r / 2, ord := false }

/-- Begin a frame: its descriptor is read. -/
def beginJob (d m : Fin 4) (q r : Nat) (tx : Bool) (idx data len ts : Nat) (s : State) : State :=
  let x := s.eth d m
  let j : EthJob :=
    { id := x.nextId, port := q, tx := tx, ring := r, idx := idx, stage := 0, data := data, len := len, ts := ts, desc := 0 }
  let s := s.setEth d m { x with jobs := x.jobs ++ [j], nextId := x.nextId + 1 }
  openAccess (.ethJob j.id) (ethReq s d m r .rd (descAddr (ringVal s d m q r tx) idx) 32 0) s

/-- HEAD advances over the finished descriptors of a ring, in order (R464). -/
def retireJobs (d m q r : Nat) (tx : Bool) : Nat → State → State
  | 0, s => s
  | fuel + 1, s =>
    let v := ringVal s d m q r tx
    let n := 2 ^ F.ethPortRxq_LOG2N.get v
    match (ringJobs s d m q r tx).find? (fun j => decide (j.idx = F.ethPortRxq_HEAD.get v % n) && decide (j.stage = 3)) with
    | some j =>
      let x := s.eth d m
      retireJobs d m q r tx fuel ((s.setEth d m { x with jobs := x.jobs.filter (fun k => decide (k.id ≠ j.id)) }).setFld
        (ringReg tx) [d, m, q, r] F.ethPortRxq_HEAD ((F.ethPortRxq_HEAD.get v + 1) % n))
    | none => s

/-- Replace a frame under way. -/
def putJob (d m : Nat) (j : EthJob) (s : State) : State :=
  let x := s.eth d m
  s.setEth d m { x with jobs := x.jobs.map (fun k => if k.id = j.id then j else k) }

/-- A received frame is discarded (R464). -/
def ethDrop (d m q : Nat) (s : State) : State :=
  portFlag d m q F.ethPortStatus_RXDROP (s.bumpFld .ethPortCnt [d, m, q] F.ethPortCnt_DROP 1)

/-- Give up a frame whose descriptor cannot be read; HEAD stays at it, and the next frame meets it again. (DEDUCED, unsafe:
log entry 41.) -/
def dropJob (d m : Nat) (j : EthJob) (s : State) : State :=
  let x := s.eth d m
  let s := s.setEth d m { x with jobs := x.jobs.filter (fun k => decide (k.id ≠ j.id)) }
  if j.tx then s else ethDrop d m j.port s

/-- The timestamp of a frame at its point, with the board delay of the port (R488). (PRESUMED, unsafe: log entry 40.) -/
def frameStamp (s : State) (d m q sub : Nat) (tx : Bool) : Nat :=
  let t := stampAt s d sub
  let adj (f : Fld) : Int := (BitVec.ofNat 16 (s.fld .ethPortTsadj [d, m, q] f)).toInt * 2 ^ 40
  stampBytes (if tx then addTime t (adj F.ethPortTsadj_TXADJ) else addTime t (-(adj F.ethPortTsadj_RXADJ)))

/-- The descriptor that the device writes back (R465): LEN and DONE, TSV and TS of a received frame, TS of a transmitted
frame with TSREQ. -/
def descBack (j : EthJob) : Nat :=
  let flags := j.desc / 2 ^ 80 % 2 ^ 16
  let stamp := if j.tx ∧ flags / 2 % 2 = 0 then 0 else j.ts
  let fl := if j.tx then flags - flags % 2 + 1 else 3
  j.desc % 2 ^ 64 + (if j.tx then j.desc / 2 ^ 64 % 2 ^ 16 else j.len) * 2 ^ 64 + fl * 2 ^ 80 + stamp * 2 ^ 96

/-! MACsec (R467 to R469). -/

/-- The transmit association of a port. -/
def txSaKey (s : State) (d m q : Nat) : List Nat := [q, 0, 0, s.fld .ethPortCfg [d, m, q] F.ethPortCfg_TXAN]

/-- An association; one that was never loaded has no record. -/
def saOf (s : State) (d m : Nat) (k : List Nat) : EthSa := (s.eth d m).sas.get { record := 0, pn := 0 } k

/-- The transmit PN of a port: 0 with no MACsec. -/
def pnNow (s : State) (d m q : Nat) : Nat :=
  if s.bit .ethPortCfg [d, m, q] F.ethPortCfg_MACSEC then (saOf s d m (txSaKey s d m q)).pn else 0

/-- The transmit PN has reached its end: frames wait (R469). -/
def pnHeld (s : State) (d m q : Nat) : Bool := decide (2 ^ 64 - 1 ≤ pnNow s d m q)

/-- The transmit PN of the association that TXAN names has become another (R469): PNTHR where it passes 2^63, PNEXH where it
reaches 2^64 − 1. -/
def pnNotice (d m q before after : Nat) (s : State) : State :=
  let s := if before ≤ 2 ^ 63 ∧ 2 ^ 63 < after then portFlag d m q F.ethPortStatus_PNTHR s else s
  if before < 2 ^ 64 - 1 ∧ 2 ^ 64 - 1 ≤ after then portFlag d m q F.ethPortStatus_PNEXH s else s

/-- A received frame after the MACsec checks (R467): an association that is loaded, a packet number that is not below the lowest
acceptable one, and an ICV that is right; none where one fails. A frame without a tag has none to pass. (DEDUCED, unsafe: log
entry 41.) -/
def macsecIn (s : State) (d m q : Nat) (f : FrameIn) : Option Nat :=
  match f.sec with
  | none => some (f.data % 256 ^ f.len)
  | some (sc, an, pn) =>
    let k := [q, 1, sc.val, an.val]
    let a := saOf s d m k
    if s.bit .ethPortCfg [d, m, q] F.ethPortCfg_MACSEC && (s.eth d m).sas.any (fun e => decide (e.1 = k)) && decide (a.pn ≤ pn) then
      Config.macsecOpen a.record pn (s.fld .ethPortCfg [d, m, q] F.ethPortCfg_COFF) f.len f.data
    else none

/-- The replay window moves on with an accepted frame: 2^RWEXP − 1 packet numbers below the highest stay acceptable (R467). -/
def replayMove (d m q : Nat) (f : FrameIn) (s : State) : State :=
  match f.sec with
  | none => s
  | some (sc, an, pn) =>
    let k := [q, 1, sc.val, an.val]
    let a := saOf s d m k
    let x := s.eth d m
    let low := pn + 1 - (2 ^ s.fld .ethPortCfg [d, m, q] F.ethPortCfg_RWEXP - 1)
    s.setEth d m { x with sas := x.sas.set k { a with pn := max a.pn low } }

/-- A frame leaves under the next PN (R469). -/
def takePn (d m q : Nat) (s : State) : State :=
  if s.bit .ethPortCfg [d, m, q] F.ethPortCfg_MACSEC then
    let x := s.eth d m
    let k := txSaKey s d m q
    let a := saOf s d m k
    pnNotice d m q a.pn (a.pn + 1) (s.setEth d m { x with sas := x.sas.set k { a with pn := a.pn + 1 } })
  else s

/-- The bytes that the line carries for a frame (R466, R467, R498): the ICV of a PTP message that has the TLV is filled, its
egress time is added with ONESTEP, and the frame is sealed. (DEDUCED, unsafe: log entry 41.) -/
def lineFrame (s : State) (d m q : Nat) (j : EthJob) (data : Nat) : Nat :=
  let auth := s.bit .ethPortTsadj [d, m, q] F.ethPortTsadj_AUTHEN
  let x := match Config.ptpKeyId j.len data with
    | some id => (match s.time.keys.find? (fun k => k.1.1 == d && k.2.1 == id.toNat) with
      | some k => if auth then Config.ptpFill j.len data (Config.ptpIcv k.2.2 j.len data) else data
      | none => data)
    | none => data
  let x := if j.desc / 2 ^ 82 % 2 = 1 then Config.ptpStep j.len x j.ts else x
  if s.bit .ethPortCfg [d, m, q] F.ethPortCfg_MACSEC then
    let a := saOf s d m (txSaKey s d m q)
    Config.macsecSeal a.record a.pn (s.fld .ethPortCfg [d, m, q] F.ethPortCfg_COFF) j.len x
  else x

/-- The write-back of the descriptor of a frame begins. -/
def writeBack (d m : Fin 4) (j : EthJob) (s : State) : State :=
  openAccess (.ethJob j.id) (ethReq s d m j.ring .wr (descAddr (ringVal s d m j.port j.ring j.tx) j.idx) 32 (descBack j))
    (putJob d m { j with stage := 2 } s)

/-- A port sends frames of 64 to 9,600 bytes with FCS (R463). -/
def frameSize (len : Nat) : Bool := decide (60 ≤ len) && decide (len ≤ 9596)

/-- A frame leaves the port (R464, R466, R469): it takes its timestamp and its packet number; with none left it waits. A frame
of a length that the ports do not support is not sent. (DEDUCED, unsafe: log entry 41.) -/
def sendFrameOut (d m : Fin 4) (j : EthJob) (data : Nat) (s : State) : State :=
  if frameSize j.len = false then writeBack d m j s
  else if pnHeld s d m j.port then putJob d m { j with stage := 4, data := data } s
  else
    let j := { j with ts := frameStamp s d m j.port j.ts true }
    let x := s.eth d m
    let s := s.setEth d m { x with line := x.line.set j.port (j.len, lineFrame s d m j.port j data) }
    writeBack d m j (takePn d m j.port s)

/-- The frames that wait for a packet number leave once there is one (R469). -/
def releaseHeld (d m q : Nat) (s : State) : State :=
  (s.eth d m).jobs.foldl (fun t j =>
    if j.port = q ∧ j.stage = 4 ∧ pnHeld t d m q = false then sendFrameOut (fin4 d) (fin4 m) j j.data t else t) s

/-- A write of `saload` (R468): GO reads the record, unless a load is under way. -/
def saloadWrite (d m : Fin 4) (v : W64) (s : State) : Nat × State :=
  let busy := s.bit .ethSaload [d, m] F.ethSaload_BUSY
  let s := plainWrite .ethSaload [d, m] (v &&& ~~~F.ethSaload_GO.mask) s
  if F.ethSaload_GO.get v = 1 ∧ busy = false then
    let s := s.setEth d m { s.eth d m with load := v }
    (OK, openAccess .ethSa (ethReq s d m 0 .rd (64 * F.ethSaload_ADDR.get v) 64 0)
      (s.setFld .ethSaload [d, m] F.ethSaload_BUSY 1))
  else (OK, s)

/-- SALOAD: `saload` written with GO 1 (R468). -/
def execSaload (who : Who) (d : Fin 4) (m : Fin 4) (v : W64) (s : State) : Host.Outcome State Fault Refusal :=
  .next (regCommand who .ethSaload [d, m] (saloadWrite d m (withBit F.ethSaload_GO v)) s)

/-- The MACsec record has arrived (R468). -/
def saloadDone (d m : Nat) (status data bad : Nat) (s : State) : State :=
  let v := (s.eth d m).load
  let s := s.setFld .ethSaload [d, m] F.ethSaload_BUSY 0
  if status ≠ OK ∨ bad ≠ 0 then ethEvent d m (s.setFld .ethSaload [d, m] F.ethSaload_ERR 1)
  else
    let dir := F.ethSaload_DIR.get v
    let key := [F.ethSaload_PORT.get v, dir, if dir = 0 then 0 else F.ethSaload_SC.get v, F.ethSaload_AN.get v]
    let x := s.eth d m
    let q := key.headD 0
    let before := pnNow s d m q
    let s := s.setEth d m { x with sas := x.sas.set key { record := data, pn := data / 2 ^ 384 % 2 ^ 64 } }
    releaseHeld d m q (pnNotice d m q before (pnNow s d m q) s)

/-! Port configuration (R462). -/

/-- A write of `port[q].cfg` (R462): MODE 0 leaves the port off. -/
def ethCfgWrite (d m q : Nat) (v : W64) (s : State) : Nat × State :=
  let before := pnNow s d m q
  let s := plainWrite .ethPortCfg [d, m, q] v s
  let x := s.eth d m
  let s := s.setEth d m { x with up := x.up.filter (· ≠ q) }
  let down := (setLink d m q false s).setFld .ethPortTsadj [d, m, q] F.ethPortTsadj_CALOK 0
  let s :=
    if F.ethPortCfg_EN.get v = 0 ∨ (ethMode (F.ethPortCfg_MODE.get v)).isNone = true then down
    else if ethOk s d m q then
      let y := s.eth d m
      s.setEth d m { y with up := y.up ++ [q] }
    else portFlag d m q F.ethPortStatus_CFGERR down
  (OK, releaseHeld d m q (pnNotice d m q before (pnNow s d m q) (ethSettle d s)))

/-- ETH_PORT_ENABLE: `cfg` written with EN 1 (R462). -/
def execEthPortEnable (who : Who) (d : Fin 4) (m : Fin 4) (q : Fin 8) (v : W64) (s : State) :
    Host.Outcome State Fault Refusal :=
  .next (regCommand who .ethPortCfg [d, m, q] (ethCfgWrite d m q (withBit F.ethPortCfg_EN v)) s)

/-! Frames (R464, R466, R498). -/

/-- A received PTP message is discarded (R498). -/
def ptpBad (s : State) (d m q : Nat) (f : FrameIn) (data : Nat) : Bool :=
  match f.ptp with
  | none => false
  | some p =>
    s.bit .ethPortTsadj [d, m, q] F.ethPortTsadj_AUTHEN &&
      (if p.tlv then (match s.time.keys.find? (fun k => k.1.1 == d && k.2.1 == p.keyId.toNat) with
          | some k => decide (p.icv ≠ Config.ptpIcv k.2.2 f.len data)
          | none => true)
       else s.bit .ethPortTsadj [d, m, q] F.ethPortTsadj_AUTHREQ)

/-- The codewords of the FEC since the last frame are counted (the table of `cnt`): none where the port has no FEC. -/
def fecCount (d m q ccw ucw : Nat) (s : State) : State :=
  if s.fld .ethPortCfg [d, m, q] F.ethPortCfg_FEC = 0 then s
  else
    let s := (s.bumpFld .ethPortCnt [d, m, q] F.ethPortCnt_CCW ccw).bumpFld .ethPortCnt [d, m, q] F.ethPortCnt_UCW ucw
    if ucw = 0 then s else portFlag d m q F.ethPortStatus_FECUNC s

/-- A flow control frame (R463): PAUSE holds every queue, and priority flow control, when PFC is 1, the queues that it names,
for quanta of 512 bit times. None is a flow control frame. -/
def pauseIn (d m q : Nat) (f : FrameIn) (s : State) : Option State :=
  let x := s.eth d m
  let hold (l : List (Nat × Nat)) : State := s.setEth d m { x with
    paused := l.foldl (fun t e => if e.2 = 0 then t.erase (8 * q + e.1) else t.set (8 * q + e.1) (4096 * e.2)) x.paused }
  match f.pause with
  | some n => some (hold ((List.range 8).map fun r => (r, n % 65536)))
  | none =>
    if f.quanta = [] then none
    else some (if s.bit .ethPortCfg [d, m, q] F.ethPortCfg_PFC then hold (f.quanta.map fun e => (e.1.val, e.2 % 65536)) else s)

/-- ETH_FRAME_RECEIVE (R463, R464, R466, R467, R498): a frame takes the next descriptor of its queue, or is discarded. (DEDUCED,
unsafe: log entry 41.) -/
def ethReceive (d m : Fin 4) (q : Nat) (f : FrameIn) (sub : Nat) (s : State) : State :=
  if !s.bit .ethPortStatus [d, m, q] F.ethPortStatus_LINK then s
  else
    let s := fecCount d m q f.ccw f.ucw s
    match macsecIn s d m q f with
    | none => ethDrop d m q s
    | some data =>
      if !f.good || !frameSize f.len then ethDrop d m q s
      else match pauseIn d m q f s with
        | some t => t
        | none =>
          if ptpBad s d m q f data then
            timeFlag F.timeFlags_AUTHFAIL (s.bumpFld .timeAuthcnt [] F.timeAuthcnt_COUNT 1)
          else
            let r := match f.pcp with | some p => p.val | none => 0
            match nextDesc s d m q r false with
            | some idx =>
              if 2 ^ s.fld .ethPortCfg [d, m, q] F.ethPortCfg_RXBUF < f.len then ethDrop d m q s
              else beginJob d m q r false idx (data % 256 ^ f.len) f.len (frameStamp s d m q sub false) (replayMove d m q f s)
            | none => ethDrop d m q s

def execEthFrameReceive (d : Fin 4) (m : Fin 4) (q : Fin 8) (f : FrameIn) (sub : Nat) (s : State) :
    Host.Outcome State Fault Refusal := .next (if s.runs d 38 then ethReceive d m q f sub s else s)

/-- ETH_FRAME_TRANSMIT (R463, R464, R469): the next descriptor of a transmit ring is taken up, unless its priority is paused.
`sub` is the place of its timestamp point after the time frame before it leaves (R466). -/
def ethTransmit (d m : Fin 4) (q r sub : Nat) (s : State) : State :=
  if s.bit .ethPortStatus [d, m, q] F.ethPortStatus_LINK && !pnHeld s d m q &&
      decide ((s.eth d m).paused.get 0 (8 * q + r) = 0) then
    match nextDesc s d m q r true with
    | some idx => beginJob d m q r true idx 0 0 sub s
    | none => s
  else s

/-- One `noc` cycle of the pauses of a controller (R463): 5 units of 1/8 bit time at 1 Gb/s. -/
def pauseCycle (d m : Nat) (s : State) : State :=
  let x := s.eth d m
  if x.paused = [] then s
  else s.setEth d m { x with paused := x.paused.foldl (fun t e =>
    let rate := match ethMode (s.fld .ethPortCfg [d, m, e.1 / 8] F.ethPortCfg_MODE) with | some u => u.gbps | none => 1
    if e.2 ≤ 5 * rate then t.erase e.1 else t.set e.1 (e.2 - 5 * rate)) x.paused }

def execEthFrameTransmit (d : Fin 4) (m : Fin 4) (q r : Fin 8) (sub : Nat) (s : State) :
    Host.Outcome State Fault Refusal := .next (if s.runs d 38 then ethTransmit d m q r sub s else s)

/-- A stage of a frame has its response (R464): the descriptor, then the data, then the descriptor's write. -/
def ethArrive (d m : Fin 4) (job status data bad : Nat) (s : State) : State :=
  match (s.eth d m).jobs.find? (fun j => j.id == job) with
  | none => s
  | some j =>
    match j.stage with
    | 0 =>
      if status ≠ OK ∨ bad ≠ 0 then dropJob d m j s
      else
        let len := if j.tx then data / 2 ^ 64 % 2 ^ 16 else j.len
        let j := { j with stage := 1, desc := data, len := len }
        if len = 0 then writeBack d m j s
        else openAccess (.ethJob job)
          (ethReq s d m j.ring (if j.tx then .rd else .wr) (data % 2 ^ 64) len (if j.tx then 0 else j.data))
          (putJob d m j s)
    | 1 => if j.tx then sendFrameOut d m j data s else writeBack d m j s
    | 4 => s
    | _ =>
      retireJobs d m j.port j.ring j.tx ((s.eth d m).jobs.length + 1) (putJob d m { j with stage := 3 } s)

end Sys2Proof.Machine
end

