-- ==== Sys2Proof/Machine/Pcie.lean ====
section
/-! DEFINITION. The PCI Express controllers of dies 0 and 2 (R472 to R476). -/

namespace Sys2Proof.Machine
open Sys2Proof

/-- The die of a controller: 2 when `far` is set. -/
def pcieDie (far : Bool) : Fin 4 := if far then 2 else 0

/-- The size and the base of the package range of `bar[n]` (R475); none when it is disabled, or when the debug window takes
the place of `bar[2]`. -/
def barRange (s : State) (d n : Nat) : Option (Nat × Nat) :=
  let v := s.reg .pcieBar [d, n]
  let l := F.pcieBar_LOG2SZ.get v
  if l < 20 ∨ 43 < l ∨ (n = 2 ∧ s.bit .pcieDbgwin [d] F.pcieDbgwin_EN = true ∧ s.bit .pcieCfg [d] F.pcieCfg_ROLE = false)
  then none
  else
    let k := 2 ^ (l - 20)
    some (2 ^ l, F.pcieBar_TRANS.get v / k * k * 2 ^ 20)

/-- What configuration space shows for `bar[n]` of an endpoint (R475): the size of a 64-bit memory BAR, and whether it is
prefetchable; none for one that reads as zero. While EN of `dbgwin` is 1, BARs 4 and 5 show the debug window of 4 MiB (R650). -/
def barShown (s : State) (d n : Nat) : Option (Nat × Bool) :=
  if n = 2 ∧ s.bit .pcieDbgwin [d] F.pcieDbgwin_EN = true then some (2 ^ 22, false)
  else (barRange s d n).map fun r => (r.1, decide (n ≠ 2))

/-- The package address of an inbound request (R475): in the endpoint role an offset of the BAR that it hit, in the root-port
role an address in one of the three windows. -/
def inboundAddr (s : State) (d : Nat) (bar : Option (Fin 3)) (addr len : Nat) : Option Nat :=
  if s.bit .pcieCfg [d] F.pcieCfg_ROLE then
    if addr + len ≤ 2 ^ 48 ∧ (List.range 3).any (fun n => match barRange s d n with
        | some (sz, b) => decide (b ≤ addr) && decide (addr + len ≤ b + sz)
        | none => false) = true then some addr else none
  else
    match bar with
    | some n => match barRange s d n with
      | some (sz, b) => if addr + len ≤ sz then some (b + addr) else none
      | none => none
    | none => none

/-- PCIE_INBOUND_TLP: a request from the link is issued on the network (R472, R475). -/
def pcieInbound (d : Fin 4) (op : ReqOp) (bar : Option (Fin 3)) (addr len data : Nat) (cmp : W64) (afn : BitVec 3)
    (ord : Bool) (tc : Nat) (s : State) : State :=
  if s.bit .pcieStatus [d] F.pcieStatus_UP && s.runs d 38 && decide (0 < len) &&
      (match op with
        | .rd => decide (len ≤ 4096)
        | .wr => decide (len ≤ 512)
        | .at_ => (decide (len = 4) || decide (len = 8)) && decide (addr % len = 0)) then
    match inboundAddr s d bar addr len with
    | none => s
    | some a =>
      let pri := s.fld .pcieCfg [d] F.pcieCfg_TCPRI / 4 ^ tc % 4
      openAccess .pcieIn { mkReq s (.pcie d) op a len (data % 256 ^ len) with
        cmp := cmp, afn := afn, ord := ord, pri := pri } s
  else s

def execPcieInboundTlp (far : Bool) (op : ReqOp) (bar : Option (Fin 3)) (addr len data : Nat) (cmp : W64)
    (afn : BitVec 3) (ord : Bool) (tc : Fin 8) (s : State) : Host.Outcome State Fault Refusal :=
  .next (pcieInbound (pcieDie far) op bar addr len data cmp afn ord tc s)

/-- An inbound request has its outcome (R475): the completion of one that reads carries its data, with UR where STATUS is not 0,
and is poisoned where the response is. (DEDUCED, unsafe: log entry 42.) -/
def pcieInDone (d : Nat) (read : Bool) (status data bad : Nat) (s : State) : State :=
  let s := if read then s.answerWith status (BitVec.ofNat 64 data) (sectors bad) else s
  if status = OK then s else pcieFlag d F.pcieStatus_IBERR s

/-- The window of a controller (R33). -/
def pcieWindow (d : Nat) : Nat := if d = 2 then 0xE000000000 else 0xC000000000

/-- The PCIe address of an outbound request (R474). -/
def tlpAddr (s : State) (d a : Nat) : Nat :=
  s.fld .pcieCfg [d] F.pcieCfg_OBOFF * 2 ^ 43 + (a - pcieWindow d)

/-- An outbound request reaches the controller, becomes a TLP and waits for its completion (R474). (DEDUCED, unsafe: log entry
42.) -/
def pcieOut (d : Nat) (r : Req) (tag gen : Nat) (s : State) : State :=
  { s with pcies := s.pcies.set d (s.pcies.get [] d ++ [(r, tag, gen, tlpAddr s d r.addr)]) }

def pcieEp (d : Nat) : Nat := outerEp d 3 1

/-- PCIE_COMPLETION of the n-th waiting request (R474): a failure gives no response and sets OBERR. -/
def pcieCompletion (d n : Nat) (ok poisoned : Bool) (data : Nat) (s : State) : State :=
  let l := s.pcies.get [] d
  match l[n]? with
  | none => s
  | some (r, tag, gen, _) =>
    let s := { s with pcies := s.pcies.set d (l.eraseIdx n) }
    if ok then
      respond (pcieEp d) r tag gen OK (if r.op = .rd ∧ poisoned = false then data % 256 ^ r.len else 0)
        (if r.op = .rd ∧ poisoned = true then 3 else 0) s
    else pcieFlag d F.pcieStatus_OBERR s

def execPcieCompletion (far : Bool) (n : Nat) (ok poisoned : Bool) (data : Nat) (s : State) :
    Host.Outcome State Fault Refusal := .next (pcieCompletion (pcieDie far) n ok poisoned data s)

/-- The widest link, in lanes (the table of `cfg`). -/
def maxWidth (s : State) (d : Nat) : Nat := 2 ^ min (s.fld .pcieCfg [d] F.pcieCfg_MAXW) 4

/-- The highest rate, coded as MAXGEN. -/
def maxGen (s : State) (d : Nat) : Nat :=
  let g := s.fld .pcieCfg [d] F.pcieCfg_MAXGEN
  if g = 0 ∨ 5 < g then 5 else g

/-- The lanes of a link of a width, reversed or not (R473). -/
def pcieLanes (w : Nat) (rev : Bool) : List Nat := (List.range w).map fun k => if rev then 15 - k else k

/-- TXPLL and DIV of a rate from PLL A at 8 GHz or B at 10 GHz (R444, R473). -/
def pcieRate : Nat → Nat × Nat
  | 1 => (1, 4) | 2 => (1, 3) | 3 => (0, 2) | 4 => (0, 1) | _ => (0, 0)

/-- The controller sets MODE, DIV and TXPLL of a lane (R473). -/
def pcieLane (d gen : Nat) (s : State) (n : Nat) : State :=
  let r := pcieRate gen
  let ix := [d, n / 8, n % 8]
  ((s.setFld .lgrpLaneCfg ix F.lgrpLaneCfg_MODE 0).setFld .lgrpLaneCfg ix F.lgrpLaneCfg_TXPLL r.1).setFld .lgrpLaneCfg ix
    F.lgrpLaneCfg_DIV r.2

/-- The widest link, up to MAXW, whose lanes all have OWNER 3; 0 where there is none (R473). -/
def trainWidth (s : State) (d : Nat) (rev : Bool) : Nat :=
  ([16, 8, 4, 2, 1].find? fun w => decide (w ≤ maxWidth s d) &&
    (pcieLanes w rev).all (fun n => laneOwner s d (n / 8) (n % 8) == 3)).getD 0

/-- PCIE_LINK_CHANGE (R473, R476): a link comes up with a rate and a width that the lanes allow, or goes down. -/
def pcieLinkChange (d : Fin 4) (up rev : Bool) (gen lanes : Nat) (ltssm : BitVec 6) (eq : List LaneEq) (s : State) :
    State :=
  let set (s : State) (g w : Nat) (rev : Bool) : State :=
    (((s.setFld .pcieStatus [d] F.pcieStatus_GEN g).setFld .pcieStatus [d] F.pcieStatus_WIDTH w).setFld .pcieStatus [d]
      F.pcieStatus_REV rev.toNat).setFld .pcieStatus [d] F.pcieStatus_LTSSM ltssm.toNat
  if up then
    if s.bit .pcieCfg [d] F.pcieCfg_EN && s.runs d 38 && decide (1 ≤ gen) && decide (gen ≤ maxGen s d) &&
        decide (0 < lanes) && decide (lanes = trainWidth s d rev) then
      let s := (pcieLanes lanes rev).foldl (pcieLane d gen) s
      setPcieUp d true (set (eq.foldl (applyEq d 3) s) gen lanes rev)
    else s
  else setPcieUp d false (set s 0 0 false)

def execPcieLinkChange (far up rev : Bool) (gen : Fin 6) (lanes : Fin 17) (ltssm : BitVec 6) (eq : List LaneEq)
    (s : State) : Host.Outcome State Fault Refusal :=
  .next (pcieLinkChange (pcieDie far) up rev gen lanes ltssm eq s)

/-- A write of `cfg`: EN 0 takes the link down (R473, R476). -/
def pcieCfgWrite (d : Nat) (v : W64) (s : State) : Nat × State :=
  let s := plainWrite .pcieCfg [d] v s
  (OK, if F.pcieCfg_EN.get v = 0 then setPcieUp d false s else s)

end Sys2Proof.Machine
end

