-- ==== Sys2Proof/Machine/Scrub.lean ====
section
/-! DEFINITION. Scrub passes and the patrol of the control core's SRAM (R397 to R403). -/

namespace Sys2Proof.Machine
open Sys2Proof

def State.scrub (s : State) (d : Nat) : ScrubState := s.scrubs.get ScrubState.init d
def State.setScrub (s : State) (d : Nat) (x : ScrubState) : State := { s with scrubs := s.scrubs.set d x }

def scrubBusy (s : State) (d : Nat) : Bool := s.bit .integScrubStatus [d] F.integScrubStatus_BUSY

/-- The range of a pass lies in the DRAM window, or in the memories of the die's own engines and cases (R397). -/
def scrubRange (d base last : Nat) : Bool :=
  decide (last ≤ 0x8000000000) || (decide (dieMem d ≤ base) && decide (last ≤ dieMem d + 0x20000000))

/-- START in `scrub_ctl` (R401): the pass begins, or is refused. -/
def scrubStart (d : Nat) (repair : Bool) (s : State) : State :=
  let base := 64 * s.fld .integScrubBase [d] F.integScrubBase_BASE
  let last := 64 * s.fld .integScrubEnd [d] F.integScrubEnd_END
  if scrubBusy s d || decide (last ≤ base) || !scrubRange d base last then
    s.setFld .integScrubStatus [d] F.integScrubStatus_REFUSED 1
  else
    let s := s.setScrub d { ScrubState.init with
      base := base, last := last, sheet := 64 * s.fld .integScrubSheet [d] F.integScrubSheet_SHEET, repair := repair,
      next := base }
    let s := s.setFld .integScrubStatus [d] F.integScrubStatus_PASS
      (s.fld .integScrubStatus [d] F.integScrubStatus_PASS + 1)
    s.setFld .integScrubStatus [d] F.integScrubStatus_BUSY 1

/-- A write of `scrub_ctl` (R401, R402). -/
def scrubCtlWrite (d : Nat) (v : W64) (s : State) : Nat × State :=
  let busy := scrubBusy s d
  let stop := s.fld .integScrubCtl [d] F.integScrubCtl_STOP
  let s := s.setReg .integScrubCtl [d] (v &&& 0xF04)
  let s := s.setFld .integScrubCtl [d] F.integScrubCtl_STOP
    (if busy && decide (F.integScrubCtl_STOP.get v = 1) then 1 else stop)
  (OK, if F.integScrubCtl_START.get v = 1 then scrubStart d (decide (F.integScrubCtl_REPAIR.get v = 1)) s else s)

/-- SCRUB_START: `scrub_ctl` written with START 1 (R401). -/
def execScrubStart (who : Who) (d : Fin 4) (v : W64) (s : State) : Host.Outcome State Fault Refusal :=
  .next (regCommand who .integScrubCtl [d] (scrubCtlWrite d (withBit F.integScrubCtl_START v)) s)

/-- SCRUB_STOP: `scrub_ctl` written with STOP 1 (R402). -/
def execScrubStop (who : Who) (d : Fin 4) (v : W64) (s : State) : Host.Outcome State Fault Refusal :=
  .next (regCommand who .integScrubCtl [d] (scrubCtlWrite d (withBit F.integScrubCtl_STOP v)) s)

/-- A request of the scrub engine: priority 0 (R397). -/
def scrubReq (s : State) (d : Fin 4) (op : ReqOp) (addr len data : Nat) : Req :=
  { mkReq s (.scrub d) op addr len data with pri := 0, ord := false }

/-- 2^RATE `noc` cycles have passed since the last read (R398). -/
def scrubDue (s : State) (d : Nat) : Bool :=
  let x := s.scrub d
  decide (x.readAt = 0) || decide (x.readAt - 1 + 2 ^ s.fld .integScrubCtl [d] F.integScrubCtl_RATE ≤ s.hv .nocCycle [])

/-- SCRUB_READ: the next line of the pass is read (R397, R398, R402). -/
def scrubRead (d : Fin 4) (s : State) : State :=
  let x := s.scrub d
  if scrubDue s d && scrubBusy s d && !s.bit .integScrubCtl [d] F.integScrubCtl_STOP && decide (x.next < x.last) &&
      decide ((s.init (.scrub d)).accs.length < 16) && s.runs d 33 then
    openAccess .scrubRead (scrubReq s d .rd x.next 64 0) (s.setScrub d { x with next := x.next + 64, readAt := s.hv .nocCycle [] + 1 })
  else s

def execScrubRead (d : Fin 4) (s : State) : Host.Outcome State Fault Refusal := .next (scrubRead d s)

/-- The target of an address performs atomics and is repaired (R399, R400): DRAM and case memory. -/
def scrubRepairs (d a : Nat) : Bool :=
  decide (a < 0x8000000000) ||
    (decide (dieMem d + 0x10000000 ≤ a) && decide (a < dieMem d + 0x11000000))

/-- The words of a status payload that hold a byte of status 1. -/
def repairWords (data : Nat) : List Nat :=
  (List.range 8).filter fun w => (List.range 8).any fun i => data / 256 ^ (8 * w + i) % 256 == 1

/-- The bytes of a status payload with a value. -/
def statusCount (data v : Nat) : Nat := ((List.range 64).filter (fun i => data / 256 ^ i % 256 == v)).length

/-- A count of a pass saturates (R403). -/
def satAdd (a b : Nat) : Nat := min (a + b) (2 ^ 32 - 1)

/-- A scrub read has its response: the line is counted and repaired (R398, R399, R403). -/
def scrubLine (d : Fin 4) (addr status data : Nat) (s : State) : State :=
  let x := s.scrub d
  let x := { x with lines := satAdd x.lines 1 }
  if status ≠ OK then s.setScrub d { x with lost := satAdd x.lost 1 }
  else
    let bad := statusCount data 2
    let x := { x with
      clean := if data = 0 then satAdd x.clean 1 else x.clean,
      corr := satAdd x.corr (statusCount data 1), uncorr := satAdd x.uncorr bad,
      unwr := if statusCount data 3 = 64 then satAdd x.unwr 1 else x.unwr,
      firstUe := if bad = 0 then x.firstUe else min x.firstUe addr }
    let s := s.setScrub d x
    if x.repair && scrubRepairs d addr then
      (repairWords data).foldl (fun t w =>
        openAccess .scrubRepair { scrubReq t d .at_ (addr + 8 * w) 8 0 with afn := 3 } t) s
    else s

/-- A repair has its response (R403). -/
def scrubRepaired (d : Fin 4) (ok : Bool) (s : State) : State :=
  let x := s.scrub d
  s.setScrub d (if ok then { x with repaired := satAdd x.repaired 1 } else { x with repfail := satAdd x.repfail 1 })

/-- The proof sheet has its response (R401). -/
def scrubSheetDone (d : Fin 4) (status : Nat) (s : State) : State :=
  if status = OK then s else s.setFld .integScrubStatus [d] F.integScrubStatus_SHEET_ERR 1

/-- The proof sheet (R403). -/
def proofSheet (x : ScrubState) (us pass die : Nat) (aborted : Bool) : Nat :=
  x.base + 2 ^ 64 * x.last + 2 ^ 128 * x.lines + 2 ^ 160 * x.clean + 2 ^ 192 * x.corr + 2 ^ 224 * x.uncorr +
    2 ^ 256 * x.unwr + 2 ^ 288 * x.lost + 2 ^ 320 * x.repaired + 2 ^ 352 * x.repfail + 2 ^ 384 * x.firstUe +
    2 ^ 448 * us + 2 ^ 480 * pass + 2 ^ 496 * (x.repair.toNat + 2 * aborted.toNat) + 2 ^ 504 * die

/-- SCRUB_PASS_END: every response has arrived, and the range or STOP has ended the pass; `us` is its duration (R401 to
R403). -/
def scrubPassEnd (d : Fin 4) (us : W32) (s : State) : State :=
  let x := s.scrub d
  let stop := s.bit .integScrubCtl [d] F.integScrubCtl_STOP
  if scrubBusy s d && (decide (x.last ≤ x.next) || stop) && decide ((s.init (.scrub d)).accs = []) then
    let aborted := stop && decide (x.next < x.last)
    let pass := s.fld .integScrubStatus [d] F.integScrubStatus_PASS
    let s := openAccess .scrubSheet (scrubReq s d .wr x.sheet 64 (proofSheet x us.toNat pass d aborted)) s
    let s := (s.setFld .integScrubStatus [d] F.integScrubStatus_BUSY 0).setFld .integScrubCtl [d] F.integScrubCtl_STOP 0
    (s.setFld .integScrubStatus [d]
      (if aborted then F.integScrubStatus_ABORTED else F.integScrubStatus_DONE) 1).raiseEvent d 167
  else s

def execScrubPassEnd (d : Fin 4) (us : W32) (s : State) : Host.Outcome State Fault Refusal :=
  .next (scrubPassEnd d us s)

/-- The patrol reads a line of the SRAM and rewrites its correctable bytes (R400). -/
def patrolSram (d i : Nat) (s : State) : State :=
  let a := sramBase d + 64 * i
  let corr := s.mem.corrN a 64
  let bad := s.mem.badN a 64
  let s := integ s d 4 (64 * i) 0 corr bad
  { s with mem := s.mem.writeMask a 64 (s.mem.readN a 64) corr }

/-- The patrol reads a line of a cache: a correctable byte is rewritten, a line with an uncorrectable one is discarded, and
both count as corrected (R385, R400). -/
def patrolCache (d : Fin 4) (icache : Bool) (l : Nat) (s : State) : State :=
  let u : UnitId := .core d
  let x := s.unit u
  if x.cacheBits icache (64 * l) 64 2 ≠ 0 then
    (if icache then discardIline u (64 * l) s else discardLine u (64 * l) s)
  else if x.cacheBits icache (64 * l) 64 1 ≠ 0 then cacheAcct u (onUnit u (·.cleanLine icache l) s)
  else s

/-- PATROL_READ: the next line is read: first those of the SRAM, then those that the caches hold (R400). -/
def patrolRead (d : Fin 4) (s : State) : State :=
  let x := s.unit (.core d)
  let lines := x.dlines.map (fun e => (false, e.1)) ++ x.ilines.map (fun l => (true, l))
  let i := s.hv .patrol [d] % (8192 + lines.length)
  let s := s.setHv .patrol [d] (i + 1)
  match if i < 8192 then none else lines[i - 8192]? with
  | some p => patrolCache d p.1 p.2 s
  | none => patrolSram d (i % 8192) s

def execPatrolRead (d : Fin 4) (s : State) : Host.Outcome State Fault Refusal :=
  .next (if s.runs d 32 then patrolRead d s else s)

end Sys2Proof.Machine
end

