-- ==== Sys2Proof/Machine/NetDone.lean ====
section
/-! DEFINITION. The end of a request at its initiator interface: one outcome for a split access (R309), tags, generations
and late responses (R327 to R329), and a reset of the network (R620). -/

namespace Sys2Proof.Machine
open Sys2Proof

/-- The die of an initiator interface. -/
def whoDie (w : Who) : Nat := epDie (epOf w)

/-- The processor behind an interface: an engine by its logical slot (R307). -/
def whoUnit (s : State) : Who → Option UnitId
  | .core d => some (.core d)
  | .engine d c sl => some (s.engAt d c sl)
  | .guard => some .guard
  | _ => none

/-- The debug initiator has its response (R654). -/
def debugDone (a : Acc) (status data bad : Nat) (s : State) : State :=
  let ok := decide (status = OK)
  let s := (s.setFld .debugAcc [] F.debugAcc_BUSY 0).setFld .debugAcc [] F.debugAcc_STATUS status
  let s := if a.op = .rd then
      (s.setFld .debugAcc [] F.debugAcc_P (decide (bad ≠ 0)).toNat).setReg .debugData []
        (BitVec.ofNat 64 (if ok then data else 0))
    else s
  if ok && s.bit .debugAcc [] F.debugAcc_AUTOINC then
    s.setFld .debugAcc [] F.debugAcc_ADDR (s.fld .debugAcc [] F.debugAcc_ADDR + a.len)
  else s

/-- A request of a composing context has its response (R524). -/
def compDone (d : Nat) (status data : Nat) (s : State) : State :=
  let x := s.comp d
  if x.outs = 0 then s
  else
    s.setComp d { x with outs := x.outs - 1, got := some (BitVec.ofNat 64 data), failed := x.failed || decide (status ≠ OK) }

/-- The initiator has the outcome of a whole access (R309). `bad` marks poisoned bytes. -/
def accessDone (w : Who) (a : Acc) (s : State) : State :=
  let status := match a.fail with | some (_, st) => st | none => OK
  match a.use, w with
  | .unit id, w => (match whoUnit s w with | some u => finishAccess u id status a.data a.bad s | none => s)
  | .dmaRead k p, .dma d c => dmaArrive d c k p status a.data a.bad s
  | .dmaWrite k p, .dma d c => dmaWritten d c k p status s
  | .scrubRead, .scrub d => scrubLine d a.addr status a.data s
  | .scrubRepair, .scrub d => scrubRepaired d (decide (status = OK) && decide (a.bad = 0)) s
  | .scrubSheet, .scrub d => scrubSheetDone d status s
  | .debug, _ => debugDone a status a.data a.bad s
  | .ethJob j, .eth d m => ethArrive d m j status a.data a.bad s
  | .ethSa, .eth d m => saloadDone d m status a.data a.bad s
  | .pcieIn, .pcie d => pcieInDone d (decide (a.op ≠ .wr)) status a.data a.bad s
  | .comp, .core d => compDone d status a.data s
  | _, _ => s.answerWith status (BitVec.ofNat 64 a.data) (sectors a.bad)

/-- One piece of an access has its response (R309): a failing piece delivers zero, and the outcome is the STATUS of the
failing piece of lowest address. -/
def pieceDone (w : Who) (r : Req) (status data bad : Nat) (s : State) : State :=
  let i := s.init w
  match i.accs.find? (fun a => a.id == r.acc) with
  | none => s
  | some a =>
    let fail := if status = OK then a.fail else match a.fail with
      | some (ad, st) => if r.addr < ad then some (r.addr, status) else some (ad, st)
      | none => some (r.addr, status)
    let got := decide (status = OK) && decide (r.op ≠ .wr)
    let b := { a with
      left := a.left - 1, fail := fail,
      data := if got then a.data + data % 256 ^ r.len * 256 ^ r.off else a.data,
      bad := if got then a.bad + bad % 2 ^ r.len * 2 ^ r.off else a.bad }
    if b.left = 0 then accessDone w b (s.setInit w { i with accs := i.accs.filter (fun x => decide (x.id ≠ r.acc)) })
    else s.setInit w { i with accs := i.accs.map (fun x => if x.id = r.acc then b else x) }

/-- A genuine response with the tag's current generation is delivered; any other is discarded and counted, and one stale
request fewer holds the tag (R328, R329). -/
def responseIn (r : Resp) (s : State) : State :=
  let i := s.init r.who
  match i.outs.find? (fun o => o.tag == r.tag && o.gen == r.gen) with
  | some o =>
    pieceDone r.who o.req r.status r.data (if o.req.op = .at_ then (if r.pmask = 0 then 0 else 2 ^ r.len - 1)
        else sectorBytes r.pmask r.len)
      (s.setInit r.who { i with outs := i.outs.filter (fun x => decide (x.tag ≠ r.tag)) })
  | none =>
    let d := whoDie r.who
    let s := s.setInit r.who { i with stale := i.stale.set r.tag (i.stale.get 0 r.tag - 1) }
    netFlag d F.nocEstat_LATE (s.bumpFld .nocEcount [d] F.nocEcount_LATE 1)

/-- A request expires (R327, R329). -/
def requestExpires (w : Who) (o : OutTag) (s : State) : State :=
  let d := whoDie w
  let i := s.init w
  let n := i.stale.get 0 o.tag + 1
  let s := s.setInit w { i with
    outs := i.outs.filter (fun x => decide (x.tag ≠ o.tag)), gens := i.gens.set o.tag ((o.gen + 1) % 4),
    stale := i.stale.set o.tag n }
  let s := if n = 3 then netFlag d F.nocEstat_WHELD s else s
  let s := netFlag d F.nocEstat_TMO (s.bumpFld .nocEcount [d] F.nocEcount_TMO 1)
  pieceDone w o.req TIMEOUT 0 0 s

/-- Every outstanding request of an interface ends with TIMEOUT at once (R620). -/
def expireAll (w : Who) (s : State) : State := (s.init w).outs.foldl (fun t o => requestExpires w o t) s

/-- The tags withheld across the initiators of a die (R329). -/
def heldTags (s : State) (d : Nat) : Nat :=
  (s.inits.map fun e => if whoDie e.1 = d then (e.2.stale.filter (fun t => decide (t.2 = 3))).length else 0).sum

/-- The traffic of a die ends (R620, network): the flits in its routers and crossing ports are discarded and every
outstanding request ends. -/
def dropTraffic (d : Nat) (s : State) : State :=
  let s := pruneFlight { s with
    mesh := s.mesh.keep (fun k => decide (k.head? ≠ some d)),
    replies := s.replies.filter (fun e => decide (epDie e.1 ≠ d)),
    sides := s.sides.keep (fun k => decide (k.1 ≠ d)),
    netFlaws := s.netFlaws.filter (fun e => decide (e.die ≠ d)),
    links := s.links.map (fun e => if e.1.1 = d then
        (e.1, { e.2 with coming := [], out := [], retry := [], resend := 0, rxq := [], part := [], enter := [] })
      else e) }
  (s.inits.map (·.1)).foldl (fun t w => if whoDie w = d then expireAll w t else t) s

end Sys2Proof.Machine
end

