-- ==== Sys2Proof/Machine/Galley.lean ====
section
/-! DEFINITION. Changing a running device: clones (R549), quoins (R554 to R558), draining (R560, R561), galley swaps (R550 to
R553) and their triggers (R563 to R566). -/

namespace Sys2Proof.Machine
open Sys2Proof

/-- The reconfiguration event of a die (R561, R571). -/
def reconfigEvent (d : Nat) (s : State) : State := s.raiseEvent d 179

/-- GMASK of the partial load that is BUSY: while it waits for its turn, that of the forme at its address (R515, R543). -/
def partialMask (s : State) : Nat :=
  if s.load.stage = .idle then (readRange (s.load.base + 24) 8 s).1.getD 0 else s.load.pre.gmask

/-- A partial load whose GMASK names the galley is BUSY (R542, R549, R613). -/
def partialBusy (s : State) (d g : Nat) : Bool :=
  s.bit .guardPload [] F.guardPload_BUSY && (partialMask s).testBit (16 * d + g)

/-! Plane registers (R547). -/

/-- Copy the plane registers of a galley from one side to the other. -/
def copyPlaneRegs (d g : Nat) (toShadow : Bool) (s : State) : State :=
  let mv (s : State) (n : RegName) (ix : List Nat) : State :=
    if toShadow then s.setReg n ix (s.reg n (liveIx ix)) else s.setReg n (liveIx ix) (s.reg n ix)
  let s := mv s .galleyClk [d, g]
  let s := (List.range 4).foldl (fun t k => mv (mv t .galleyFportCfg [d, g, k]) .galleyFportWin [d, g, k]) s
  (List.range 32).foldl (fun (t : State) n =>
    let src (ix : List Nat) : Nat := t.fld .galleyClksel ix F.galleyClksel_SRC
    if toShadow then t.setFld .galleyClksel [d, g, n] F.galleyClksel_SRC (src (liveIx [d, g, n]))
    else t.setFld .galleyClksel (liveIx [d, g, n]) F.galleyClksel_SRC (src [d, g, n])) s

/-- Exchange the live and the shadow plane registers; a network whose SRC differs begins a source change (R273, R550). -/
def swapPlaneRegs (d g : Nat) (s : State) : State :=
  let sw (s : State) (n : RegName) (ix : List Nat) : State :=
    (s.setReg n ix (s.reg n (liveIx ix))).setReg n (liveIx ix) (s.reg n ix)
  let s := sw s .galleyClk [d, g]
  let s := (List.range 4).foldl (fun t k => sw (sw t .galleyFportCfg [d, g, k]) .galleyFportWin [d, g, k]) s
  (List.range 32).foldl (fun (t : State) n =>
    let a := t.fld .galleyClksel [d, g, n] F.galleyClksel_SRC
    let b := t.fld .galleyClksel (liveIx [d, g, n]) F.galleyClksel_SRC
    let t := (t.setFld .galleyClksel [d, g, n] F.galleyClksel_SRC b).setFld .galleyClksel (liveIx [d, g, n])
      F.galleyClksel_SRC a
    if a = b then t else (t.setFld .galleyClksel [d, g, n] F.galleyClksel_SWITCHING 1).setHv .clkEdges [d, g, n] 0) s

/-! Clones (R549). -/

/-- The copy of a clone: the cell frames, the pin frame and the plane registers, from the live plane to the shadow.
(DEDUCED, safe: log entry 51.) -/
def cloneCopy (d g : Nat) (s : State) : State :=
  let src := frameBase d g (liveOf s d g)
  let dst := frameBase d g (1 - liveOf s d g)
  let m := s.mem.copyN src dst 0x600000
  copyPlaneRegs d g true { s with mem := m.copyN (src + 0x7E0000) (dst + 0x7E0000) 256 }

/-- A write of `swap`: SWAPPED is W1C, CLONE starts a clone (R549). -/
def swapRegWrite (d g : Nat) (v : W64) (s : State) : Nat × State :=
  let s := plainWrite .galleySwap [d, g] (v &&& 0x8) s
  (OK, if F.galleySwap_CLONE.get v = 1 ∧ cloning s d g = false ∧ partialBusy s d g = false then
      (cloneCopy d g s).setFld .galleySwap [d, g] F.galleySwap_CLONING 1
    else s)

def execClone (who : Who) (d : Fin 4) (g : Fin 16) (v : W64) (s : State) : Host.Outcome State Fault Refusal :=
  .next (regCommand who .galleySwap [d, g] (swapRegWrite d g (withBit F.galleySwap_CLONE v)) s)

/-- CLONE_DONE (R549). -/
def execCloneDone (d : Fin 4) (g : Fin 16) (s : State) : Host.Outcome State Fault Refusal :=
  .next (if s.runs d g then s.setFld .galleySwap [d, g] F.galleySwap_CLONING 0 else s)

/-! Quoins (R554 to R558). -/

/-- Close the quoins of a galley: every latch that is open takes the value that its cell of the live plane declares (R554,
R555). (DEDUCED, unsafe: log entry 92.) -/
def closeQuoin (d g : Nat) (s : State) : State :=
  (((latchQuoins d g s).setFld .galleyQuoin [d, g] F.galleyQuoin_CLOSE 1).setFld .galleyQuoin [d, g]
    F.galleyQuoin_CLOSED 1).setHv .quoinOpening [d, g] 0

def fportOf (d g k : Nat) : Who := .fport ⟨d % 4, by omega⟩ ⟨g % 16, by omega⟩ ⟨k % 4, by omega⟩

/-- Open the quoins of a galley: each latch opens on the first edge of its clock (R555). -/
def openQuoin (d g : Nat) (s : State) : State :=
  let t := s.setFld .galleyQuoin [d, g] F.galleyQuoin_CLOSE 0
  if galleyClosed s d g && decide (s.hv .quoinOpening [d, g] = 0) then
    openSettle d g ((t.setHv .quoinOpening [d, g] 1).setHv .openNets [d, g] 0)
  else t

/-- CLOSE written as 0 is ignored: the galley is locked out (R645), in its initial load, or under test (R558). -/
def quoinHeld (s : State) (d g : Nat) : Bool :=
  galleyLocked s d g || initialLoad s || galleyTested s d g

/-- A write of `quoin` of a galley (R555). -/
def quoinWrite (d g : Nat) (v : W64) (s : State) : Nat × State :=
  (OK, if F.galleyQuoin_CLOSE.get v = 1 then closeQuoin d g s else if quoinHeld s d g then s else openQuoin d g s)

def execQuoinClose (who : Who) (d : Fin 4) (g : Fin 16) (v : W64) (s : State) : Host.Outcome State Fault Refusal :=
  .next (regCommand who .galleyQuoin [d, g] (quoinWrite d g (withBit F.galleyQuoin_CLOSE v)) s)

def execQuoinOpen (who : Who) (d : Fin 4) (g : Fin 16) (v : W64) (s : State) : Host.Outcome State Fault Refusal :=
  .next (regCommand who .galleyQuoin [d, g] (quoinWrite d g (v &&& ~~~1#64)) s)

/-- Open the quoin of a case: the events that arose are raised now (R557). -/
def openCaseQuoin (d c : Nat) (s : State) : State :=
  let s := (s.setFld .caseQuoin [d, c] F.caseQuoin_CLOSE 0).setFld .caseQuoin [d, c] F.caseQuoin_CLOSED 0
  let x := s.case d c
  x.defer.foldl (fun t n => t.raiseEvent d n) (s.setCase d c { x with defer := [] })

def closeCaseQuoin (d c : Nat) (s : State) : State :=
  (s.setFld .caseQuoin [d, c] F.caseQuoin_CLOSE 1).setFld .caseQuoin [d, c] F.caseQuoin_CLOSED 1

/-- A write of `quoin` of a case (R557, R645). -/
def caseQuoinWrite (d c : Nat) (v : W64) (s : State) : Nat × State :=
  (OK, if F.caseQuoin_CLOSE.get v = 1 then closeCaseQuoin d c s
    else if s.fld .bistLockout [d] F.bistLockout_CASE / 2 ^ c % 2 = 1 then s else openCaseQuoin d c s)

def execCaseQuoinClose (who : Who) (d : Fin 4) (c : Fin 16) (v : W64) (s : State) : Host.Outcome State Fault Refusal :=
  .next (regCommand who .caseQuoin [d, c] (caseQuoinWrite d c (withBit F.caseQuoin_CLOSE v)) s)

/-! Draining (R560, R561). -/

/-- An endpoint is a fabric port of the galley. -/
def fportEp (d g e : Nat) : Bool :=
  (List.range 4).any (fun k => decide (e = endpoint d (2 * (g % 4) + k % 2) (g / 4 + 1) k 0))


/-- INFLIGHT before it saturates (R560): the requests of the four ports without a response, and the requests that the
design has accepted and not answered. (DEDUCED, unsafe: log entry 37.) -/
def inflight (s : State) (d g : Nat) : Nat :=
  ((List.range 4).map (fun k => (s.init (fportOf d g k)).outs.length + (s.init (fportOf d g k)).queue.length)).sum +
    (s.accepted.filter (fun a => fportEp d g a.2.2.2)).length

def quiesced (s : State) (d g : Nat) : Bool := s.bit .galleyDrain [d, g] F.galleyDrain_QUIESCE

/-- What a read of `drain` returns. -/
def drainView (s : State) (d g : Nat) : W64 :=
  let n := inflight s d g
  F.galleyDrain_DRAINED.put (F.galleyDrain_INFLIGHT.put (s.reg .galleyDrain [d, g]) (min n 0x1FFF))
    (quiesced s d g && decide (n = 0)).toNat

/-- A write of `drain` (R560). -/
def drainWrite (d g : Nat) (v : W64) (s : State) : Nat × State := (OK, plainWrite .galleyDrain [d, g] v s)

def execQuiesce (who : Who) (d : Fin 4) (g : Fin 16) (v : W64) (s : State) : Host.Outcome State Fault Refusal :=
  .next (regCommand who .galleyDrain [d, g] (drainWrite d g (withBit F.galleyDrain_QUIESCE v)) s)

/-- DEXP (R561, R571). -/
def execDexp (d : Fin 4) (g : Fin 16) (s : State) : Host.Outcome State Fault Refusal :=
  .next (if quiesced s d g && decide (s.fld .galleyDrain [d, g] F.galleyDrain_LIMIT ≠ 0) &&
      decide (inflight s d g ≠ 0) && s.runs d g then
      reconfigEvent d (s.setFld .galleyDrain [d, g] F.galleyDrain_DEXP 1)
    else s)

/-! Swaps (R550 to R553). -/

/-- The block keeps its data array: its RETAIN cell is 1 in a plane (R551). -/
def retained (s : State) (d g pl b : Nat) : Bool := decide (cellIn s d g pl (.ramRetain b) = 1)

/-- A block keeps its queue through the swap to a plane (R551). -/
def keepsQueue (s : State) (d g old new b : Nat) : Bool :=
  let same (c : Cell) : Bool := decide (cellIn s d g old c % 4 = cellIn s d g new c % 4)
  retained s d g new b && same (.ramMode b) && same (.ramAspect b false) && same (.ramAspect b true)

/-- A pin of the galley in a bank needs another VCCO than the bank has (R296). -/
def galleyMismatch (s : State) (d g : Nat) (quick : Bool) : Bool :=
  let v := s.fld .ioBankStatus [d, g / 4 + (if quick then 4 else 0)] F.ioBankStatus_VCCO
  let pins := if quick then (List.range 4).map (4 * g + ·) else (List.range 6).map (6 * g + ·)
  pins.any fun n =>
    let need := needsVcco quick (stdOf s d quick n)
    decide (need ≠ 0) && decide (need ≠ v) && !pairSecond quick n (stdOf s d quick (n - 1))

/-- GALLEY_SWAP (R238, R282, R296, R550 to R553). -/
def galleySwap (d g : Nat) (s : State) : State :=
  let old := liveOf s d g
  let new := 1 - old
  let s := s.setHv .livePlane [d, g] new
  let s := (List.range 480).foldl (fun (t : State) b =>
    let t := if retained s d g new b then t.setHv .ramSkew [d, g, b] (1 - t.hv .ramSkew [d, g, b] % 2) else t
    if keepsQueue s d g old new b then t else t.setBlock d g b (t.block d g b).rst) s
  let s := orphan (fun w => match w with
    | .fport e h _ => decide (e.val = d) && decide (h.val = g)
    | _ => false) (swapPlaneRegs d g s)
  let s := { s with accepted := s.accepted.filter (fun a => !fportEp d g a.2.2.2) }
  let s := s.setFld .galleySwap [d, g] F.galleySwap_COUNT (s.fld .galleySwap [d, g] F.galleySwap_COUNT + 1)
  let s := reconfigEvent d (freshRegs d g (s.setFld .galleySwap [d, g] F.galleySwap_SWAPPED 1))
  let s := if galleyMismatch s d g false then setVmis d (g / 4) s else s
  if galleyMismatch s d g true then setVmis d (4 + g / 4) s else s

/-! Triggers (R563 to R566). -/

/-- An Active port leads from a die to another (R370). -/
def activePort (s : State) (e d : Nat) : Bool :=
  (List.range 12).any (fun p => decide (portTo e p = some d) && decide (lstate s e p = 5))

/-- A write of `xswap` (R563). A trigger under way is counted: those that were sent while a port was Active, and beyond
2^16 those that had to wait for one (R566). -/
def xswapWrite (e : Nat) (v : W64) (s : State) : Nat × State :=
  let s := plainWrite .ctlXswap [e] (v &&& ~~~1#64) s
  if F.ctlXswap_GO.get v = 0 then (OK, s)
  else
    let m := F.ctlXswap_DMASK.get v
    (OK, (List.range 4).foldl (fun (t : State) d =>
      if m / 2 ^ d % 2 = 0 then t
      else if d = e then t.setHv .xswapOwn [e] (t.hv .xswapOwn [e] + 1)
      else t.setHv .xswapSent [e, d] (t.hv .xswapSent [e, d] + (if activePort t e d then 1 else 2 ^ 16))) s)

def execXswapGo (who : Who) (d : Fin 4) (v : W64) (s : State) : Host.Outcome State Fault Refusal :=
  .next (regCommand who .ctlXswap [d] (xswapWrite d (withBit F.ctlXswap_GO v)) s)

/-- A flag of `xswap`, with its event (R571). -/
def xswapFlag (d : Nat) (f : Fld) (s : State) : State := reconfigEvent d (s.setFld .ctlXswap [d] f 1)

/-- XSWAP_TRIGGER: a trigger of die e arrives at die d (R565, R566); behind one that is PENDING it is refused (R564).
(DEDUCED, unsafe: log entry 50.) -/
def xswapArrive (e d : Nat) (s : State) : State :=
  let n := s.hv .xswapSent [e, d]
  if n = 0 ∨ s.hv .clkWait [] = 1 then s
  else if activePort s e d = false then s.setHv .xswapSent [e, d] (2 ^ 16 * (n % 2 ^ 16 + n / 2 ^ 16))
  else
    let late := decide (2 ^ 16 ≤ n)
    let s := s.setHv .xswapSent [e, d] (n - (if late then 2 ^ 16 else 1))
    let s := if late then xswapFlag d F.ctlXswap_LATE s else s
    if s.bit .ctlXswap [d] F.ctlXswap_PENDING then xswapFlag d F.ctlXswap_REFUSED s
    else s.setFld .ctlXswap [d] F.ctlXswap_PENDING 1

def execXswapTrigger (e d : Fin 4) (s : State) : Host.Outcome State Fault Refusal := .next (xswapArrive e d s)

/-- A galley of GMASK that makes a die refuse a trigger (R564). -/
def swapBlocked (s : State) (d g : Nat) : Bool :=
  !galleyClosed s d g || cloning s d g || partialBusy s d g || galleyTested s d g || !s.domOn d g || !s.released d

/-- XSWAP_CHECK: a die checks the oldest trigger that waits there, and swaps or refuses (R563 to R565). -/
def xswapCheck (d : Nat) (s : State) : State :=
  let pend := s.bit .ctlXswap [d] F.ctlXswap_PENDING
  let own := s.hv .xswapOwn [d]
  if pend = false ∧ own = 0 then s
  else
    let s := if pend then s.setFld .ctlXswap [d] F.ctlXswap_PENDING 0 else s.setHv .xswapOwn [d] (own - 1)
    let m := s.fld .ctlXswap [d] F.ctlXswap_GMASK
    let gs := (List.range 16).filter (fun g => m / 2 ^ g % 2 == 1)
    if decide (s.hv .clkWait [] = 1) || gs.any (swapBlocked s d) then xswapFlag d F.ctlXswap_REFUSED s
    else xswapFlag d F.ctlXswap_DONE (gs.foldl (fun t g => galleySwap d g t) s)

def execXswapCheck (d : Fin 4) (s : State) : Host.Outcome State Fault Refusal := .next (xswapCheck d s)

end Sys2Proof.Machine
end

