-- ==== Sys2Proof/Machine/Power.lean ====
section
/-! DEFINITION. Power domains and dies (R611 to R618), reset scopes (R619 to R624), start-up (R625), supplies and sensors
(R622, R692, R704), and the reference clock (R596 to R606). -/

namespace Sys2Proof.Machine
open Sys2Proof

/-- Power events (R628): of a die, and of the package. (DEDUCED, unsafe: log entry 49.) -/
def powerEvent (d : Nat) (s : State) : State := s.raiseEvent d 180
def pkgPowerEvent (s : State) : State := s.raiseEvent 0 501
def clockFlag (f : Fld) (s : State) : State := (s.setFld .powerClkflags [] f 1).raiseEvent 0 500

/-- The links of a die may train: the reference has been handed over and runs (R596, R625). -/
def linksMayRun (s : State) : Bool :=
  s.bit .powerClkstat [] F.powerClkstat_REFSRC && decide (s.hv .clkWait [] = 0)

/-! Resets (R619 to R621). -/

/-- The initiators that a domain reset resets. (DEDUCED, unsafe: log entry 49.) -/
def domInitiator (d k : Nat) : Who → Bool
  | .engine e c _ => decide (e.val = d) && decide (c.val + 16 = k)
  | .dma e c => decide (e.val = d) && decide (c.val + 16 = k)
  | .core e => decide (e.val = d) && decide (k = 32)
  | .fport e g _ => decide (e.val = d) && decide (g.val = k)
  | .scrub e => decide (e.val = d) && decide (k = 33)
  | .eth e _ => decide (e.val = d) && decide (k = 38)
  | .pcie e => decide (e.val = d) && decide (k = 38)
  | _ => false

/-- The contents of a domain after a reset of that domain alone (R620). -/
def domainContents (d k : Nat) (s : State) : State :=
  let s := if k = 33 then dropTraffic d s else s
  let s := if k < 16 then closeQuoin d k s else s
  let s := blankDom d k (orphan (domInitiator d k) s)
  let s := if k < 16 then { s with accepted := s.accepted.filter (fun a => !fportEp d k a.2.2.2) } else s
  if k = 38 then s.setTime { s.time with keys := s.time.keys.keep (fun x => decide (x.1 ≠ d)) }
  else if k = 33 ∧ linksMayRun s = true then linksUp d s
  else if 35 ≤ k ∧ k < 38 then ethSettle d s
  else s

/-- A die reset (R619 to R621): all 39 domains end On and Held; the guard core and the debug initiator on die 0 lose only
their outstanding requests. A test of the die is abandoned (R643). -/
def dieReset (d cause : Nat) (s : State) : State :=
  let s := dropTraffic d ((List.range 16).foldl (fun t g => closeQuoin d g t) s)
  let s := orphan (fun w => decide (whoDie w = d) && (match w with | .guard => false | .debug => false | _ => true)) s
  let s := blankDie d { s with accepted := s.accepted.filter (fun a => decide (epDie a.2.2.2 ≠ d)) }
  let s := s.setTime { s.time with keys := s.time.keys.keep (fun x => decide (x.1 ≠ d)) }
  let s := (List.range 39).foldl (fun (t : State) k =>
    ((t.setFld .powerDom [d, k] F.powerDom_STATE 2).setFld .powerDom [d, k] F.powerDom_ON 1).setFld .powerDom [d, k]
      F.powerDom_RESET 0) s
  let s := ((s.setFld .powerDie [d] F.powerDie_DSTATE 1).setFld .powerDie [d] F.powerDie_DCAUSE cause).setFld .powerDie [d]
    F.powerDie_RST 0
  let s := (s.setFld .powerDie [d] F.powerDie_ON 1).setHv .bistParts [d] 0
  if linksMayRun s then linksUp d s else s

/-- Every die (R535, R605). -/
def resetDies (cause : Nat) (s : State) : State := (List.range 4).foldl (fun t d => dieReset d cause t) s

/-! Domains (R612 to R615). -/

/-- The register of a domain; the fields of `dom[k]` and `pdom[k]` are the same. -/
def selReg : DomSel → RegName × List Nat
  | .die d k => (.powerDom, [d, k])
  | .pkg k => (.powerPdom, [k])

def selFld (s : State) (r : DomSel) (f : Fld) : Nat := s.fld (selReg r).1 (selReg r).2 f
def setSel (r : DomSel) (f : Fld) (x : Nat) (s : State) : State := s.setFld (selReg r).1 (selReg r).2 f x

/-- Set a W1C flag of a domain register, with the event (R628). -/
def selFlag (r : DomSel) (f : Fld) (s : State) : State :=
  let s := setSel r f 1 s
  match r with
  | .die d _ => powerEvent d s
  | .pkg _ => pkgPowerEvent s

/-- A self-test of the unit of a domain runs (R613, R644). -/
def domTested (s : State) (d k : Nat) : Bool :=
  decide (s.fld .bistStatus [d] F.bistStatus_STATE ≠ 0) && decide (s.hv .bistUnit [d] = k % 16) &&
    (if k < 16 then decide (s.hv .bistKind [d] = 0) else decide (k < 32) && decide (s.hv .bistKind [d] ≠ 0))

/-- The preconditions of switching a case off (R613), which a test of the case needs as well (R629). -/
def caseIdle (s : State) (d c : Nat) : Bool :=
  (List.range 9).all (fun p =>
    let st := (s.unit (.eng ⟨d % 4, by omega⟩ ⟨c % 16, by omega⟩ (posFin p))).st
    decide (st = .stopped) || decide (st = .faultStopped)) &&
  !s.bit .caseSpareStatus [d, c] F.caseSpareStatus_BUSY && s.caseClosed d c

/-- The preconditions of switching a domain off (R613). -/
def mayStop (s : State) (w : Who) : DomSel → Bool
  | .die d k =>
    let d := d.val
    let k := k.val
    if k < 16 then galleyClosed s d k && !partialBusy s d k && !domTested s d k
    else if k < 32 then caseIdle s d (k - 16) && !domTested s d k
    else if k < 34 then false
    else if k = 34 then
      let idle (j : Nat) : Bool := let st := ddrState s d j; decide (st = 0) || decide (st = 4) || decide (st = 5)
      (idle 0 && idle 1) || (decide ((s.ddr d 0).queue = []) && decide ((s.ddr d 1).queue = []))
    else if k < 38 then
      (List.range 8).all (fun i => s.fld .lgrpLaneCfg [d, k - 35, i] F.lgrpLaneCfg_OWNER == 0) &&
        (List.range 4).all (fun l => s.fld .lgrpJesdCfg [d, k - 35, l] F.lgrpJesdCfg_EN == 0)
    else
      (List.range 4).all (fun m => (List.range 8).all (fun q => s.fld .ethPortCfg [d, m, q] F.ethPortCfg_EN == 0)) &&
        decide (s.fld .pcieCfg [d] F.pcieCfg_EN = 0)
  | .pkg k =>
    if k.val = 0 then decide (s.fld .timeCtl [] F.timeCtl_EN = 0)
    else if k.val = 3 then decide (w = .guard)
    else [2 * (k.val - 1), 2 * (k.val - 1) + 1].all (fun d => (List.range 4).all (fun j =>
      let st := lstate s d (8 + j); decide (st = 0) || decide (st = 6)))

/-- The registers of the debug domain. -/
def debugKey (k : RKey) : Bool := decide (pkgBlock k = some 6)

/-- Every target that the halt controller holds resumes, and a halt or a step that is still to come is dropped (R653, R659). -/
def resumeAll (s : State) : State :=
  let wake (e : UnitId × UnitState) : UnitId × UnitState :=
    (e.1, if e.2.st = .halted then { e.2 with resume := 1 } else { e.2 with haltDue := false, stepping := false })
  let s := { s with hid := s.hid.keep (fun k => decide (k.n ≠ HidName.caseHalted)), units := s.units.map wake }
  (s.units.map (·.1)).foldl (fun t u => releaseAt u t) s

/-- A reset of the debug domain: its registers, its halts, the test access port and its initiator (R619, R647). -/
def blankDebug (s : State) : State :=
  resumeAll (orphan (fun w => decide (w = .debug)) { s.clearRegs debugKey with tap := TapState.init })

/-- The contents of a domain after its reset (R615, R620). R620 has no row for an interposer half alone: its reset leaves the
registers of `pkg.photon`. (DESIGN CHOICE, unsafe: log entry 71.) -/
def selContents (r : DomSel) (s : State) : State :=
  match r with
  | .die d k => domainContents d k s
  | .pkg k =>
    if k.val = 0 then blankTiming s
    else if k.val = 3 then blankDebug s
    else s

/-- Begin to switch a domain off (R612): reset is asserted. -/
def beginStop (r : DomSel) (s : State) : State :=
  selContents r (setSel r F.powerDom_RESET 0 (setSel r F.powerDom_STATE 3 (setSel r F.powerDom_ON 0 s)))

/-- ON is 0 while the domain is On (R612, R613). -/
def requestOff (w : Who) (r : DomSel) (s : State) : State :=
  if mayStop s w r then beginStop r s
  else selFlag r F.powerDom_REFUSED (setSel r F.powerDom_ON 1 s)

/-- The die of a domain is Held (R612, R616). -/
def selHeld (s : State) : DomSel → Bool
  | .die d _ => decide (s.fld .powerDie [d] F.powerDie_DSTATE = 1)
  | .pkg _ => false

/-- The part of a self-test under way ends early, and finishing follows (R643, R646). -/
def endTest (d : Nat) (s : State) : State :=
  let st := s.fld .bistStatus [d] F.bistStatus_STATE
  if st = 1 ∨ st = 2 then
    ((s.setFld .bistStatus [d] F.bistStatus_STATE 3).setFld .bistStatus [d] F.bistStatus_ABORTED 1).setHv .bistParts [d] 8
      |>.raiseEvent d 181
  else s

/-- A domain reset in place (R612, R620); a test of the unit ends early (R643), and the reset of the case around a position
under test follows its finishing. (DEDUCED, unsafe: log entry 53.) -/
def resetInPlace (r : DomSel) (s : State) : State :=
  let s := setSel r F.powerDom_RESET 0 s
  match r with
  | .die d k =>
    if domTested s d k then
      let t := endTest d s
      if s.hv .bistKind [d] = 1 then t.setHv .bistParts [d] (t.hv .bistParts [d] % 16 + 16) else t
    else domainContents d k s
  | r => selContents r s

/-- A write of `dom[k]` or `pdom[k]` (R612). -/
def domWrite (w : Who) (r : DomSel) (v : W64) (s : State) : Nat × State :=
  let n := (selReg r).1
  let ix := (selReg r).2
  let s := s.setReg n ix (s.reg n ix &&& ~~~(v &&& 0x300))
  let on := F.powerDom_ON.get v
  let rst := decide (F.powerDom_RESET.get v = 1)
  let st := selFld s r F.powerDom_STATE
  (OK, if st = 2 then
      if on = 0 then requestOff w r s
      else if rst && !selHeld s r then resetInPlace r s else s
    else if st = 0 then (if on = 1 then setSel r F.powerDom_STATE 1 (setSel r F.powerDom_ON 1 s) else s)
    else
      let s := setSel r F.powerDom_ON on s
      if rst then setSel r F.powerDom_RESET 1 s else s)

def execDomainOff (who : Who) (r : DomSel) (v : W64) (s : State) : Host.Outcome State Fault Refusal :=
  .next (regCommand who (selReg r).1 (selReg r).2 (domWrite who r (v &&& ~~~1#64)) s)

def execDomainOn (who : Who) (r : DomSel) (v : W64) (s : State) : Host.Outcome State Fault Refusal :=
  .next (regCommand who (selReg r).1 (selReg r).2 (domWrite who r (withBit F.powerDom_ON v)) s)

def execDomainReset (who : Who) (r : DomSel) (v : W64) (s : State) : Host.Outcome State Fault Refusal :=
  .next (regCommand who (selReg r).1 (selReg r).2 (domWrite who r (withBit F.powerDom_RESET v)) s)

/-- Every domain of a die is in a STATE. -/
def allDoms (s : State) (d n : Nat) : Bool := (List.range 39).all (fun k => s.fld .powerDom [d, k] F.powerDom_STATE == n)

/-- A port of another die that leads to a die whose network is Off goes Down (R617). -/
def partnersDown (d : Nat) (s : State) : State :=
  (List.range 12).foldl (fun t p =>
    let e := partnerOf d p
    if decide (e ≠ d) && decide (lstate t e p ≠ 6) then chooseAll e [p] (setLState e p 0 t) else t) s

/-- SWITCH_OPEN: a Stopping domain reaches Off (R612, R614, R645); a write of ON 1 that was held is acted on. -/
def switchOpen (r : DomSel) (s : State) : State :=
  if selFld s r F.powerDom_STATE ≠ 3 then s
  else
    let s := selFlag r F.powerDom_CHG (setSel r F.powerDom_RESET 0 (setSel r F.powerDom_STATE 0 s))
    let s := match r with
      | .die d k =>
        let f := if k.val < 16 then F.bistLockout_GALLEY else F.bistLockout_CASE
        let s := if k.val < 32 then
            let m := s.fld .bistLockout [d] f
            s.setFld .bistLockout [d] f (if m / 2 ^ (k.val % 16) % 2 = 1 then m - 2 ^ (k.val % 16) else m)
          else s
        let s := if k.val = 33 then partnersDown d s else s
        if allDoms s d 0 then s.setFld .powerDie [d] F.powerDie_DSTATE 0 else s
      | .pkg k =>
        if k.val = 0 then
          (List.range 4).foldl (fun (t : State) d => t.setFld .timeStatus [] ⟨F.timeStatus_FALIGN.lo + d, 1⟩ 0) s
        else s
    if selFld s r F.powerDom_ON = 1 then setSel r F.powerDom_STATE 1 s else s

def execSwitchOpen (r : DomSel) (s : State) : Host.Outcome State Fault Refusal := .next (switchOpen r s)

/-- DOMAIN_POWERED: a Powering domain reaches On with its reset contents (R612, R615); a write of ON 0 or of RESET that was
held is acted on. A die whose domains are all On is Held (R616, R617). -/
def domainPowered (r : DomSel) (s : State) : State :=
  if selFld s r F.powerDom_STATE ≠ 1 then s
  else
    let s := selContents r (setSel r F.powerDom_STATE 2 s)
    let s := selFlag r F.powerDom_CHG s
    let s := match r with
      | .die d _ =>
        if allDoms s d 2 && decide (s.fld .powerDie [d] F.powerDie_DSTATE = 0) then
          (s.setFld .powerDie [d] F.powerDie_DSTATE 1).setHv .dieWait [d] 1
        else s
      | .pkg k =>
        if (k.val = 1 ∨ k.val = 2) ∧ linksMayRun s = true then
          linksUp (2 * (k.val - 1) + 1) (linksUp (2 * (k.val - 1)) s)
        else s
    if selFld s r F.powerDom_ON = 0 then requestOff .guard r (setSel r F.powerDom_RESET 0 s)
    else if selFld s r F.powerDom_RESET = 1 then
      (if selHeld s r then setSel r F.powerDom_RESET 0 s else resetInPlace r s)
    else s

def execDomainPowered (r : DomSel) (s : State) : Host.Outcome State Fault Refusal := .next (domainPowered r s)

/-! Dies (R616, R617). -/

/-- ON of a die asks the same of each of its domains (R612, R617), without the preconditions of R613. -/
def dieDomains (d : Fin 4) (on : Nat) (s : State) : State :=
  (List.range 39).foldl (fun (t : State) k =>
    let r : DomSel := .die d ⟨k % 39, by omega⟩
    let st := selFld t r F.powerDom_STATE
    if on = 0 ∧ st = 2 then beginStop r t
    else if on = 1 ∧ st = 0 then setSel r F.powerDom_STATE 1 (setSel r F.powerDom_ON 1 t)
    else setSel r F.powerDom_ON on t) s

/-- A write of `pkg.power.die[d]` (R616, R617, R619): after RST while a forme runs, the die is Released again. -/
def dieWrite (d : Fin 4) (v : W64) (s : State) : Nat × State :=
  let s := s.setReg .powerDie [d] (s.reg .powerDie [d] &&& ~~~(v &&& 0xC0))
  let on := F.powerDie_ON.get v
  let was := s.fld .powerDie [d] F.powerDie_ON
  if F.powerDie_RST.get v = 1 ∧ on = 1 ∧ allDoms s d 0 = false then
    let s := dieReset d 2 s
    (OK, if gstate s = 5 ∧ s.hv .supplyOut [d] = 0 then s.setFld .powerDie [d] F.powerDie_DSTATE 2 else s)
  else if on ≠ was then
    let s := s.setFld .powerDie [d] F.powerDie_ON on
    (OK, dieDomains d on (if on = 0 then dropTraffic d s else s))
  else (OK, s)

def execDieOff (who : Who) (d : Fin 4) (v : W64) (s : State) : Host.Outcome State Fault Refusal :=
  .next (regCommand who .powerDie [d] (dieWrite d (v &&& ~~~1#64)) s)

def execDieOn (who : Who) (d : Fin 4) (v : W64) (s : State) : Host.Outcome State Fault Refusal :=
  .next (regCommand who .powerDie [d] (dieWrite d (withBit F.powerDie_ON (v &&& ~~~2#64))) s)

def execDieReset (who : Who) (d : Fin 4) (v : W64) (s : State) : Host.Outcome State Fault Refusal :=
  .next (regCommand who .powerDie [d] (dieWrite d (withBit F.powerDie_ON (withBit F.powerDie_RST v))) s)

/-! Supplies and sensors (R622, R692, R704). -/

/-- A bit of `supstat`. -/
def setRail (rail : Nat) (on : Bool) (s : State) : State := s.setFld .powerSupstat [] ⟨rail, 1⟩ on.toNat

/-- SUPFAIL: a core supply leaves tolerance (R622). -/
def supfail (d : Nat) (s : State) : State :=
  let s := dieReset d 5 (setRail d false s)
  let s := (s.setHv .supplyOut [d] 1).setHv .dieWait [d] 1
  pkgPowerEvent (s.setFld .powerDie [d] F.powerDie_SUPFAIL 1)

def execSupfail (d : Fin 4) (s : State) : Host.Outcome State Fault Refusal := .next (supfail d s)

/-- TEMPERATURE_READ (R704): `raw` in units of 0.125 °C. -/
def execTemperatureRead (d : Fin 4) (raw : BitVec 12) (s : State) : Host.Outcome State Fault Refusal :=
  let s := s.setFld .powerTemp [d] F.powerTemp_TEMP raw.toNat
  let lim : Int := 8 * s.fld .powerTemp [d] F.powerTemp_TLIM
  .next (if raw.toInt < lim - 40 then s.setHv .thotArmed [d] 0
    else if lim ≤ raw.toInt ∧ s.hv .thotArmed [d] = 0 then
      pkgPowerEvent ((s.setFld .powerTemp [d] F.powerTemp_THOT 1).setHv .thotArmed [d] 1)
    else s)

/-! Power-on, guard and debug resets (R619, R623 to R625). -/

/-- A power-on reset reaches everything; the fuses and the flash keep what they hold (R572, R624). -/
def powerOnReset (s : State) : State :=
  { State.reset with
    mem := { State.reset.mem with bytes := s.mem.bytes.filter (fun e => decide (fuseBase ≤ e.1)) },
    board := s.board, freeCtr := s.freeCtr, answer := s.answer, pending := s.pending,
    regs := s.regs.keep (fun k => match k.n with | .powerSupstat => true | _ => false),
    hid := s.hid.keep (fun k => match k.n with | .supplyOut => true | _ => false) }

def execPowerOnReset (s : State) : Host.Outcome State Fault Refusal := .next (powerOnReset s)

/-- The active laser input at power-on (R374): the one that SEL names when it is OK, else the other when that is OK. -/
def laserStart (s : State) : State :=
  let lit (i : Nat) (on : Bool) (f : Fld) (t : State) : State :=
    if on then (t.setFld .photonInpwr [i] F.photonInpwr_LINE_OK (2 ^ 18 - 1)).setFld .photonLaser [] f 1 else t
  let s := lit 1 s.board.lightB F.photonLaser_B_OK (lit 0 s.board.lightA F.photonLaser_A_OK s)
  let sel := s.fld .photonLaser [] F.photonLaser_SEL
  s.setFld .photonLaser [] F.photonLaser_ACT (if !inputOk s sel && inputOk s (1 - sel) then 1 - sel else sel)

/-- PORN_RISE: every supply is within tolerance (R624), and the start-up sequence runs up to forme selection (R625); the
dies are Held, and their links train after the hand-over. (DEDUCED, safe: log entry 5.) -/
def pornRise (board : Board) (puf : Bool) (s : State) : State :=
  if s.hv .guardUp [] = 1 then s
  else
    let s := laserStart ((List.range 26).foldl (fun t r => setRail r true t) { s with board := board })
    let s := (List.range 4).foldl (fun (t : State) d => t.setHv .supplyOut [d] 0) (setRail 26 board.hk33 s)
    let s := (List.range 4).foldl (fun t d => (List.range 16).foldl (fun t c => resetRemap d c t) t) s
    guardStart puf s

def execPornRise (board : Board) (puf : Bool) (s : State) : Host.Outcome State Fault Refusal := .next (pornRise board puf s)

/-- A scope bit of the unlock in force (R652). -/
def granted (s : State) (bit : Nat) : Bool := !debugLocked s && decide (s.sec.scope / 2 ^ bit % 2 = 1)

/-- GUARD_RESET: GRST written by the debug initiator, which needs CONTROL (R619, R623, R652). -/
def execGuardReset (puf : Bool) (s : State) : Host.Outcome State Fault Refusal :=
  .next (if s.pdomOn 3 && granted s 6 && decide (s.hv .guardUp [] = 1) then guardResetWith 4 puf s else s)

def execDebugReset (s : State) : Host.Outcome State Fault Refusal := .next (blankDebug s)

/-! The reference (R596 to R606). -/

/-- Four windows prove the reference (R597). -/
def windowsProve (l : List Nat) : Bool :=
  let sum := l.sum
  decide (l.length = 4) && l.all (fun c =>
    decide (7946 ≤ c) && decide (c ≤ 8438) && decide (99 * sum ≤ 400 * c) && decide (400 * c ≤ 101 * sum))

def ckstate (s : State) : Nat := s.fld .powerClkstat [] F.powerClkstat_CKSTATE
def setCkstate (n : Nat) (s : State) : State := s.setFld .powerClkstat [] F.powerClkstat_CKSTATE n

/-- A source failure (R600 to R602, R604, R434): `root` is the root that lost lock, none for the reference. The
reference must be proven again; when it is lost, REFSRC falls and every root unlocks. (DEDUCED, safe: log entry 48.) -/
def sourceFailure (root : Option (Fin 4)) (s : State) : State :=
  if !(decide (ckstate s = 1) || decide (ckstate s = 4)) then s
  else
    let s := clockFlag F.powerClkflags_CKFAIL (s.setFld .powerClkstat [] F.powerClkstat_CAUSE
      (match root with | none => 1 | some d => 2 + d.val))
    let s := { s.setHv .proven [] 0 with windows := [] }
    let s := match root with
      | none => (s.setFld .powerClkstat [] F.powerClkstat_REFSRC 0).setFld .powerClkstat [] F.powerClkstat_ROOTLOCK 0
      | some d => s.setFld .powerClkstat [] ⟨F.powerClkstat_ROOTLOCK.lo + d.val, 1⟩ 0
    let s := (List.range 4).foldl (fun t d => (List.range 12).foldl (fun (t : State) p =>
      if lstate t d p = 5 then t.setHv .ckPort [d, p] 1 else t) t) s
    let s := (List.range 4).foldl (fun t d => (List.range 2).foldl (fun t k => enterSelfRefresh d k t) t) s
    setCkstate 3 (quietAll (s.setHv .clkWait [] 1))

def execSourceFailure (root : Option (Fin 4)) (s : State) : Host.Outcome State Fault Refusal :=
  .next (sourceFailure root s)

/-- What a rail of the last row of R692 that leaves its window does to the units it feeds: VCCAUX unlocks the die roots, a
source failure; VCCLA and VCCLT of a die unlock its lane PLLs. Which root CAUSE then names is open. (DESIGN CHOICE, unsafe:
log entry 91.) -/
def railLost (rail : Nat) (s : State) : State :=
  if rail = 6 then (sourceFailure (some 0) s).setFld .powerClkstat [] F.powerClkstat_ROOTLOCK 0
  else if 10 ≤ rail ∧ rail < 18 then
    (List.range 3).foldl (fun t j => pllLost ((rail - 10) % 4) j 1 (pllLost ((rail - 10) % 4) j 0 t)) s
  else s

/-- RAIL_WINDOW_CHANGE: a rail of the last row of R692 (bits 6 to 25), or a supply with a reset action that is back. -/
def execRailWindowChange (rail : Fin 32) (inside : Bool) (s : State) : Host.Outcome State Fault Refusal :=
  .next (if rail.val < 4 then (if inside then (setRail rail true s).setHv .supplyOut [rail] 0 else s)
    else if rail.val < 6 then (if inside then setRail rail true s else s)
    else if rail.val < 26 then (if inside then setRail rail true s else railLost rail (setRail rail false s))
    else s)

/-- PROVING_WINDOW (R597, R600): after the hand-over a count outside the band is a source failure. -/
def provingWindow (count : Nat) (s : State) : State :=
  if s.hv .guardUp [] = 0 then s
  else
    let s := s.setFld .powerClkstat [] F.powerClkstat_WINCNT count
    let s := { s with windows := (count :: s.windows).take 4 }
    if (ckstate s = 1 ∨ ckstate s = 4) ∧ (count < 7946 ∨ 8438 < count) then sourceFailure none s
    else if windowsProve s.windows then
      let s := s.setHv .proven [] 1
      if ckstate s = 3 then s.setFld .powerClkstat [] F.powerClkstat_REFSRC 1 else s
    else s

def execProvingWindow (count : Fin 16384) (s : State) : Host.Outcome State Fault Refusal := .next (provingWindow count s)

/-- HAND_OVER (R594, R598, R625): `ref` switches to XIN, the roots lock, and the links of the dies begin their training. -/
def handOver598 (s : State) : State :=
  if s.hv .guardUp [] = 1 ∧ s.hv .proven [] = 1 ∧ ckstate s = 0 then
    let s := (s.setFld .powerClkstat [] F.powerClkstat_REFSRC 1).setFld .powerClkstat [] F.powerClkstat_ROOTLOCK 0xF
    linksAll (setCkstate 1 s)
  else s

def execHandOver (s : State) : Host.Outcome State Fault Refusal := .next (handOver598 s)

/-- REFERENCE_NOT_PROVEN (R599). -/
def execReferenceNotProven (s : State) : Host.Outcome State Fault Refusal :=
  .next (if s.hv .guardUp [] = 1 ∧ ckstate s = 0 ∧ s.hv .proven [] = 0 then clockFlag F.powerClkflags_REFFAIL s else s)

/-- ROOT_RELOCK_TRY (R603). -/
def execRootRelockTry (d : Fin 4) (ok : Bool) (s : State) : Host.Outcome State Fault Refusal :=
  .next (if ckstate s = 3 ∧ s.hv .proven [] = 1 ∧ ok = true then
      s.setFld .powerClkstat [] ⟨F.powerClkstat_ROOTLOCK.lo + d.val, 1⟩ 1
    else s)

/-- SOURCE_RETURN (R434, R603, R605): the clocks start again, DRAM leaves self-refresh and owes its passes, the ports that
were Active enter fast Probe, and those that a reset in the wait has left Down begin their initial training (R358). After a
wait limit the guard core enters Probe of forme selection. -/
def sourceReturn (s : State) : State :=
  if ckstate s = 3 ∧ s.hv .proven [] = 1 ∧ s.fld .powerClkstat [] F.powerClkstat_ROOTLOCK = 0xF then
    let s := setCkstate 4 (s.setHv .clkWait [] 0)
    let s := (List.range 4).foldl (fun t d => (List.range 2).foldl (fun (t : State) k =>
      if ddrState t d k = 5 then owePasses d k t else t) t) s
    let s := (List.range 4).foldl (fun t d => (List.range 12).foldl (fun (t : State) p =>
      if t.hv .ckPort [d, p] = 1 ∧ lstate t d p = 5 then linkTrigger d p t else t.setHv .ckPort [d, p] 0) t) s
    let s := linksAll (ckDone s)
    if s.hv .reselect [] = 1 then probeFormes (s.setHv .reselect [] 0) else s
  else s

def execSourceReturn (s : State) : Host.Outcome State Fault Refusal := .next (sourceReturn s)

/-- WAIT_LIMIT (R605). -/
def waitLimit (s : State) : State :=
  if ckstate s = 3 ∧ s.fld .powerClkctl [] F.powerClkctl_WAITLIM ≠ 0 then
    clockFlag F.powerClkflags_WLIM ((resetDies 4 s).setHv .reselect [] 1)
  else s

def execWaitLimit (s : State) : Host.Outcome State Fault Refusal := .next (waitLimit s)

end Sys2Proof.Machine
end

