-- ==== Sys2Proof/Machine/Forme.lean ====
section
/-! DEFINITION. Loading a forme: release of chunks (R521 to R523), composing mode (R524 to R531), stream failures and user
start (R535, R538), partial formes (R539 to R541) and flash operations (R543, R544). -/

namespace Sys2Proof.Machine
open Sys2Proof

/-- The forme event of the package (R545). -/
def formeEvent (s : State) : State := s.raiseEvent 0 498

/-- Set a W1C field of `pstat` or `fop`, with the event (R545). -/
def pstatFlag (f : Fld) (s : State) : State := formeEvent (s.setFld .guardPstat [] f 1)
def fopFlag (f : Fld) (s : State) : State := formeEvent (s.setFld .guardFop [] f 1)

/-! Configuration instructions (R525). -/

/-- An instruction from its head. -/
inductive CfgOp where
  | wreg (w64 : Bool) (n addr : Nat)
  | wmem (addr : Nat)
  | frame (g fa count : Nat)
  | rbc (g fa count : Nat) (strict shadow : Bool)
  | poll (w64 : Bool) (addr : Nat)
  | call (off : Nat)
  | sync (m tag : Nat)
  | fin (final : Bool) (entry : Nat)
  deriving DecidableEq, Repr

/-- The OP of an instruction. -/
def CfgOp.code : CfgOp → Nat
  | .wreg _ _ _ => 1
  | .wmem _ => 2
  | .frame _ _ _ => 3
  | .rbc _ _ _ _ _ => 4
  | .poll _ _ => 5
  | .call _ => 6
  | .sync _ _ => 8
  | .fin _ _ => 15

/-- Bits lo to lo + n − 1 of a number. -/
def bitsAt (x lo n : Nat) : Nat := x / 2 ^ lo % 2 ^ n

/-- The instruction of a head (R525); none for an OP that a forme of its kind does not have, a COUNT of 0, an SRAM offset
that is not a multiple of 4, or another head bit that is not zero. -/
def cfgDecode (part : Bool) (h : Nat) : Option CfgOp :=
  match bitsAt h 56 8 with
  | 1 => some (.wreg (decide (bitsAt h 55 1 = 1)) (bitsAt h 48 7 + 1) (bitsAt h 0 48))
  | 2 => if bitsAt h 48 8 = 0 then some (.wmem (bitsAt h 0 48)) else none
  | 3 =>
    if bitsAt h 48 4 = 0 ∧ bitsAt h 0 16 = 0 ∧ bitsAt h 16 16 ≠ 0 then
      some (.frame (bitsAt h 52 4) (bitsAt h 32 16) (bitsAt h 16 16))
    else none
  | 4 =>
    if bitsAt h 50 2 = 0 ∧ bitsAt h 0 16 = 0 ∧ bitsAt h 16 16 ≠ 0 then
      some (.rbc (bitsAt h 52 4) (bitsAt h 32 16) (bitsAt h 16 16) (decide (bitsAt h 49 1 = 1)) (decide (bitsAt h 48 1 = 1)))
    else none
  | 5 => if bitsAt h 48 7 = 0 then some (.poll (decide (bitsAt h 55 1 = 1)) (bitsAt h 0 48)) else none
  | 6 => if part = false ∧ bitsAt h 19 37 = 0 ∧ bitsAt h 0 2 = 0 then some (.call (bitsAt h 0 19)) else none
  | 8 => if part = false ∧ bitsAt h 32 20 = 0 then some (.sync (bitsAt h 52 4) (bitsAt h 0 32)) else none
  | 15 => if bitsAt h 49 7 = 0 then some (.fin (decide (bitsAt h 48 1 = 1)) (bitsAt h 0 48)) else none
  | _ => none

/-- The words that an instruction needs before it starts: its head and its single operands. -/
def CfgOp.words : CfgOp → Nat
  | .wmem _ => 2
  | .poll _ _ => 4
  | .call _ => 3
  | _ => 1

/-- The length of an instruction in bytes (R525); `w1` is the word after its head. -/
def CfgOp.length (o : CfgOp) (w1 : Nat) : Nat :=
  match o with
  | .wreg _ n _ => 8 + 8 * n
  | .wmem _ => 16 + (w1 + 7) / 8 * 8
  | .frame _ _ n => 8 + 256 * n
  | .rbc _ _ n _ _ => 8 + 256 * n
  | o => 8 * o.words

/-- A range touches `pkg.guard`, `pkg.sec` or `pkg.debug` (R529). -/
def protectedRange (a n : Nat) : Bool := decide (a < 0xB000700000) && decide (0xB000400000 < a + n)

/-- A range lies wholly within an area that a partial forme may address (R529). -/
def partialArea (s : State) (p : Preamble) (a n : Nat) : Bool :=
  match place s a with
  | .dieReg d =>
    let o := a % 0x100000000
    let b := o / 0x100000
    decide (o % 0x100000 + n ≤ 0x100000) &&
      ((decide (16 ≤ b) && decide (b < 32) && decide (p.cmask / 2 ^ (16 * d + (b - 16)) % 2 = 1)) ||
        (decide (32 ≤ b) && decide (b < 48) && decide (p.gmask / 2 ^ (16 * d + (b - 32)) % 2 = 1)))
  | .engData d c _ _ al => !al && placeFits s a n && decide (p.cmask / 2 ^ (16 * d + c) % 2 = 1)
  | .engInstr d c _ _ al => !al && placeFits s a n && decide (p.cmask / 2 ^ (16 * d + c) % 2 = 1)
  | .caseMem d c _ => placeFits s a n && decide (p.cmask / 2 ^ (16 * d + c) % 2 = 1)
  | _ => false

/-- The target of a write or read is legal (R529): the DETAIL of OUTSIDE, or none. -/
def areaFault (s : State) (p : Preamble) (a n : Nat) : Option Nat :=
  if protectedRange a n then some 1 else if p.partial_ && !partialArea s p a n then some 2 else none

/-- The frames of an instruction are legal (R529). -/
def frameFault (p : Preamble) (d g fa count lim : Nat) : Option Nat :=
  if lim < fa + count then some 0
  else if p.partial_ ∧ p.gmask / 2 ^ (16 * d + g) % 2 = 0 then some 2
  else none

/-- The target of an instruction (R529). -/
def targetFault (s : State) (p : Preamble) (d : Nat) (o : CfgOp) (w1 : Nat) : Option Nat :=
  match o with
  | .wreg w64 n a => areaFault s p a (n * (if w64 then 8 else 4))
  | .wmem a => areaFault s p a w1
  | .poll w64 a => areaFault s p a (if w64 then 8 else 4)
  | .frame g fa n => frameFault p d g fa n 0x7E01
  | .rbc g fa n _ shadow => frameFault p d g fa n (if shadow then 0x7E01 else 0x6000)
  | _ => none

/-- What ends the load before an instruction does anything (R525, R529, R531): code and DETAIL. (DEDUCED, unsafe: log
entry 46.) -/
def cfgFault (s : State) (p : Preamble) (d pos plen : Nat) (o : CfgOp) (w1 : Nat) : Option (Nat × Nat) :=
  let wm := match o with | .wmem _ => decide (w1 = 0) || decide (2 ^ 24 < w1) | _ => false
  if wm then some (cCFGERR, 0)
  else if plen < pos + o.length w1 then some (cSHORT, 2)
  else
    match o with
    | .fin final _ =>
      if pos + 8 ≠ plen then some (cCFGERR, 0) else if p.partial_ && final then some (cCFGERR, 8) else none
    | o =>
      if pos + o.length w1 = plen then some (cCFGERR, 0) else (targetFault s p d o w1).map (cOUTSIDE, ·)

/-! Frames (R528). -/

/-- The bits of a pin image that are fields. -/
def pinFields : W64 :=
  [F.ioPinCfg_SAFE, F.ioPinCfg_DIR, F.ioPinCfg_HYST, F.ioPinCfg_PULL, F.ioPinCfg_SLEW, F.ioPinCfg_DRIVE,
    F.ioPinCfg_STD].foldl (fun m f => m ||| f.mask) 0
def qpinFields : W64 :=
  [F.ioQpinCfg_SAFE, F.ioQpinCfg_DIR, F.ioQpinCfg_RATIO, F.ioQpinCfg_PLL, F.ioQpinCfg_BITOUT, F.ioQpinCfg_WNET,
    F.ioQpinCfg_STD].foldl (fun m f => m ||| f.mask) 0

/-- Every reserved field of each image of a pin frame is zero (R528). -/
def pinFrameOk (data : Nat) : Bool :=
  (List.range 6).all (fun k => BitVec.ofNat 64 (bytesAt data (8 * k) 4) &&& ~~~pinFields == 0) &&
    (List.range 4).all (fun k => BitVec.ofNat 64 (bytesAt data (48 + 8 * k) 4) &&& ~~~qpinFields == 0)

/-- What a frame would write to a configuration cell that lies in it. -/
def frameCell (fa data : Nat) (c : Cell) : Option Nat :=
  let bits := cellBits c
  if bits.all (fun o => decide (o / 2048 = fa)) then
    some (bits.foldr (fun o a => (data.testBit (o % 2048)).toNat + 2 * a) 0)
  else none

/-- A cell frame may be written (R245, R246, R528): a routing select names 0 or one of the inputs of its multiplexer, and a
quoin declaration is 0, 1 or 2. -/
def cellFrameOk (fa data : Nat) : Bool :=
  (List.range Config.wires).all (fun w =>
    (frameCell fa data (.select w)).elim true (fun c => decide (c ≤ (Config.wireInputs w).length))) &&
  quoinSigs.all (fun q => (frameCell fa data (.quoin q)).elim true (fun c => decide (c ≤ 2)))

/-- The check of a frame (R528). (DESIGN CHOICE, safe: log entry 29.) -/
def frameOk (fa data : Nat) : Bool :=
  if fa < 0x6000 then cellFrameOk fa data else if fa = 0x7E00 then pinFrameOk data else true

/-- Where a frame of the live or the shadow plane lies (R528). -/
def framePlace (s : State) (d g fa : Nat) (shadow : Bool) : Nat :=
  if 0x6000 ≤ fa ∧ fa < 0x7E00 then
    arrayBase s d g ((fa - 0x6000) / 16) shadow.toNat + 256 * ((fa - 0x6000) % 16)
  else frameBase d g (if shadow then 1 - liveOf s d g else liveOf s d g) + 256 * fa

/-- FRAME writes only the shadow plane (R548). -/
def writeFrame (d g fa data : Nat) (s : State) : State :=
  { s with mem := s.mem.writeN (framePlace s d g fa true) 256 data }

/-! Failures (R524, R531, R535, R541). -/

/-- `ffail` of a stream-time failure. -/
def setFfail (code detail die seg pos : Nat) (part : Bool) (s : State) : State :=
  s.setReg .guardFfail [] (F.guardFfail_POS.put (F.guardFfail_SEG.put (F.guardFfail_PARTIAL.put
    (F.guardFfail_DIE.put (F.guardFfail_DETAIL.put (F.guardFfail_CODE.put 0 code) detail) die) part.toNat) seg) pos)

/-- STREAM_FAILURE (R535, R627): the copy has its result and is tried, the four dies are reset, and the guard core chooses
again. -/
def streamFailure (code : Nat) (s : State) : State :=
  let c := s.sel.chosen.getD 0
  let s := setRes c code { s with load := LoadState.init, sel := { s.sel with tried := c :: s.sel.tried, chosen := none } }
  chooseCopy (resetDies 3 s)

/-- A stream-time failure (R535, R541). A partial load that has failed leaves the composing contexts at once; their requests
still end, and none of them changes what the first failure has recorded. -/
def formeFail (code detail die seg pos : Nat) (s : State) : State :=
  let part := s.load.pre.partial_
  let s0 := s
  let s := setFfail code detail die seg pos part s
  if part ∧ (s.load.stage = .failw ∨ s.load.stage = .reject) then s0
  else if part then
    let st : LoadStage := if s.load.stage = .writing then .failw else .reject
    { s with load := { s.load with stage := st, res := code, rest := none },
             comps := s.comps.map (fun e => (e.1, { CompState.init with outs := e.2.outs })) }
  else streamFailure code s

/-- A failure of the instruction under way on a die. -/
def compFail (d code detail : Nat) (s : State) : State :=
  formeFail code detail d (s.comp d).seg (s.comp d).pos s

/-- A response with an error STATUS ends the load (R524). -/
def compSettle (s : State) : State :=
  (List.range 4).foldl (fun t d => if (t.comp d).failed then compFail d cCFGERR 2 t else t) s

/-! User start (R538). -/

/-- The galleys of a die: each swaps and its quoins open, but for one that is locked out (R538, R558, R645). -/
def startGalley (d : Nat) (s : State) (g : Nat) : State :=
  if s.domOn d g && s.released d then
    let s := galleySwap d g s
    if galleyLocked s d g then s else quoinsOpen d g (s.setFld .galleyQuoin [d, g] F.galleyQuoin_CLOSE 0)
  else s

/-- The program context of a die starts at BOOT_PC at control level (R126, R538). -/
def startCore (d : Fin 4) (pc : W64) (s : State) : State :=
  onUnit (.core d) (fun x => (x.start pc).setSt fPRIV 1) s

/-- One die at user start. -/
def startDie (s : State) (k : Nat) : State :=
  let d : Fin 4 := ⟨k % 4, by omega⟩
  let e : W64 := BitVec.ofNat 64 ((s.comp d).final.getD 0)
  let s := (List.range 16).foldl (startGalley d) (s.setReg .ctlBoot [d] (e &&& 0xFFFFFFFFFFFC))
  startCore d (e &&& 0xFFFFFFFFFFFC) s

/-- SKIPPED for an acceptable copy that was not tried (R532, R535). -/
def skipCopies (c : Nat) (s : State) : State :=
  s.sel.good.foldl (fun t e => if e.1 = c ∨ e.1 ∈ s.sel.tried then t else setRes e.1 cSKIPPED t) s

/-- USER_START (R538, R585). -/
def userStart (s : State) : State :=
  let c := s.sel.chosen.getD 0
  let p := s.load.pre
  let s := (List.range 4).foldl startDie (setGstate 4 s)
  let s := setRes c cLOADED (skipCopies c s)
  let s := ((s.setFld .guardFsel [] F.guardFsel_FOLIO p.folio).setFld .guardFsel [] F.guardFsel_LOADED c).setHv .faultOff [] 1
  let s := { s with load := LoadState.init, comps := [],
                    sec := { s.sec with owner := p.owner, fhash := p.hash, phash := 0, pcount := 0 } }
  formeEvent (setGstate 5 s)

/-! Delivery (R522, R523). -/

/-- n bytes of the forme under way: the DETAIL of SHORT, or the bytes. -/
def formeRead (o n : Nat) (s : State) : (Nat ⊕ Nat) × State :=
  if s.load.pre.partial_ then
    let r := readRange (s.load.base + o) n s
    (match r.1 with | some x => .inr x | none => .inl 0, r.2)
  else if flashCapacity s.board < s.load.base + o + n then (.inl 1, s)
  else if flashReads s (s.load.base + o) n then (.inr (flashN s (s.load.base + o) n), s)
  else (.inl 0, s)

/-- The key and the iv of a chunk (R521). -/
def chunkIv (p : Preamble) (i j : Nat) : Nat := i + j * 2 ^ 32 + p.folio * 2 ^ 64
def chunkKey (fk : Nat) (p : Preamble) (i j : Nat) : Nat :=
  (Config.hmac384 32 fk 28 (p.salt + chunkIv p i j * 2 ^ 128)).toNat % 256 ^ 32

/-- The plaintext of chunk j of segment i (R521, R522): code and DETAIL, or the bytes. -/
def chunkPlain (s : State) (i j : Nat) (e : DirEntry) (table stored n : Nat) : (Nat × Nat) ⊕ Nat :=
  let p := s.load.pre
  let plain : Option Nat :=
    if p.enc then
      match formeKey s with
      | some fk => Config.gcmOpen (chunkKey fk p i j) (chunkIv p i j) 64 e.raw n (stored % 256 ^ n) (stored / 256 ^ n)
      | none => none
    else some stored
  match plain with
  | none => .inl (cBADSEG, 2)
  | some x => if (Config.sha384 n x).toNat = bytesAt table (48 * j) 48 then .inr x else .inl (cBADSEG, 1)

/-- The chunk table of a segment, checked before chunk 0 (R522): code and DETAIL, or the table. -/
def segTable (e : DirEntry) (s : State) : ((Nat × Nat) ⊕ Nat) × State :=
  let n := 48 * chunkCount e.plen
  let r := formeRead e.offset n s
  (match r.1 with
    | .inl dt => .inl (cSHORT, dt)
    | .inr t => if (Config.sha384 n t).toNat = e.hash then .inr t else .inl (cBADSEG, 0), r.2)

/-- Chunk j of segment i, read and checked: code and DETAIL, or the bytes. -/
def chunkBytes (i j : Nat) (e : DirEntry) (table : Nat) (s : State) : ((Nat × Nat) ⊕ Nat) × State :=
  let tag := if s.load.pre.enc then 16 else 0
  let n := min 65536 (e.plen - 65536 * j)
  let r := formeRead (e.offset + tableBytes e.plen + j * (65536 + tag)) (n + tag) s
  (match r.1 with
    | .inl dt => .inl (cSHORT, dt)
    | .inr x => chunkPlain s i j e table x n, r.2)

/-- The bytes that a forme queue holds (R523). -/
def queued (q : List QSeg) : Nat := (q.map (·.len)).sum

/-- Bytes of a segment join the queue. -/
def pushSeg (q : List QSeg) (x : QSeg) : List QSeg :=
  match q with
  | [] => [x]
  | [e] => if e.seg = x.seg then [{ e with data := e.data + x.data * 256 ^ e.len, len := e.len + x.len }] else [e, x]
  | e :: r => e :: pushSeg r x

/-- Deliver what fits of the released bytes (R523). -/
def deliverRest (d : Nat) (x : QSeg) (s : State) : State :=
  let c := s.comp d
  let k := min ((65536 - queued c.q) / 8 * 8) x.len
  if k = 0 then s
  else
    let s := s.setComp d { c with q := pushSeg c.q { x with data := x.data % 256 ^ k, len := k } }
    { s with load := { s.load with rest :=
        if k = x.len then none else some (d, { x with pos := x.pos + k, data := x.data / 256 ^ k, len := x.len - k }) } }

/-- The bytes that the instruction under way, or the next one, needs before it can go on. -/
def needs (part : Bool) (x : CompState) : Option Nat :=
  match x.doing with
  | .idle => if x.outs ≠ 0 then none else match x.q with
    | [] => some 8
    | e :: _ => if e.len < 8 then some 8 else match cfgDecode part (e.data % 2 ^ 64) with
      | some o => some (8 * o.words)
      | none => none
  | .wreg _ _ _ => some 8
  | .wmem _ _ => some 8
  | .frame _ _ _ => some 256
  | .rbc _ _ _ _ _ => some 256
  | _ => none

/-- A die waits in SYNC or for queue data (R531). -/
def dieWaits (part : Bool) (x : CompState) : Bool :=
  match x.doing with
  | .sync _ _ => true
  | _ => match needs part x with
    | none => false
    | some n => match x.q with
      | [] => true
      | e :: _ => decide (e.len < n)

/-- Every die waits while delivery waits for a full queue (R531). -/
def stalled (s : State) (d : Nat) : Bool :=
  decide (65536 - queued (s.comp d).q < 8) && (List.range 4).all (fun e => dieWaits s.load.pre.partial_ (s.comp e))

/-- The next chunk (R522, R523). -/
def nextChunk (e : DirEntry) (s : State) : State :=
  let i := s.load.seg
  let j := s.load.chunk
  let fail (c : Nat × Nat) (t : State) : State := formeFail c.1 c.2 e.die i (65536 * j) t
  let t := if j = 0 then segTable e s else (.inr s.load.table, s)
  match t.1 with
  | .inl c => fail c t.2
  | .inr table =>
    let r := chunkBytes i j e table t.2
    match r.1 with
    | .inl c => fail c r.2
    | .inr x =>
      let s := r.2
      let n := min 65536 (e.plen - 65536 * j)
      let last := decide (chunkCount e.plen ≤ j + 1)
      let s := { s with load := { s.load with
        table := table, seg := if last then i + 1 else i, chunk := if last then 0 else j + 1 } }
      if e.code then { s with mem := s.mem.writeN (sramBase e.die + e.sramOff + 65536 * j) n x }
      else if (s.comp e.die).final.isSome then fail (cCFGERR, 8) s
      else deliverRest e.die { seg := i, plen := e.plen, pos := 65536 * j, data := x, len := n }
        { s with load := { s.load with rest := some (e.die, { seg := i, plen := e.plen, pos := 65536 * j, data := x, len := n }) } }

/-- A die with an empty queue and no FINAL, once every segment is delivered (R531). -/
def unfinished (s : State) : Option Nat :=
  (List.range 4).find? fun d =>
    let x := s.comp d
    decide (x.q = []) && decide (x.doing = .idle) && decide (x.outs = 0) && x.final.isNone

/-- Delivery goes on (R523, R531). -/
def deliver (s : State) : State :=
  match s.load.rest with
  | some (d, x) => if stalled s d then formeFail cCFGERR 7 d x.seg x.pos s else deliverRest d x s
  | none =>
    match s.load.dir[s.load.seg]? with
    | some e => nextChunk e s
    | none =>
      if s.load.pre.partial_ then s
      else match unfinished s with
        | some d => compFail d cSHORT 3 s
        | none => s

/-! Partial formes (R539 to R541). -/

/-- The operands of an instruction that the verification pass checks (R525, R528): reserved bits of WREG values, and frames. -/
def operandFault (o : CfgOp) (body : Nat) : Option (Nat × Nat) :=
  match o with
  | .wreg false n _ =>
    if (List.range n).any (fun k => decide (2 ^ 32 ≤ bytesAt body (8 * k) 8)) then some (cCFGERR, 0) else none
  | .frame _ fa n =>
    if (List.range n).all (fun k => frameOk (fa + k) (bytesAt body (256 * k) 256)) then none else some (cCFGERR, 1)
  | _ => none

/-- The verification of the instructions of a segment (R540): code, DETAIL and payload offset of the first failure. -/
def verifyInstrs (s : State) (p : Preamble) (d plen : Nat) : Nat → Nat → Nat → Option (Nat × Nat × Nat)
  | 0, _, _ => none
  | fuel + 1, pos, data =>
    match cfgDecode p.partial_ (data % 2 ^ 64) with
    | none => some (cCFGERR, 0, pos)
    | some o =>
      if plen < pos + 8 * o.words then some (cSHORT, 2, pos)
      else
        let w1 := data / 2 ^ 64 % 2 ^ 64
        match cfgFault s p d pos plen o w1 with
        | some c => some (c.1, c.2, pos)
        | none =>
          match operandFault o (data / 2 ^ 64) with
          | some c => some (c.1, c.2, pos)
          | none =>
            match o with
            | .fin _ _ => none
            | o => verifyInstrs s p d plen fuel (pos + o.length w1) (data / 256 ^ o.length w1)

/-- The chunks of a segment, checked one by one: the failure with its payload offset, or the payload. -/
def verifyChunks (i : Nat) (e : DirEntry) (table : Nat) : Nat → Nat → State → ((Nat × Nat × Nat) ⊕ Nat) × State
  | 0, _, s => (.inr 0, s)
  | n + 1, j, s =>
    let r := chunkBytes i j e table s
    match r.1 with
    | .inl c => (.inl (c.1, c.2, 65536 * j), r.2)
    | .inr x =>
      let q := verifyChunks i e table n (j + 1) r.2
      (match q.1 with | .inl c => .inl c | .inr y => .inr (x + y * 256 ^ 65536), q.2)

/-- The verification of a segment. -/
def verifySeg (i : Nat) (e : DirEntry) (s : State) : Option (Nat × Nat × Nat) × State :=
  let t := segTable e s
  match t.1 with
  | .inl c => (some (c.1, c.2, 0), t.2)
  | .inr table =>
    let r := verifyChunks i e table (chunkCount e.plen) 0 t.2
    (match r.1 with
      | .inl c => some c
      | .inr x => verifyInstrs r.2 r.2.load.pre e.die e.plen (e.plen / 8 + 1) 0 x, r.2)

/-- The fill of the block RAMs of the galleys of GMASK, in the shadow arrays, before the writing pass (R264, R383).
(DEDUCED, unsafe: log entry 78.) -/
def fillShadow (s : State) : State :=
  let gs := (List.range 64).filter fun x => decide (s.load.pre.gmask / 2 ^ x % 2 = 1)
  let s := gs.foldl (fun t x => applyRepairs (x / 16) (fun m => decide (macroDom m = x % 16)) t) s
  { s with mem := gs.foldl (fun m x => (List.range 480).foldl (fun m b =>
      m.fill (arrayBase s (x / 16) (x % 16) b 1) 4096) m) s.mem }

/-- The verification pass (R540): segments in directory order, up to the first failure. -/
def verifyAll : List DirEntry → Nat → State → State
  | [], _, s => fillShadow { s with load := { s.load with stage := .writing } }
  | e :: r, i, s =>
    let v := verifySeg i e s
    match v.1 with
    | some c => formeFail c.1 c.2.1 e.die i c.2.2 v.2
    | none => verifyAll r (i + 1) v.2

/-- A partial load has its turn (R540): the header checks and the verification pass. -/
def beginPartial (s : State) : State :=
  let a := s.load.base
  let s := s.setFld .guardPstat [] F.guardPstat_MISMATCH 0
  let rd : Reader := fun o n => (readRange (a + o) n s).1
  match headerCheck s rd true false with
  | .inl code =>
    { (readRange a 64 s).2 with
      load := { LoadState.init with base := a, stage := .reject, res := code, pre := { Preamble.init with partial_ := true } } }
  | .inr (p, dir) =>
    let s := (readRange (a + p.length - 256) 256 (readRange a (64 + 64 * p.nseg) s).2).2
    verifyAll dir 0 { s with load := { LoadState.init with base := a, pre := p, dir := dir }, comps := [] }

/-- A write of `pload` (R539): the address is taken at the GO. (DEDUCED, unsafe: log entry 46.) -/
def ploadWrite (v : W64) (s : State) : Nat × State :=
  if F.guardPload_GO.get v = 0 then (OK, plainWrite .guardPload [] v s)
  else if gstate s ≠ 5 ∨ s.bit .guardPload [] F.guardPload_BUSY = true then (OK, pstatFlag F.guardPstat_REFUSED s)
  else
    let s := (plainWrite .guardPload [] v s).setFld .guardPload [] F.guardPload_GO 0
    let s := s.setFld .guardPload [] F.guardPload_BUSY 1
    (OK, { s with jobs := s.jobs ++ [.pload],
                  load := { LoadState.init with base := F.guardPload_ADDR.get v * 64 } })

/-- PLOAD (R539). -/
def execPload (who : Who) (v : W64) (s : State) : Host.Outcome State Fault Refusal :=
  .next (regCommand who .guardPload [] (ploadWrite (withBit F.guardPload_GO v)) s)

/-- The composing contexts have nothing left to do. -/
def compsIdle (s : State) : Bool :=
  (List.range 4).all (fun d => let x := s.comp d; decide (x.q = []) && decide (x.doing = .idle) && decide (x.outs = 0))

/-- A partial load ends with a flag of `pstat` and RES (R541). -/
def ploadDone (f : Fld) (res : Nat) (rest : List GuardJob) (s : State) : State :=
  let s := (s.setFld .guardPstat [] F.guardPstat_RES res).setFld .guardPload [] F.guardPload_BUSY 0
  pstatFlag f { s with jobs := rest, load := LoadState.init, comps := [] }

/-- PLOAD_END (R541, R585). -/
def ploadEnd (s : State) : State :=
  match s.jobs with
  | .pload :: r =>
    match s.load.stage with
    | .reject => ploadDone F.guardPstat_REJECT s.load.res r s
    | .failw => if compsIdle s then ploadDone F.guardPstat_FAILW s.load.res r s else s
    | .writing =>
      if s.load.rest.isNone && decide (s.load.dir.length ≤ s.load.seg) && compsIdle s then
        let h := Config.sha384 96 (s.sec.phash + s.load.pre.hash * 256 ^ 48)
        ploadDone F.guardPstat_DONE cLOADED r
          { s with sec := { s.sec with phash := h.toNat, pcount := (s.sec.pcount + 1) % 2 ^ 32 } }
      else s
    | _ => s
  | _ => s

def execPloadEnd (s : State) : Host.Outcome State Fault Refusal := .next (ploadEnd s)

/-! Stream (R535). -/

/-- Initial training has ended on every port (R365, R625). -/
def linksTrained (s : State) : Bool :=
  (List.range 4).all (fun d => (List.range 12).all (fun p => !(inTraining s d p && (s.link d p).initial)))

/-- Choose to Stream (R535, R616, R625): the dies are released into composing mode. (DEDUCED, unsafe: log entry 47.) -/
def beginStream (c : Nat) (s : State) : State :=
  match copyHeader s c with
  | .inl _ => s
  | .inr (p, dir) =>
    let s := (List.range 4).foldl (fun (t : State) d =>
      if t.fld .powerDie [d] F.powerDie_DSTATE = 1 ∧ t.hv .dieWait [d] = 0 then t.setFld .powerDie [d] F.powerDie_DSTATE 2
      else t) s
    setGstate 3 { s.setFld .guardPstat [] F.guardPstat_MISMATCH 0 with
      load := { LoadState.init with stage := .full, base := copyBase c, pre := p, dir := dir }, comps := [] }

/-- CHUNK_RELEASE (R522, R523, R535, R540). -/
def chunkRelease (s : State) : State :=
  if s.hv .guardUp [] = 0 then s
  else
    match s.load.stage, s.sel.chosen, s.jobs with
    | .full, _, _ => deliver s
    | .writing, _, _ => deliver s
    | .idle, _, .pload :: _ => beginPartial s
    | .idle, some c, _ =>
      if gstate s = 2 ∧ linksMayRun s = true ∧ linksTrained s = true then deliver (beginStream c s) else s
    | _, _, _ => s

def execChunkRelease (s : State) : Host.Outcome State Fault Refusal := .next (chunkRelease s)

/-- A write of `fop` (R543, R544): what the operation is to do is taken at the GO. -/
def fopWrite (who : Who) (v : W64) (s : State) : Nat × State :=
  let s0 := s
  let s := plainWrite .guardFop [] (v &&& ~~~0x80000010#64) s
  let op := F.guardFop_OP.get v
  let n := s.fld .guardFarg [] F.guardFarg_LEN * 64
  let a := s.fld .guardFarg [] F.guardFarg_FADDR / 64 * 64
  let gs := gstate s
  let c := s.fld .guardFsel [] F.guardFsel_LOADED
  let overlap (k : Nat) : Bool := decide (a < copyBase (k + 1)) && decide (copyBase k < a + n)
  let deny := s.bit .guardFop [] F.guardFop_BUSY || !(decide (gs = 5) || decide (gs = 6)) || decide (op = 3) ||
    decide (n = 0) || decide (flashCapacity s.board < a + n) ||
    (decide (op = 2) && !(decide (a % 65536 = 0) && decide (n % 65536 = 0))) ||
    (decide (c < 3) && overlap c) || (overlap 2 && decide (who ≠ .debug))
  let s :=
    if F.guardFop_GO.get v = 0 then s
    else if deny then fopFlag F.guardFop_DENY s
    else
      let s := ((s.setHv .fopArg [0] op).setHv .fopArg [1] a).setHv .fopArg [2] n
      let s := (s.setHv .fopArg [3] (s.fld .guardFbuf [] F.guardFbuf_BUF * 64)).setHv .fopRan [] 0
      { s.setFld .guardFop [] F.guardFop_BUSY 1 with jobs := s.jobs ++ [.fop] }
  (OK, if F.guardFop_RESELECT.get v = 1 ∧ gstate s0 = 6 then probeFormes s else s)

/-- RESELECT (R535). -/
def execReselect (who : Who) (v : W64) (s : State) : Host.Outcome State Fault Refusal :=
  .next (regCommand who .guardFop [] (fopWrite who (withBit F.guardFop_RESELECT v)) s)

/-- DARK_HOLD_RETRY (R535). -/
def execDarkHoldRetry (s : State) : Host.Outcome State Fault Refusal :=
  .next (if s.hv .guardUp [] = 1 ∧ gstate s = 6 ∧ s.fld .guardFsel [] F.guardFsel_POLICY / 2 = 1 then probeFormes s else s)

/-- A flash operation of kind `op` has its turn (R543). -/
def fopTurn (op : Nat) (s : State) : Bool :=
  decide (s.jobs.head? = some .fop) && decide (s.hv .fopArg [0] = op) && decide (s.hv .fopRan [] = 0)

/-- A device reports a failure: what the range then holds is open. -/
def smearFlash (l : Nat) : Nat → State → State
  | 0, s => s
  | n + 1, s => smearFlash (l + 1) n (setFlash s l (Config.flashOver s.freeCtr l))

/-- FOP_READ (R543): flash to memory. -/
def fopRead (fail : Bool) (s : State) : State :=
  if !fopTurn 0 s then s
  else if fail || !flashReads s (s.hv .fopArg [1]) (s.hv .fopArg [2]) then s.setHv .fopRan [] 2
  else
    let n := s.hv .fopArg [2]
    let r := writeRange (s.hv .fopArg [3]) n (flashN s (s.hv .fopArg [1]) n) s
    r.2.setHv .fopRan [] (if r.1 then 1 else 2)

def execFopRead (fail : Bool) (s : State) : Host.Outcome State Fault Refusal := .next (fopRead fail s)

/-- FOP_PROGRAM (R543): memory to flash, without an erase. -/
def fopProgram (fail : Bool) (s : State) : State :=
  if !fopTurn 1 s then s
  else
    let a := s.hv .fopArg [1]
    let n := s.hv .fopArg [2]
    let r := readRange (s.hv .fopArg [3]) n s
    match r.1 with
    | none => r.2.setHv .fopRan [] 2
    | some x =>
      if fail then ((smearFlash a n r.2).setHv .fopRan [] 2).draw else ((programFlash r.2 a n x).setHv .fopRan [] 1).draw

def execFopProgram (fail : Bool) (s : State) : Host.Outcome State Fault Refusal := .next (fopProgram fail s)

/-- FOP_ERASE (R543). -/
def fopErase (fail : Bool) (s : State) : State :=
  if !fopTurn 2 s then s
  else
    let a := s.hv .fopArg [1]
    let n := s.hv .fopArg [2]
    if fail then ((smearFlash a n s).setHv .fopRan [] 2).draw else (eraseFlash s a n).setHv .fopRan [] 1

def execFopErase (fail : Bool) (s : State) : Host.Outcome State Fault Refusal := .next (fopErase fail s)

/-- FOP_DONE (R543). -/
def fopDone (s : State) : State :=
  match s.jobs with
  | .fop :: r =>
    let ran := s.hv .fopRan []
    if ran = 0 then s
    else
      let s := { (s.setHv .fopRan [] 0).setFld .guardFop [] F.guardFop_BUSY 0 with jobs := r }
      fopFlag F.guardFop_DONE (if ran = 2 then s.setFld .guardFop [] F.guardFop_ERR 1 else s)
  | _ => s

def execFopDone (s : State) : Host.Outcome State Fault Refusal := .next (fopDone s)

end Sys2Proof.Machine
end

