-- ==== Sys2Proof/Machine/Compose.lean ====
section
/-! DEFINITION. The composing contexts: the configuration instructions of a forme (R524 to R531). -/

namespace Sys2Proof.Machine
open Sys2Proof

/-- The composing context of a die runs: a load delivers, the die is Released and its control domain runs. -/
def compRuns (s : State) (d : Nat) : Bool :=
  (decide (s.load.stage = .full) || decide (s.load.stage = .writing)) && s.runs d 32

/-- Take n bytes from the segment at the head of a forme queue. -/
def takeBytes (d n : Nat) (s : State) : Option (Nat × State) :=
  let x := s.comp d
  match x.q with
  | [] => none
  | e :: r =>
    if e.len < n then none
    else
      let e' : QSeg := { e with pos := e.pos + n, data := e.data / 256 ^ n, len := e.len - n }
      some (e.data % 256 ^ n, s.setComp d { x with q := if e.len = n then r else e' :: r })

def setDoing (d : Nat) (w : Doing) (s : State) : State := s.setComp d { s.comp d with doing := w }

/-- A request of a composing context: priority 1 and O = 1 (R524). -/
def compSend (d : Fin 4) (op : ReqOp) (a n data : Nat) (s : State) : State :=
  let x := s.comp d
  openAccess .comp { mkReq s (.core d) op a n data with pri := 1, ord := true }
    (s.setComp d { x with outs := x.outs + 1, got := none })

/-- The instruction at the head of the queue starts (R524, R525, R529, R531), when it is one of OP `want`: the head and the
single operands leave the queue, and what ends the load ends it before anything is written. The words beside the
instruction are its operand words. -/
def startInstr (want : Nat) (d : Fin 4) (s : State) : Option (CfgOp × Nat) × State :=
  let x := s.comp d
  if x.doing ≠ .idle ∨ x.outs ≠ 0 ∨ compRuns s d = false then (none, s)
  else
    match x.q with
    | [] => (none, s)
    | e :: _ =>
      let t := s.setComp d { x with seg := e.seg, pos := e.pos }
      if e.len < 8 then (none, s)
      else if x.final.isSome then (none, compFail d cCFGERR 8 t)
      else
        match cfgDecode s.load.pre.partial_ (e.data % 2 ^ 64) with
        | none => (none, compFail d cCFGERR 0 t)
        | some o =>
          if o.code ≠ want then (none, s)
          else if e.plen < e.pos + 8 * o.words then (none, compFail d cSHORT 2 t)
          else if e.len < 8 * o.words then (none, s)
          else
            match cfgFault s s.load.pre d e.pos e.plen o (e.data / 2 ^ 64 % 2 ^ 64) with
            | some c => (none, compFail d c.1 c.2 t)
            | none =>
              match takeBytes d (8 * o.words) t with
              | some (w, t) => (some (o, w / 2 ^ 64), t)
              | none => (none, s)

/-! WREG (R526). -/

/-- The values that have arrived, one request each. -/
def wregLoop (d : Fin 4) : Nat → State → State
  | 0, s => s
  | k + 1, s =>
    match (s.comp d).doing with
    | .wreg w64 a (left + 1) =>
      match takeBytes d 8 s with
      | none => s
      | some (v, t) =>
        let n := if w64 then 8 else 4
        if !w64 && decide (2 ^ 32 ≤ v) then compFail d cCFGERR 0 t
        else wregLoop d k (setDoing d (if left = 0 then .idle else .wreg w64 (a + n) left) (compSend d .wr a n v t))
    | _ => s

def wregStart (d : Fin 4) (s : State) : State :=
  match startInstr 1 d s with
  | (some (.wreg w64 n a, _), t) => setDoing d (.wreg w64 a n) t
  | (_, t) => t

/-- WREG (R526). -/
def execWreg (d : Fin 4) (s : State) : Host.Outcome State Fault Refusal :=
  .next (if compRuns s d then wregLoop d 128 (wregStart d s) else s)

/-! WMEM (R526). -/

def wmemStart (d : Fin 4) (s : State) : State :=
  match startInstr 2 d s with
  | (some (.wmem a, w), t) => setDoing d (.wmem a w) t
  | (_, t) => t

/-- The bytes that have arrived, in requests that R309 allows. -/
def wmemMore (d : Fin 4) (s : State) : State :=
  match (s.comp d).doing, (s.comp d).q with
  | .wmem a left, e :: _ =>
    let k := min left e.len
    match takeBytes d ((k + 7) / 8 * 8) s with
    | none => s
    | some (v, t) =>
      setDoing d (if left - k = 0 then .idle else .wmem (a + k) (left - k)) (compSend d .wr a k (v % 256 ^ k) t)
  | _, _ => s

/-- WMEM (R526). -/
def execWmem (d : Fin 4) (s : State) : Host.Outcome State Fault Refusal :=
  .next (if compRuns s d then wmemMore d (wmemStart d s) else s)

/-! FRAME and RBC (R526, R528). -/

/-- The frames that have arrived; a FRAME waits while its galley is being cloned (R549). -/
def frameLoop (d : Fin 4) : Nat → State → State
  | 0, s => s
  | k + 1, s =>
    match (s.comp d).doing with
    | .frame g fa (left + 1) =>
      if cloning s d g then s
      else
        match takeBytes d 256 s with
        | none => s
        | some (v, t) =>
          if !t.domOn d g then compFail d cCFGERR 2 t
          else if !frameOk fa v then compFail d cCFGERR 1 t
          else frameLoop d k (setDoing d (if left = 0 then .idle else .frame g (fa + 1) left) (writeFrame d g fa v t))
    | _ => s

def frameStart (d : Fin 4) (s : State) : State :=
  match startInstr 3 d s with
  | (some (.frame g fa n, _), t) => setDoing d (.frame g fa n) t
  | (_, t) => t

/-- FRAME (R526, R528). -/
def execFrameInstr (d : Fin 4) (s : State) : Host.Outcome State Fault Refusal :=
  .next (if compRuns s d then frameLoop d 256 (frameStart d s) else s)

/-- The frames that have arrived are compared; a frame that differs is counted in MISMATCH. -/
def rbcLoop (d : Fin 4) : Nat → State → State
  | 0, s => s
  | k + 1, s =>
    match (s.comp d).doing with
    | .rbc g fa (left + 1) strict shadow =>
      match takeBytes d 256 s with
      | none => s
      | some (v, t) =>
        if !t.domOn d g then compFail d cCFGERR 2 t
        else if t.mem.readN (framePlace t d g fa shadow) 256 = v then
          rbcLoop d k (setDoing d (if left = 0 then .idle else .rbc g (fa + 1) left strict shadow) t)
        else
          let t := t.bumpFld .guardPstat [] F.guardPstat_MISMATCH 1
          if strict then compFail d cCFGERR 5 t
          else rbcLoop d k (setDoing d (if left = 0 then .idle else .rbc g (fa + 1) left strict shadow) t)
    | _ => s

def rbcStart (d : Fin 4) (s : State) : State :=
  match startInstr 4 d s with
  | (some (.rbc g fa n strict shadow, _), t) => setDoing d (.rbc g fa n strict shadow) t
  | (_, t) => t

/-- RBC (R526). -/
def execRbc (d : Fin 4) (s : State) : Host.Outcome State Fault Refusal :=
  .next (if compRuns s d then rbcLoop d 256 (rbcStart d s) else s)

/-! POLL (R526). -/

/-- The value polled last, when it has arrived. -/
def polled (x : CompState) : Option W64 := if x.outs = 0 then x.got else none

/-- The poll goes on: a value that matches ends it, any other is read again. -/
def pollMore (d : Fin 4) (s : State) : State :=
  let x := s.comp d
  match x.doing with
  | .poll w64 a mask value asked =>
    let ask (t : State) : State :=
      compSend d .rd a (if w64 then 8 else 4) 0 (setDoing d (.poll w64 a mask value true) t)
    if !asked then ask s
    else match polled x with
      | none => s
      | some v => if v &&& mask = value then setDoing d .idle s else ask s
  | _ => s

def pollStart (d : Fin 4) (s : State) : State :=
  match startInstr 5 d s with
  | (some (.poll w64 a, w), t) =>
    setDoing d (.poll w64 a (BitVec.ofNat 64 w) (BitVec.ofNat 64 (w / 2 ^ 64)) false) t
  | (_, t) => t

/-- POLL (R526). -/
def execPoll (d : Fin 4) (s : State) : Host.Outcome State Fault Refusal :=
  .next (if compRuns s d then pollMore d (pollStart d s) else s)

/-- POLL_LIMIT (R526): a value that has matched ends the poll all the same. -/
def pollLimit (d : Fin 4) (s : State) : State :=
  match (s.comp d).doing, polled (s.comp d) with
  | .poll _ _ mask value true, some v => if v &&& mask = value then setDoing d .idle s else compFail d cCFGERR 3 s
  | _, _ => s

def execPollLimit (d : Fin 4) (s : State) : Host.Outcome State Fault Refusal :=
  .next (if compRuns s d then pollLimit d s else s)

/-! CALL (R526, R527). -/

def callStart (d : Fin 4) (s : State) : State :=
  match startInstr 6 d s with
  | (some (.call off, w), t) =>
    let t := onUnit (.core d) (·.setG 10 (BitVec.ofNat 64 w)) t
    startCore d (BitVec.ofNat 64 (sramBase d + off)) (setDoing d .call t)
  | (_, t) => t

/-- The call is over when its routine has executed HALT, or its core is Fault-stopped. -/
def callMore (d : Fin 4) (s : State) : State :=
  if (s.comp d).doing ≠ .call then s
  else
    let x := s.unit (.core d)
    match x.st with
    | .stopped => if x.getG 10 = 0 then setDoing d .idle s else compFail d cCFGERR 4 s
    | .faultStopped => compFail d cCFGERR 4 s
    | _ => s

/-- CALL (R526). -/
def execCallProg (d : Fin 4) (s : State) : Host.Outcome State Fault Refusal :=
  .next (if compRuns s d then callMore d (callStart d s) else s)

/-- CALL_LIMIT (R526). -/
def callLimit (d : Fin 4) (s : State) : State :=
  let s := callMore d s
  if (s.comp d).doing = .call then compFail d cCFGERR 4 s else s

def execCallLimit (d : Fin 4) (s : State) : Host.Outcome State Fault Refusal :=
  .next (if compRuns s d then callLimit d s else s)

/-! SYNC and END (R526, R531). -/

def inMask (m d : Nat) : Bool := decide (m / 2 ^ d % 2 = 1)

/-- How often a die has executed a SYNC of this M and TAG. -/
def synced (s : State) (d m tag : Nat) : Nat := (s.comp d).syncs.count (m, tag)

/-- A SYNC of die d meets a die that has ended its share, or a SYNC with another TAG or M, at a die that has yet to execute it
or that waits for die d (R531). -/
def syncBad (s : State) (d m tag : Nat) : Bool :=
  (List.range 4).any fun e =>
    (inMask m e && (s.comp e).final.isSome) ||
    match (s.comp e).doing with
    | .sync m' tag' => decide (e ≠ d) && (inMask m e && decide (synced s e m tag ≤ synced s d m tag) || inMask m' d) && !(decide (m' = m) && decide (tag' = tag))
    | _ => false

/-- A die leaves a SYNC, its n-th of this M and TAG, when every die of M has executed n of them (R526). (DEDUCED, safe: log
entry 94.) -/
def syncSettle (m tag : Nat) (s : State) : State :=
  (List.range 4).foldl (fun t e =>
    if (s.comp e).doing = .sync m tag ∧ (List.range 4).all (fun f => !inMask m f || decide (synced s e m tag ≤ synced s f m tag)) then
      setDoing e .idle t
    else t) s

def syncStart (d : Fin 4) (s : State) : State :=
  match startInstr 8 d s with
  | (some (.sync m tag, _), t) =>
    if syncBad t d m tag then compFail d cCFGERR 6 t
    else
      let x := t.comp d
      syncSettle m tag (setDoing d (.sync m tag) (t.setComp d { x with syncs := (m, tag) :: x.syncs }))
  | (_, t) => t

/-- SYNC (R526). -/
def execSync (d : Fin 4) (s : State) : Host.Outcome State Fault Refusal := .next (syncStart d s)

/-- A die that waits at a SYNC that names die d (R531). -/
def awaited (s : State) (d : Nat) : Bool :=
  (List.range 4).any fun e => match (s.comp e).doing with | .sync m _ => inMask m d | _ => false

/-- END (R526, R531, R538): with the last FINAL comes user start. -/
def compEnd (d : Fin 4) (s : State) : State :=
  match startInstr 15 d s with
  | (some (.fin true entry, _), t) =>
    let t := t.setComp d { t.comp d with final := some entry }
    if awaited t d then compFail d cCFGERR 6 t
    else if (List.range 4).all (fun e => (t.comp e).final.isSome) then userStart t
    else t
  | (_, t) => t

def execEndSeg (d : Fin 4) (s : State) : Host.Outcome State Fault Refusal := .next (compEnd d s)

end Sys2Proof.Machine
end

