-- ==== Sys2Proof/Machine/Events.lean ====
section
/-! DEFINITION. The event router (R673 to R685). -/

namespace Sys2Proof.Machine
open Sys2Proof

/-- An event that is cleared, or whose route changes, has no longer reached a processor. (DEDUCED, unsafe: log entry
57.) -/
def undeliver (n : Nat) (s : State) : State :=
  { s with units := s.units.map fun (e : UnitId × UnitState) =>
      (e.1, { e.2 with delivered := e.2.delivered.filter (fun m => decide (m ≠ n)) }) }

/-- A write of `raise` (R678). -/
def raiseWrite (d : Nat) (v : W64) (s : State) : Nat × State :=
  let n := F.eventRaise_NUM.get v
  let s := s.setFld .eventRaise [d] F.eventRaise_NUM n
  (OK, if F.eventRaise_GO.get v = 1 ∧ 256 ≤ n ∧ n ≤ 447 then s.raiseEvent d n else s)

/-- Clear one pending bit and its TAKEN mark (R681). -/
def clearPending (d n : Nat) (s : State) : State :=
  let w := s.reg .eventPend [d, n / 32]
  let s := s.setReg .eventPend [d, n / 32] (w &&& ~~~BitVec.ofNat 64 (2 ^ (n % 32)))
  undeliver (512 * d + n) (s.setFld .eventRoute [d, n] F.eventRoute_TAKEN 0)

/-- A write of `pend[w]` (R675, R681). -/
def pendWrite (d w : Nat) (v : W64) (s : State) : Nat × State :=
  (OK, (List.range 32).foldl (fun t i => if v.getLsbD i then clearPending d (32 * w + i) t else t) s)

/-- A write of `route[n]`: an event that waits at a processor counts again from here (R681, R683). -/
def routeWrite (d n : Nat) (v : W64) (s : State) : Nat × State :=
  (OK, undeliver (512 * d + n) (plainWrite .eventRoute [d, n] v s))

/-- RAISE: GO of `raise` (R678). -/
def execRaiseEvent (who : Who) (d : Fin 4) (v : W64) (s : State) : Host.Outcome State Fault Refusal :=
  .next (regCommand who .eventRaise [d] (raiseWrite d (withBit F.eventRaise_GO v)) s)

/-- PEND_CLEAR: `pend[w]` written (R681). -/
def execPendClear (who : Who) (d : Fin 4) (w : Fin 16) (v : W64) (s : State) : Host.Outcome State Fault Refusal :=
  .next (regCommand who .eventPend [d, w] (pendWrite d w v) s)

/-- FABRIC_EVENT: a rising edge of event net k that has been held for two `ctl` cycles arrives (R608, R679); nothing while the
galley does not run or its quoins are closed. -/
def execFabricEvent (d : Fin 4) (g : Fin 16) (k : Fin 4) (s : State) : Host.Outcome State Fault Refusal :=
  .next (if galleyRuns s d g && !galleyClosed s d g && decide (s.hv .eventOwed [d, g, k] = 1) then
      (s.setHv .eventOwed [d, g, k] 0).raiseEvent d (192 + 4 * g.val + k.val) else s)

/-- The core or engine that the route of an event names (R680). -/
def routeTarget (s : State) (d n : Nat) : Option UnitId :=
  let t := s.fld .eventRoute [d, n] F.eventRoute_TARGET
  match s.fld .eventRoute [d, n] F.eventRoute_KIND with
  | 1 => if h : t < 4 then some (.core ⟨t, h⟩) else none
  | 2 => some (s.engAt ⟨t / 128 % 4, by omega⟩ ⟨t / 8 % 16, by omega⟩ (t % 8))
  | _ => none

def unitDie : UnitId → Nat
  | .eng d _ _ => d
  | .core d => d
  | .guard => 0

/-- Nothing holds the event back (R684). -/
def reachable (s : State) (d : Nat) (u : UnitId) : Bool :=
  let st := (s.unit u).st
  decide (st ≠ .halted) && decide (st ≠ .migrating) && s.live u &&
    (match u with | .eng e c _ => !s.caseClosed e c | _ => true) &&
    (decide (unitDie u = d) || activePort s d (unitDie u))

/-- EVENT_DELIVERY: a pending, untaken, routed event reaches its target (R681, R684), which takes it when it next issues
(R119, R123). -/
def eventDelivery (d n : Nat) (s : State) : State :=
  match routeTarget s d n with
  | none => s
  | some u =>
    let e := 512 * d + n
    if deliverable s e u && reachable s d u && decide (e ∉ (s.unit u).delivered) then
      s.setUnit u { s.unit u with delivered := (s.unit u).delivered ++ [e] }
    else s

def execEventDelivery (d : Fin 4) (n : Fin 512) (s : State) : Host.Outcome State Fault Refusal :=
  .next (eventDelivery d n s)

end Sys2Proof.Machine
end

