-- ==== Sys2Proof/Machine/Scalar.lean ====
section
/-! DEFINITION. The scalar-slot instructions (R95 to R120): what each does, from the state before its pair. -/

namespace Sys2Proof.Machine
open Sys2Proof

/-- The number 1 or 0 of a comparison (R86). -/
def flag64 (b : Bool) : W64 := if b then 1 else 0

/-- A two-operand instruction of format R. -/
def outRR (k : Ctx) (r : FmtR) (v : W64) : SlotOut := outG k r.rd [r.ra, r.rb] v

/-- A one-operand instruction of format R. -/
def outR1 (k : Ctx) (r : FmtR) (v : W64) : SlotOut := outG k r.rd [r.ra] v

def slotAdd (k : Ctx) (r : FmtR) : SlotOut := outRR k r (k.g r.ra + k.g r.rb)
def slotSub (k : Ctx) (r : FmtR) : SlotOut := outRR k r (k.g r.ra - k.g r.rb)
def slotAnd (k : Ctx) (r : FmtR) : SlotOut := outRR k r (k.g r.ra &&& k.g r.rb)
def slotOr (k : Ctx) (r : FmtR) : SlotOut := outRR k r (k.g r.ra ||| k.g r.rb)
def slotXor (k : Ctx) (r : FmtR) : SlotOut := outRR k r (k.g r.ra ^^^ k.g r.rb)
def slotAndn (k : Ctx) (r : FmtR) : SlotOut := outRR k r (k.g r.ra &&& ~~~(k.g r.rb))

/-- Bits [5:0] of a shift amount (R95). -/
def amount (v : W64) : Nat := v.toNat % 64

def slotShl (k : Ctx) (r : FmtR) : SlotOut := outRR k r (k.g r.ra <<< amount (k.g r.rb))
def slotShr (k : Ctx) (r : FmtR) : SlotOut := outRR k r (k.g r.ra >>> amount (k.g r.rb))
def slotSra (k : Ctx) (r : FmtR) : SlotOut := outRR k r ((k.g r.ra).sshiftRight (amount (k.g r.rb)))
def slotRor (k : Ctx) (r : FmtR) : SlotOut := outRR k r ((k.g r.ra).rotateRight (amount (k.g r.rb)))
def slotSlt (k : Ctx) (r : FmtR) : SlotOut := outRR k r (flag64 ((k.g r.ra).slt (k.g r.rb)))
def slotSltu (k : Ctx) (r : FmtR) : SlotOut := outRR k r (flag64 ((k.g r.ra).ult (k.g r.rb)))
def slotMin (k : Ctx) (r : FmtR) : SlotOut :=
  outRR k r (if (k.g r.rb).slt (k.g r.ra) then k.g r.rb else k.g r.ra)
def slotMax (k : Ctx) (r : FmtR) : SlotOut :=
  outRR k r (if (k.g r.ra).slt (k.g r.rb) then k.g r.rb else k.g r.ra)
def slotMinu (k : Ctx) (r : FmtR) : SlotOut :=
  outRR k r (if (k.g r.rb).ult (k.g r.ra) then k.g r.rb else k.g r.ra)
def slotMaxu (k : Ctx) (r : FmtR) : SlotOut :=
  outRR k r (if (k.g r.ra).ult (k.g r.rb) then k.g r.rb else k.g r.ra)

/-- Leading zeros of the low n bits, from bit n − 1 down. -/
def clzGo (v : W64) : Nat → Nat
  | 0 => 0
  | n + 1 => if v.getLsbD n then 0 else 1 + clzGo v n

/-- Trailing zeros from bit 64 − n up. -/
def ctzGo (v : W64) : Nat → Nat
  | 0 => 0
  | n + 1 => if v.getLsbD (63 - n) then 0 else 1 + ctzGo v n

/-- One bits among the low n bits. -/
def popGo (v : W64) : Nat → Nat
  | 0 => 0
  | n + 1 => (if v.getLsbD n then 1 else 0) + popGo v n

def slotClz (k : Ctx) (r : FmtR) : SlotOut := outR1 k r (BitVec.ofNat 64 (clzGo (k.g r.ra) 64))
def slotCtz (k : Ctx) (r : FmtR) : SlotOut := outR1 k r (BitVec.ofNat 64 (ctzGo (k.g r.ra) 64))
def slotPop (k : Ctx) (r : FmtR) : SlotOut := outR1 k r (BitVec.ofNat 64 (popGo (k.g r.ra) 64))

/-- EXT: rc is a code; codes 4 to 31 are illegal (R95). -/
def slotExt (k : Ctx) (r : FmtR) : SlotOut :=
  let a := k.g r.ra
  match r.rc.toNat with
  | 0 => outR1 k r ((a.setWidth 8).signExtend 64)
  | 1 => outR1 k r ((a.setWidth 16).signExtend 64)
  | 2 => outR1 k r ((a.setWidth 32).signExtend 64)
  | 3 => outR1 k r ((a.setWidth 32).setWidth 64)
  | _ => illegalOut k

def slotSel (k : Ctx) (r : FmtR) : SlotOut :=
  outG k r.rd [r.ra, r.rb, r.rc] (if k.g r.rc ≠ 0 then k.g r.ra else k.g r.rb)
def slotMul (k : Ctx) (r : FmtR) : SlotOut := outRR k r (k.g r.ra * k.g r.rb)
def slotMulhs (k : Ctx) (r : FmtR) : SlotOut :=
  outRR k r (BitVec.ofInt 64 ((k.g r.ra).toInt * (k.g r.rb).toInt / 2 ^ 64))
def slotMulhu (k : Ctx) (r : FmtR) : SlotOut :=
  outRR k r (BitVec.ofNat 64 ((k.g r.ra).toNat * (k.g r.rb).toNat / 2 ^ 64))

/-- An instruction of Rolran-C alone (R84). -/
def onCore (k : Ctx) (o : SlotOut) : SlotOut := if isEng k.u then illegalOut k else o

/-- An instruction of Rolran-S alone (R84). -/
def onEng (k : Ctx) (o : SlotOut) : SlotOut := if isEng k.u then o else illegalOut k

/-- DIVS (R95, R96). -/
def divs (a b : W64) : W64 := if b = 0 then BitVec.allOnes 64 else BitVec.ofInt 64 (a.toInt.tdiv b.toInt)
/-- DIVU (R96). -/
def divu (a b : W64) : W64 := if b = 0 then BitVec.allOnes 64 else a / b
/-- REMS (R96): the remainder of −2^63 by −1 is 0. -/
def rems (a b : W64) : W64 := if b = 0 then a else BitVec.ofInt 64 (a.toInt.tmod b.toInt)
/-- REMU (R96). -/
def remu (a b : W64) : W64 := if b = 0 then a else a % b

def slotDivs (k : Ctx) (r : FmtR) : SlotOut := onCore k (outRR k r (divs (k.g r.ra) (k.g r.rb)))
def slotDivu (k : Ctx) (r : FmtR) : SlotOut := onCore k (outRR k r (divu (k.g r.ra) (k.g r.rb)))
def slotRems (k : Ctx) (r : FmtR) : SlotOut := onCore k (outRR k r (rems (k.g r.ra) (k.g r.rb)))
def slotRemu (k : Ctx) (r : FmtR) : SlotOut := onCore k (outRR k r (remu (k.g r.ra) (k.g r.rb)))

/-! Immediates (R97). -/

def sext16 (i : BitVec 16) : W64 := i.signExtend 64
def zext16 (i : BitVec 16) : W64 := i.setWidth 64

def slotAddi (k : Ctx) (r : FmtI) : SlotOut := outG k r.rd [r.ra] (k.g r.ra + sext16 r.imm)
def slotAndi (k : Ctx) (r : FmtI) : SlotOut := outG k r.rd [r.ra] (k.g r.ra &&& zext16 r.imm)
def slotOri (k : Ctx) (r : FmtI) : SlotOut := outG k r.rd [r.ra] (k.g r.ra ||| zext16 r.imm)
def slotXori (k : Ctx) (r : FmtI) : SlotOut := outG k r.rd [r.ra] (k.g r.ra ^^^ zext16 r.imm)
def slotSlti (k : Ctx) (r : FmtI) : SlotOut := outG k r.rd [r.ra] (flag64 ((k.g r.ra).slt (sext16 r.imm)))
def slotSltui (k : Ctx) (r : FmtI) : SlotOut := outG k r.rd [r.ra] (flag64 ((k.g r.ra).ult (sext16 r.imm)))

/-- SHI: imm16 [15:14] is the kind, [5:0] the amount, and [13:6] must be zero. -/
def slotShi (k : Ctx) (r : FmtI) : SlotOut :=
  let a := k.g r.ra
  let n := r.imm.toNat % 64
  if r.imm.extractLsb' 6 8 ≠ 0 then illegalOut k
  else match (r.imm.extractLsb' 14 2).toNat with
    | 0 => outG k r.rd [r.ra] (a <<< n)
    | 1 => outG k r.rd [r.ra] (a >>> n)
    | 2 => outG k r.rd [r.ra] (a.sshiftRight n)
    | _ => outG k r.rd [r.ra] (a.rotateRight n)

/-- Format K: the zero field must be zero (R92). -/
def outK (k : Ctx) (r : FmtK) (src : List (BitVec 5)) (v : W64) : SlotOut :=
  if r.z ≠ 0 then illegalOut k else outG k r.rd src v

def slotMvz (k : Ctx) (r : FmtK) : SlotOut := outK k r [] (zext16 r.imm <<< (16 * r.q.toNat))
def slotMvk (k : Ctx) (r : FmtK) : SlotOut :=
  outK k r [r.rd] ((k.g r.rd &&& ~~~(0xFFFF#64 <<< (16 * r.q.toNat))) ||| (zext16 r.imm <<< (16 * r.q.toNat)))
def slotMvn (k : Ctx) (r : FmtK) : SlotOut := outK k r [] (~~~(zext16 r.imm <<< (16 * r.q.toNat)))

/-! Loads and stores (R98 to R101). -/

/-- Whether a load has the size code (R98). -/
def loadOk (sz : BitVec 3) : Bool := decide (sz.toNat ≤ 6)
/-- Whether a store has the size code (R98). -/
def storeOk (sz : BitVec 3) : Bool := decide (sz.toNat ≤ 3)

/-- A load of the control core's own SRAM, or of local data memory, with its mark (R37, R87, R385). -/
def memLoad (k : Ctx) (rd : BitVec 5) (ra : BitVec 5) (sz : BitVec 3) (a : W64) (loc cls d eaddr : Nat) : SlotOut :=
  let n := szBytes sz
  let bad := k.s.mem.badN loc n
  let m := if bad = 0 then Mark.none else .poison a
  { gsrc := [ra.toNat], gdst := [rd.toNat], loads := 1,
    eff := fun t => onUnit k.u (·.setGm rd.toNat (extendSz sz (k.s.mem.readN loc n)) m)
      (integ t d cls eaddr (a.toNat % 64) (k.s.mem.corrN loc n) bad) }

/-- A core's store to the granule of its reservation clears it (R107); a case clears those of its engines itself. -/
def clearOwn (u : UnitId) (g : Nat) : State → State :=
  onUnit u fun x => match x.resv with
    | some r => if !isEng u && decide (r.granule = g) then { x with resv := none } else x
    | none => x

/-- The checks of a remote access, and of every access on Rolran-C (R91, R99, R101). -/
def chkRemote (k : Ctx) (a : W64) (n : Nat) : List (Nat × W64) := chkAlign a n ++ chkRange a ++ chkTask k a n

/-- An access that sends a request (R51, R70): it waits only when it does not trap. -/
def outSend (src dst : List Nat) (traps : List (Nat × W64)) (wait : Nat) (f : State → State) : SlotOut :=
  { traps := traps, gsrc := src, gdst := dst, wait := if traps.isEmpty then wait else 0, lock := 3, eff := f }

/-- Send the request of a remote access; a write to DRAM makes the core's own caches drop its line (R104). -/
def sendOut (u : UnitId) (dest : Dest) (r : Req) (s : State) : State :=
  sendRemote u dest r (if r.op ≠ .rd ∧ inDram r.addr r.len = true then dropOwnLine u r.addr s else s)

/-- A remote load (R100): the outcome arrives with the response (R71). -/
def remoteLoad (k : Ctx) (r : FmtM) : SlotOut :=
  let a := addr13 (k.g r.ra) r.imm
  let n := szBytes r.sz
  if !loadOk r.sz then illegalOut k
  else outSend [r.ra.toNat] [r.rd.toNat] (chkRemote k a n) (remoteWait k)
    (fun t => sendRemote k.u (.load r.rd.toNat r.sz) (mkReq t (t.whoOf k.u) .rd a.toNat n 0) t)

/-- A remote store (R100): posted, with an error response as cause 33 (R71). -/
def remoteStore (k : Ctx) (r : FmtM) : SlotOut :=
  let a := addr13 (k.g r.ra) r.imm
  let n := szBytes r.sz
  if !storeOk r.sz then illegalOut k
  else outSend [r.ra.toNat, r.rd.toNat] [] (chkRemote k a n) (remoteWait k)
    (fun t => clearOwn k.u (a.toNat / 64)
      (sendOut k.u .store (mkReq t (t.whoOf k.u) .wr a.toNat n ((k.g r.rd).toNat % 256 ^ n)) t))

/-- A load of a core from its own memory (R37). -/
def sramLoad (k : Ctx) (r : FmtM) (m : OwnMem) : SlotOut :=
  let a := addr13 (k.g r.ra) r.imm
  { memLoad k r.rd r.ra r.sz a m.loc m.cls m.die m.log with
    traps := chkRemote k a (szBytes r.sz), loads := 0 }

/-- A store of a core to its own memory (R37). -/
def sramStore (k : Ctx) (r : FmtM) (m : OwnMem) : SlotOut :=
  let a := addr13 (k.g r.ra) r.imm
  { traps := chkRemote k a (szBytes r.sz), gsrc := [r.ra.toNat, r.rd.toNat],
    eff := fun t => { t with mem := t.mem.writeN m.loc (szBytes r.sz) (k.g r.rd).toNat } }

/-- A load of a core from the DRAM window passes through its data cache: a line that the cache holds gives the data, and a
miss reads the whole line (R100). A line with an uncorrectable byte is discarded and read again (R385). (DESIGN CHOICE, safe:
log entry 66.) -/
def cachedLoad (k : Ctx) (r : FmtM) : SlotOut :=
  let a := addr13 (k.g r.ra) r.imm
  let n := szBytes r.sz
  match k.x.serves a.toNat n with
  | some w =>
    let v := extendSz r.sz (w.toNat / 256 ^ (a.toNat % 64) % 256 ^ n)
    { outG k r.rd [r.ra] v with
      traps := chkRemote k a n,
      eff := fun t => onUnit k.u (·.setG r.rd.toNat v)
        (if k.x.cacheBits false a.toNat n 1 = 0 then t else cacheAcct k.u t) }
  | none =>
    outSend [r.ra.toNat] [r.rd.toNat] (chkRemote k a n) (remoteWait k)
      (fun t => sendFor k.u (.line r.rd.toNat r.sz true) a.toNat n
        (mkReq t (t.whoOf k.u) .rd (a.toNat / 64 * 64) 64 0) (discardLine k.u a.toNat t))

/-- L: local data memory on an engine, a package address on Rolran-C, through the caches in the DRAM window (R100). -/
def slotL (k : Ctx) (r : FmtM) : SlotOut :=
  let a := addr13 (k.g r.ra) r.imm
  let n := szBytes r.sz
  if !loadOk r.sz then illegalOut k
  else match k.u with
    | .eng d c p =>
      let o := memLoad k r.rd r.ra r.sz a (lmemBase d c p + a.toNat) 0 d (engLogAddr k.s d c p a.toNat)
      { o with traps := chkAlign a n ++ chkLocal a n }
    | _ =>
      match ownMem k.u a.toNat n with
      | some m => sramLoad k r m
      | none => if inDram a.toNat n then cachedLoad k r else remoteLoad k r

/-- S: local data memory on an engine, a package address on Rolran-C (R100). -/
def slotS (k : Ctx) (r : FmtM) : SlotOut :=
  let a := addr13 (k.g r.ra) r.imm
  let n := szBytes r.sz
  let v := (k.g r.rd).toNat
  if !storeOk r.sz then illegalOut k
  else match k.u with
    | .eng d c p =>
      { traps := chkAlign a n ++ chkLocal a n, gsrc := [r.ra.toNat, r.rd.toNat], stores := 1,
        eff := fun t => { t with mem := t.mem.writeN (lmemBase d c p + a.toNat) n v } }
    | _ => match ownMem k.u a.toNat n with
      | some m => sramStore k r m
      | none => remoteStore k r

/-- CL: a load from the engine's own case memory (R100). -/
def slotCl (k : Ctx) (r : FmtM) : SlotOut :=
  let a := addr13 (k.g r.ra) r.imm
  let n := szBytes r.sz
  if !isEng k.u || !loadOk r.sz then illegalOut k
  else outSend [r.ra.toNat] [r.rd.toNat] (chkCase k a n false) (caseWait k a.toNat n true)
    (sendCase k.u (.load r.rd.toNat r.sz) a.toNat n .read)

/-- CS: a store to the engine's own case memory (R100). -/
def slotCs (k : Ctx) (r : FmtM) : SlotOut :=
  let a := addr13 (k.g r.ra) r.imm
  let n := szBytes r.sz
  if !isEng k.u || !storeOk r.sz then illegalOut k
  else outSend [r.ra.toNat, r.rd.toNat] [] (chkCase k a n false) (caseWait k a.toNat n false)
    (sendCase k.u .store a.toNat n (.write ((k.g r.rd).toNat % 256 ^ n) 0))

/-- XL: a load from a package address without the caches; a core reaches its own SRAM without the network (R37, R100). -/
def slotXl (k : Ctx) (r : FmtM) : SlotOut :=
  match ownMem k.u (addr13 (k.g r.ra) r.imm).toNat (szBytes r.sz) with
  | some m => if !loadOk r.sz then illegalOut k else sramLoad k r m
  | none => remoteLoad k r

/-- XS: a store to a package address without the caches; a core reaches its own SRAM without the network (R37, R100). -/
def slotXs (k : Ctx) (r : FmtM) : SlotOut :=
  match ownMem k.u (addr13 (k.g r.ra) r.imm).toNat (szBytes r.sz) with
  | some m => if !storeOk r.sz then illegalOut k else sramStore k r m
  | none => remoteStore k r

/-! Atomics and locked sequences (R103 to R108). -/

def slotCat (k : Ctx) (r : FmtA) : SlotOut :=
  let a := k.g r.ra
  let n := dwBytes r.dw
  if !isEng k.u || r.z ≠ 0 then illegalOut k
  else
    let src := [r.ra.toNat, r.rb.toNat] ++ (if r.afn = 7 then [r.rc.toNat] else [])
    outSend src [r.rd.toNat] (chkCase k a n false) (caseWait k a.toNat n true)
      (sendCase k.u (.atomic r.rd.toNat r.dw) a.toNat n (.atomic r.afn r.dw (k.g r.rb) (k.g r.rc)))

def slotXat (k : Ctx) (r : FmtA) : SlotOut :=
  let a := k.g r.ra
  let n := dwBytes r.dw
  if r.z ≠ 0 then illegalOut k
  else
    let src := [r.ra.toNat, r.rb.toNat] ++ (if r.afn = 7 then [r.rc.toNat] else [])
    outSend src [r.rd.toNat] (chkRemote k a n) (remoteWait k)
      (fun t => clearOwn k.u (a.toNat / 64)
        (sendOut k.u (.atomic r.rd.toNat r.dw)
          { mkReq t (t.whoOf k.u) .at_ a.toNat n (k.g r.rb).toNat with afn := r.afn, cmp := k.g r.rc } t))

/-- A locked access of Rolran-C outside the DRAM window (R108). -/
def chkDram (a : W64) (n : Nat) : List (Nat × W64) := if a.toNat + n ≤ 0x8000000000 then [] else [(10, a)]

/-- LKL: load and reserve (R105); the reservation is set when the word is read (R107). -/
def slotLkl (k : Ctx) (r : FmtA) : SlotOut :=
  let a := k.g r.ra
  let n := dwBytes r.dw
  if r.z ≠ 0 then illegalOut k
  else if isEng k.u then
    { outSend [r.ra.toNat] [r.rd.toNat] (chkCase k a n true) (caseWait k a.toNat n true)
      (fun t => sendCase k.u (.lkl r.rd.toNat r.dw) a.toNat n .read (onUnit k.u UnitState.dropResv t)) with lock := 1 }
  else
    { outSend [r.ra.toNat] [r.rd.toNat] (chkAlign a n ++ chkDram a n ++ chkTask k a n) (remoteWait k)
      (fun t => sendRemote k.u (.lkl r.rd.toNat r.dw)
        { mkReq t (t.whoOf k.u) .rd a.toNat n 0 with lock := true } (onUnit k.u UnitState.dropResv t)) with lock := 1 }

/-- The reservation names the granule and the size (R106). -/
def resvFits (x : UnitState) (a n : Nat) : Bool :=
  match x.resv with
  | some r => decide (r.granule = a / 64) && decide (r.size = n)
  | none => false

/-- A locked load under way, which may still set a reservation. -/
def Pend.isLkl (p : Pend) : Bool := match p.dest with | .lkl _ _ => true | _ => false

/-- An STU fails beside a locked load under way of another granule or size: that load sets no reservation after it (R106). -/
def Pend.failsStu (a n : Nat) (p : Pend) : Pend := if p.addr / 64 = a / 64 ∧ p.len = n then p else p.noReserve

/-- STU: store while the reservation stands (R106); a core fails it without sending it (R312), and holds it back while its locked
load is under way (R106, R110). -/
def slotStu (k : Ctx) (r : FmtA) : SlotOut :=
  let a := k.g r.ra
  let n := dwBytes r.dw
  let v := (k.g r.rb).toNat % 256 ^ n
  let src := [r.ra.toNat, r.rb.toNat]
  if r.z ≠ 0 then illegalOut k
  else if isEng k.u then
    { outSend src [r.rd.toNat] (chkCase k a n true) (caseWait k a.toNat n false)
      (fun t => sendCase k.u (.stu r.rd.toNat) a.toNat n (.stu (BitVec.ofNat 64 v))
        (onUnit k.u (fun x => { x with outs := x.outs.map (Pend.failsStu a.toNat n) }) t)) with lock := 2 }
  else
    { outSend src [r.rd.toNat] (chkAlign a n ++ chkDram a n ++ chkTask k a n)
        (if k.x.outs.any Pend.isLkl then 2 else remoteWait k)
      (fun t =>
        let t' := onUnit k.u (fun x => { x with resv := none }) t
        if resvFits (t.unit k.u) a.toNat n then
          sendOut k.u (.stu r.rd.toNat) { mkReq t (t.whoOf k.u) .wr a.toNat n v with lock := true } t'
        else onUnit k.u (·.setG r.rd.toNat 1) t') with lock := 2 }

/-! Branches, calls and loops (R111 to R115). -/

/-- A jump target that an engine's fetch does not reach (R60), or that is not a multiple of the fetch unit (R112). -/
def chkTarget (k : Ctx) (t : W64) : List (Nat × W64) :=
  if t.toNat % unitBytes k.u ≠ 0 then [(1, t)]
  else if isEng k.u && decide (0x8000 ≤ t.toNat) then [(1, t)] else []

/-- A jump, taken or not. -/
def outJump (k : Ctx) (src : List (BitVec 5)) (taken : Bool) (t : W64) : SlotOut :=
  { traps := if taken then chkTarget k t else [], gsrc := src.map (·.toNat), branch := true,
    next := if taken then some t else none }

/-- The target of a B-format branch: pc + sext(off16) × fetch unit. -/
def target16 (k : Ctx) (o : BitVec 16) : W64 := k.x.pc + o.signExtend 64 * BitVec.ofNat 64 (unitBytes k.u)

def outB (k : Ctx) (r : FmtB) (taken : Bool) : SlotOut := outJump k [r.ra, r.rb] taken (target16 k r.off)

def slotBeq (k : Ctx) (r : FmtB) : SlotOut := outB k r (decide (k.g r.ra = k.g r.rb))
def slotBne (k : Ctx) (r : FmtB) : SlotOut := outB k r (decide (k.g r.ra ≠ k.g r.rb))
def slotBlt (k : Ctx) (r : FmtB) : SlotOut := outB k r ((k.g r.ra).slt (k.g r.rb))
def slotBge (k : Ctx) (r : FmtB) : SlotOut := outB k r (!(k.g r.ra).slt (k.g r.rb))
def slotBltu (k : Ctx) (r : FmtB) : SlotOut := outB k r ((k.g r.ra).ult (k.g r.rb))
def slotBgeu (k : Ctx) (r : FmtB) : SlotOut := outB k r (!(k.g r.ra).ult (k.g r.rb))

/-- The link value: the fetch unit after the branch (R111). -/
def link (k : Ctx) : W64 := k.x.pc + BitVec.ofNat 64 (unitBytes k.u)

def outLink (k : Ctx) (rd : BitVec 5) (o : SlotOut) : SlotOut :=
  { o with gdst := [rd.toNat], eff := onUnit k.u (·.setG rd.toNat (link k)) }

def slotJl (k : Ctx) (r : FmtJ) : SlotOut :=
  outLink k r.rd (outJump k [] true (k.x.pc + r.off.signExtend 64 * BitVec.ofNat 64 (unitBytes k.u)))
def slotJr (k : Ctx) (r : FmtI) : SlotOut := outLink k r.rd (outJump k [r.ra] true (k.g r.ra + sext16 r.imm))

/-- Set up a hardware loop (R113), with the loop traps of R114. -/
def outLoop (k : Ctx) (lvl : Bool) (src : List (BitVec 5)) (count : W64) (end12 : BitVec 12) : SlotOut :=
  let le := k.x.pc + end12.setWidth 64 * 8
  let bad := decide (end12 = 0) || decide (2 ^ 32 ≤ count.toNat) ||
    (lvl && decide ((k.x.getSys (LE false)).toNat < le.toNat) && decide (k.x.getSys (LC false) ≠ 0))
  let out := decide (count = 0) && decide (0x8000 ≤ (le + 8).toNat)
  { traps := (if bad then [(6, k.word)] else []) ++ (if out then [(1, le + 8)] else []),
    gsrc := src.map (·.toNat), sdst := [LS lvl, LE lvl, LC lvl],
    next := if count = 0 then some (le + 8) else none,
    eff := onUnit k.u fun x => ((x.setSys (LS lvl) (link k)).setSys (LE lvl) le).setSys (LC lvl) count }

def slotLoop (k : Ctx) (r : FmtL) : SlotOut :=
  if r.z ≠ 0 then illegalOut k else onEng k (outLoop k r.lvl [r.ra] (k.g r.ra) r.end12)
def slotLoopi (k : Ctx) (r : FmtLI) : SlotOut :=
  onEng k (outLoop k r.lvl [] (r.count.setWidth 64) r.end12)

/-! System registers (R119, R120, R125, R136, R665). -/

/-- The task column: no access, read only, or read and write. -/
inductive TaskCol where
  | none | read | rw
  deriving DecidableEq, Repr

/-- The system registers of each profile with their task columns. -/
def sysTask (eng : Bool) (n : Nat) : Option TaskCol :=
  if n ≤ 5 then some .none
  else if 0x010 ≤ n ∧ n ≤ 0x015 then (if eng then some .read else none)
  else if n = CYCLE then some .read
  else if 0x030 ≤ n ∧ n ≤ 0x033 then some .none
  else if 0x040 ≤ n ∧ n ≤ 0x044 then (if eng then some .rw else none)
  else if n = WDOG then some .rw
  else none

/-- The value that SRD returns. WDOG on the guard core, which has no watchdog (R665), reads as 0 and a write of it does
nothing. (DESIGN CHOICE, unsafe: log entry 67.) -/
def readSys (k : Ctx) (n : Nat) : W64 :=
  if n = CYCLE then
    match k.u with
    | .eng d c p => let sl := k.s.slotOf d c p; if sl < 8 then k.s.reg .caseEngCycles [d, c, sl] else 0
    | .core d => BitVec.ofNat 64 (k.s.hv .ctlCycle [d])
    | .guard => BitVec.ofNat 64 (k.s.hv .ctlCycle [])
  else if n = WDOG then
    match wdogReg k.s k.u with
    | some (r, ix) => BitVec.ofNat 64 (k.s.fld r ix F.caseEngWdog_REMAIN)
    | none => 0
  else k.x.getSys n

/-- The bits of a system register that SWR writes (the table of STATUS, R125, R136). -/
def sysMask (u : UnitId) (n : Nat) : W64 :=
  if n = STATUS then 0xEC
  else if n = TVEC then ~~~(BitVec.ofNat 64 (unitBytes u - 1))
  else if n = VSTAT then 0x1F
  else if n = CYCLE then 0
  else BitVec.allOnes 64

/-- The effect of SWR (R120, R125). -/
def writeSys (u : UnitId) (n : Nat) (v : W64) (s : State) : State :=
  if n = WDOG then kickWdog u s
  else if n = CYCLE then s
  else onUnit u (fun x => x.setSys n ((x.getSys n &&& ~~~(sysMask u n)) ||| (v &&& sysMask u n))) s

def slotSrd (k : Ctx) (r : FmtY) : SlotOut :=
  let n := r.sr.toNat
  match sysTask (isEng k.u) n with
  | none => illegalOut k
  | some c =>
    { outG k r.rd [] (readSys k n) with
      traps := if k.atTask && decide (c = .none) then [(5, k.word)] else [], rsrc := [.sys n] }

def slotSwr (k : Ctx) (r : FmtY) : SlotOut :=
  let n := r.sr.toNat
  match sysTask (isEng k.u) n with
  | none => illegalOut k
  | some c =>
    { traps := if k.atTask && decide (c ≠ .rw) then [(5, k.word)] else [], gsrc := [r.ra.toNat], sdst := [n],
      eff := writeSys k.u n (k.g r.ra) }

/-- FENCE (R116): imm12 bit 0 selects case accesses, bit 1 remote accesses, bit 2 instruction fetch, which drops the lines of
the instruction cache. Bit 2 waits for an earlier fetch and for the core's stores under way, whose lines no later instruction
may be fetched from as they were. (DEDUCED, safe: log entry 83.) -/
def slotFence (k : Ctx) (r : FmtY) : SlotOut :=
  let i := r.sr.toNat
  if 8 ≤ i ∨ (isEng k.u = true ∧ 4 ≤ i) then illegalOut k
  else
    let held := k.x.owed.filter fun p =>
      (decide (i % 2 = 1) && !p.remote) || (decide (i / 2 % 2 = 1) && p.remote && !p.dest.isFetch) ||
        (decide (4 ≤ i) && (p.dest.isFetch || p.dest.isStore))
    { wait := if held.isEmpty then 0 else waitKind k (held.any (·.remote)),
      eff := if 4 ≤ i then onUnit k.u (fun x => { x with ilines := [], cflaws := x.cflaws.keep (!·.1) }) else id }

def slotSys (_k : Ctx) (r : FmtY) : SlotOut := { traps := [(15, r.sr.setWidth 64)] }
def slotBrk (_k : Ctx) (r : FmtY) : SlotOut := { traps := [(16, r.sr.setWidth 64)] }

/-- RTE and HALT need the trap level (R89, R90). -/
def chkLevel (k : Ctx) : List (Nat × W64) := if k.priv = trapLevel k.u then [] else [(5, k.word)]

/-- RTE (R124): fetch continues at EPC. -/
def slotRte (k : Ctx) (_r : FmtY) : SlotOut :=
  { traps := chkLevel k, next := some (k.x.getSys EPC), eff := returnTrap k.u }

/-- HALT: the engine stops as for STOP (R72), a die control core stops at once (R127), and the guard core has no
HALT. -/
def slotHalt (k : Ctx) (_r : FmtY) : SlotOut :=
  match k.u with
  | .guard => illegalOut k
  | .core _ =>
    { traps := chkLevel k,
      eff := fun t => stopEvent k.u (onUnit k.u (fun x => { x.dropResv with st := .stopped, stopping := false }) t) }
  | .eng _ _ _ => { traps := chkLevel k, eff := onUnit k.u UnitState.toStop }

/-- WEV (R119, R681): the lowest-numbered event that has reached the processor. -/
def slotWev (k : Ctx) (r : FmtY) : SlotOut :=
  match nextEvent k.s k.u with
  | some n =>
    { outG k r.rd [] (BitVec.ofNat 64 n) with
      eff := fun t => onUnit k.u (·.setG r.rd.toNat (BitVec.ofNat 64 n)) (takeEvent k.u n t) }
  | none => { gdst := [r.rd.toNat], wait := 2 }

end Sys2Proof.Machine
end

