-- ==== Sys2Proof/Machine/Halt.lean ====
section
/-! DEFINITION. The halt controller (R657 to R661), the state block (R662), relocking (R653) and the watchdog (R666). -/

namespace Sys2Proof.Machine
open Sys2Proof

/-- Set a field of `hstat`, with the debug event (R664). -/
def hstatFlag (f : Fld) (s : State) : State := (s.setFld .debugHstat [] f 1).raiseEvent 0 502

/-- The targets of `hreq`: an engine by its logical number, a die control core, or a case (R657). -/
inductive HaltTarget where
  | unit (u : UnitId)
  | cas (d : Fin 4) (c : Fin 16)
  deriving DecidableEq, Repr

def haltTarget (s : State) (kind num : Nat) : Option HaltTarget :=
  match kind with
  | 0 => some (.unit (s.engAt (fin4 (num / 128)) (fin16 (num / 8)) (num % 8)))
  | 1 => if num < 4 then some (.unit (.core (fin4 num))) else none
  | 2 => if num < 64 then some (.cas (fin4 (num / 16)) (fin16 num)) else none
  | _ => none

/-- The numbered engines of a case. -/
def caseEngines (s : State) (d : Fin 4) (c : Fin 16) : List UnitId := (List.range 8).map (s.engAt d c)

/-- A case is Halted: as a whole (R657). -/
def caseHalted (s : State) (d c : Nat) : Bool := decide (s.hv .caseHalted [d, c] = 1)

/-- The composing context of a die is running (R523, R657). -/
def composing (s : State) (d : Nat) : Bool :=
  let x := s.comp d
  (decide (s.load.stage = .full) && x.final.isNone) || decide (x.q ≠ []) || decide (x.doing ≠ .idle) || decide (x.outs ≠ 0)

/-- The target's domain is On and its die is Released. -/
def targetOn (s : State) : HaltTarget → Bool
  | .unit (.eng d c _) => s.domOn d (16 + c.val) && s.released d
  | .unit (.core d) => s.domOn d 32 && s.released d
  | .unit .guard => false
  | .cas d c => s.domOn d (16 + c.val) && s.released d

/-- The target may not take the command (R657). -/
def targetBad (s : State) (cmd : Nat) : HaltTarget → Bool
  | .unit u =>
    let st := (s.unit u).st
    (match u with | .eng d c _ => caseHalted s d c | .core d => decide (cmd = 1) && composing s d | .guard => true) ||
      (if cmd = 1 then decide (st = .halted) || decide (st = .armed) else decide (st ≠ .halted))
  | .cas d c =>
    if cmd = 1 then
      caseHalted s d c || (caseEngines s d c).any (fun u => decide ((s.unit u).st = .halted) || decide ((s.unit u).st = .armed))
    else !caseHalted s d c

/-- A resume (1) or a step (2) of a Halted processor: it is released at once when its slot counter stands at q. -/
def resumeUnit (n : Nat) (s : State) (u : UnitId) : State :=
  if (s.unit u).st = .halted then onUnit u (fun x => { x with resume := n }) s else s

/-- CMD takes effect on its target (R658 to R661). -/
def haltApply (cmd : Nat) (t : HaltTarget) (s : State) : State :=
  match t with
  | .unit u => if cmd = 1 then haltNow u s else releaseAt u (resumeUnit (cmd - 1) s u)
  | .cas d c =>
    let us := caseEngines s d c
    if cmd = 1 then (us.foldl (fun t u => haltNow u t) s).setHv .caseHalted [d, c] 1
    else
      let s := if cmd = 2 then s.setHv .caseHalted [d, c] 0 else s
      us.foldl (fun t u => releaseAt u t) (us.foldl (resumeUnit (cmd - 1)) s)

/-- A write of `hreq` (R657). -/
def hreqWrite (v : W64) (s : State) : Nat × State :=
  if F.debugHreq_GO.get v = 0 then (OK, plainWrite .debugHreq [] v s)
  else
    let cmd := F.debugHreq_CMD.get v
    match haltTarget s (F.debugHreq_KIND.get v) (F.debugHreq_NUM.get v) with
    | none => (OK, hstatFlag F.debugHstat_REFUSED s)
    | some t =>
      if s.bit .debugHreq [] F.debugHreq_BUSY || !(decide (1 ≤ cmd) && decide (cmd ≤ 3)) || !targetOn s t ||
          targetBad s cmd t then
        (OK, hstatFlag F.debugHstat_REFUSED s)
      else
        let s := (plainWrite .debugHreq [] v s).setFld .debugHreq [] F.debugHreq_GO 0
        (OK, hreqSettle (haltApply cmd t (s.setFld .debugHreq [] F.debugHreq_BUSY 1)))

/-- The debug port is up, and HALT is granted (R647, R652). -/
def haltGranted (s : State) : Bool := s.pdomOn 3 && granted s 2

/-- A write of `hreq` through the debug port, with CMD as given (R716). (DESIGN CHOICE, safe: log entry 17.) -/
def haltCommand (cmd : Nat) (v : W64) (s : State) : State :=
  if haltGranted s then
    let r := hreqWrite (F.debugHreq_CMD.put (withBit F.debugHreq_GO v) cmd) s
    r.2.answerWith r.1 0 0
  else s.answerWith REFUSED 0 0

/-- DEBUG_HALT (R658). -/
def execDebugHalt (v : W64) (s : State) : Host.Outcome State Fault Refusal := .next (haltCommand 1 v s)

/-- DEBUG_RESUME (R659). -/
def execDebugResume (v : W64) (s : State) : Host.Outcome State Fault Refusal := .next (haltCommand 2 v s)

/-- DEBUG_STEP (R660). -/
def execDebugStep (v : W64) (s : State) : Host.Outcome State Fault Refusal := .next (haltCommand 3 v s)

/-! Relocking (R653). -/

/-- REV_WAIT of every case becomes 0. -/
def clearRevWait (s : State) : State :=
  (List.range 4).foldl (fun t d => (List.range 16).foldl (fun (t : State) c =>
    if t.fld .caseImpCtl [d, c] F.caseImpCtl_REV_WAIT = 0 then t
    else t.setFld .caseImpCtl [d, c] F.caseImpCtl_REV_WAIT 0) t) s

/-- DEBUG_RELOCK (R589, R653). -/
def relock (s : State) : State :=
  let s := { s.setFld .secSstat [] F.secSstat_UNLOCKED 0 with sec := { s.sec with scope := 0, duration := 0 } }
  resumeAll (clearRevWait (relockDebugRegs s))

/-- DLOCK (R589): reached while locked as well. -/
def dlockBit (s : State) : State := if debugLocked s then s else relock s

/-! The watchdog (R666). -/

/-- WATCHDOG_EXPIRY (R666): REMAIN has reached 0. -/
def watchdogExpiry (u : UnitId) (s : State) : State :=
  match wdogReg s u with
  | none => s
  | some (n, ix) =>
    if decide (s.fld n ix F.caseEngWdog_REMAIN = 0) && decide (s.fld n ix F.caseEngWdog_PERIOD ≠ 0) && decide ((s.unit u).st = .running) && s.live u then
      let s := kickWdog u (onUnit u (fun x => { x with wdog := true }) (s.setFld n ix F.caseEngWdog_WEXP 1))
      match u with
      | .eng d c _ => s.raiseCaseEvent d c 182
      | .core d => s.raiseEvent d 182
      | .guard => s
    else s

def execWatchdogExpiry (u : UnitId) (s : State) : Host.Outcome State Fault Refusal := .next (watchdogExpiry u s)

/-! The state block (R662). -/

/-- A row of the state block: its offset, its length and what it holds. -/
inductive BlockRow where
  | g (k : Nat) | v (k : Nat) | a (k : Nat) | p (k : Nat) | sys (n : Nat) | pc | gmarks | vmarks | causes
  deriving DecidableEq, Repr

/-- The system registers of the two rows. -/
def blockSys : List Nat :=
  [STATUS, TVEC, EPC, CAUSE, TVAL, SCRATCH, LS false, LE false, LC false, LS true, LE true, LC true, TWB false, TWL false,
    TWB true, TWL true]
def blockSta : List Nat := [VSTAT, STA false, STS false, STA true, STS true]

/-- The loop registers, which a die control core does not have. -/
def loopSys (n : Nat) : Bool := decide (0x010 ≤ n) && decide (n ≤ 0x015)

/-- Rows of one kind at a stride. -/
def rowsAt (off len : Nat) (l : List BlockRow) : List (Nat × Nat × BlockRow) :=
  (l.zip (List.range l.length)).map fun (r, k) => (off + len * k, len, r)

/-- The rows of a processor: a die control core has only its general and system registers, PC and marks. -/
def blockRows (u : UnitId) : List (Nat × Nat × BlockRow) :=
  let eng := isEng u
  let sys := rowsAt 0xF20 8 (blockSys.map .sys)
  rowsAt 0 8 ((List.range 32).map .g) ++
  (if eng then
    rowsAt 0x100 64 ((List.range 32).map .v) ++ rowsAt 0x900 192 ((List.range 8).map .a) ++
      rowsAt 0xF00 4 ((List.range 8).map .p) ++ sys ++ rowsAt 0xFA0 8 (blockSta.map .sys)
   else sys.filter (fun r => match r.2.2 with | .sys n => !loopSys n | _ => true)) ++
  [(0xFC8, 8, .pc), (0xFD0, 8, .gmarks)] ++ (if eng then [(0xFD8, 4, .vmarks), (0xFDC, 4, .causes)] else [])

def markCode : Mark → Nat
  | .none => 0
  | .poison _ => 1
  | .error _ => 2

/-- The value of a row. -/
def rowValue (s : State) (u : UnitId) (r : BlockRow) : Nat :=
  let x := s.unit u
  match r with
  | .g k => (x.getG k).toNat
  | .v k => (x.getV k).toNat
  | .a k => (x.getA k).toNat
  | .p k => (x.getP k).toNat
  | .sys n => (x.getSys n).toNat
  | .pc => x.pc.toNat
  | .gmarks => ((List.range 32).map (fun k => markCode (x.markG k) * 4 ^ k)).sum
  | .vmarks => ((List.range 32).map (fun k => if markCode (x.markV k) = 0 then 0 else 2 ^ k)).sum
  | .causes => (nextEvent s u).isSome.toNat + 2 * x.posted.isSome.toNat + 4 * x.wdog.toNat

/-- A mark written in the state block: a new mark has the address that no load has. -/
def blockMark (old : Mark) (code : Nat) : Mark :=
  if code = 1 then (match old with | .poison a => .poison a | _ => .poison 0xFFFFFFFFFFFFFFFE)
  else if code = 2 then (match old with | .error a => .error a | _ => .error 0xFFFFFFFFFFFFFFFE)
  else .none

/-- STATUS as the state block writes it: a level that the unit does not have is task level. -/
def blockStatus (u : UnitId) (v : Nat) : W64 :=
  let w : W64 := BitVec.ofNat 64 v &&& 0xEF
  let fix (f : Fld) (w : W64) : W64 := if hasLevel u (f.get w) then w else f.put w (taskLevel u)
  fix fPRIV (fix fPPRIV w)

/-- Write a row. -/
def setRow (u : UnitId) (r : BlockRow) (v : Nat) (s : State) : State :=
  onUnit u (fun x => match r with
    | .g k => if k = 0 then x else x.setGm k (BitVec.ofNat 64 v) (x.markG k)
    | .v k => x.setVm k (BitVec.ofNat 512 v) (x.markV k)
    | .a k => x.setA k (BitVec.ofNat 1536 v)
    | .p k => x.setP k (BitVec.ofNat 32 v)
    | .sys n => x.setSys n (if n = STATUS then blockStatus u v else BitVec.ofNat 64 v &&& sysMask u n)
    | .pc => { x with pc := BitVec.ofNat 64 v }
    | .gmarks => { x with gm := (List.range 32).foldl (fun (m : Tbl Nat Mark) k =>
        if k = 0 then m else m.set k (blockMark (x.markG k) (v / 4 ^ k % 4))) x.gm }
    | .vmarks => { x with vm := (List.range 32).foldl (fun (m : Tbl Nat Mark) k =>
        m.set k (blockMark (x.markV k) (v / 2 ^ k % 2))) x.vm }
    | .causes => { x with wdog := decide (v / 4 % 2 = 1),
                          posted := if v / 2 % 2 = 1 then some (x.posted.getD 0) else none }) s

/-- n bytes of the state block from an offset. -/
def blockRead (s : State) (u : UnitId) (off n : Nat) : Nat :=
  let image := (blockRows u).foldl (fun t r =>
    if off < r.1 + r.2.1 ∧ r.1 < off + n then t + rowValue s u r.2.2 * 256 ^ r.1 else t) 0
  image / 256 ^ off % 256 ^ n

/-- Write n bytes of the state block: each row that the bytes touch takes them. (DEDUCED, unsafe: log entry 54.) -/
def blockWrite (u : UnitId) (off n data : Nat) (s : State) : State :=
  (blockRows u).foldl (fun t r =>
    if off < r.1 + r.2.1 ∧ r.1 < off + n then
      let lo := max off r.1
      let hi := min (off + n) (r.1 + r.2.1)
      let old := rowValue t u r.2.2
      let k := 256 ^ (lo - r.1)
      let m := 256 ^ (hi - lo)
      setRow u r.2.2 (old % k + data / 256 ^ (lo - off) % m * k + old / (k * m) * (k * m)) t
    else t) s

/-- The state block may be read and written (R662); `debug` says that the debug initiator asks. -/
def blockReadable (s : State) (u : UnitId) : Bool :=
  let st := (s.unit u).st
  decide (st = .halted) || decide (st = .stopped) || decide (st = .faultStopped)

def blockWritable (s : State) (u : UnitId) (debug : Bool) : Bool :=
  decide ((s.unit u).st = .halted) && (!debug || granted s 1)

end Sys2Proof.Machine
end

