-- ==== Sys2Proof/Machine/Security.lean ====
section
/-! DEFINITION. Fuse commands (R577 to R582), attestation (R584), debug unlock (R586 to R589) and the mailbox (R711). -/

namespace Sys2Proof.Machine
open Sys2Proof

/-- Set a W1C field of `sstat`, with the security event (R591). -/
def secFlag (f : Fld) (s : State) : State := (s.setFld .secSstat [] f 1).raiseEvent 0 499

/-- Debug relocks when DEBUG has set DBG to 2 or 3 (R589). -/
def secDbg (s : State) : State := if 2 ≤ fuseDbg s ∧ debugLocked s = false then relock s else s

/-! The mailbox (R711). -/

def mboxBase : Nat := 0xB000501000

/-- The 512 bytes of the mailbox. -/
def mboxBytes (s : State) : Nat := ((List.range 64).map (fun k => (s.reg .secMbox [k]).toNat * 2 ^ (64 * k))).sum

def mboxStore (x : Nat) (s : State) : State :=
  (List.range 64).foldl (fun (t : State) k => t.setReg .secMbox [k] (BitVec.ofNat 64 (x / 2 ^ (64 * k)))) s

/-- BUSY of either request. -/
def reqBusy (s : State) (j : Nat) : Bool := s.bit .secReq [j] F.secReq_BUSY

/-- A write of `mbox[k]` (R711). -/
def mboxWrite (k : Nat) (v : W64) (s : State) : Nat × State :=
  if reqBusy s 0 || reqBusy s 1 then (REFUSED, s) else (OK, s.setReg .secMbox [k] v)

/-- Read a record: from the mailbox directly, or over the network (R577, R584, R711), with a mark for poisoned data. -/
def secRead (a o n : Nat) (s : State) : Option (Nat × Bool) × State :=
  if a = mboxBase then (some (bytesAt (mboxBytes s) o n, false), s) else readMarked (a + o) n s

/-- Write the whole buffer of a report. -/
def secWrite (a x : Nat) (s : State) : Bool × State :=
  if a = mboxBase then (true, mboxStore x s) else writeRange a 512 x s

/-! Requests (R580). -/

/-- Refuse a fuse command (R579). -/
def fuseRefuse (reason : Nat) (s : State) : State :=
  secFlag F.secSstat_FREF (s.setFld .secSstat [] F.secSstat_REASON reason)

/-- A write of `req[j]` (R577, R580, R584): the address is taken at the GO; a GO while BUSY is ignored. -/
def reqWrite (j : Nat) (v : W64) (s : State) : Nat × State :=
  let s := (plainWrite .secReq [j] v s).setFld .secReq [j] F.secReq_GO 0
  if F.secReq_GO.get v = 0 then (OK, s)
  else if j = 0 ∧ gstate s ≠ 5 ∧ gstate s ≠ 6 then (OK, fuseRefuse 6 s)
  else if reqBusy s j then (OK, s)
  else
    let s := (s.setFld .secReq [j] F.secReq_BUSY 1).setHv .reqAddr [j] (F.secReq_ADDR.get v * 64)
    (OK, { s with jobs := s.jobs ++ [if j = 0 then .fuse else .attest] })

/-! Fuse commands. -/

def allZero (x i n : Nat) : Bool := decide (bytesAt x i n = 0)

/-- MAGIC, CMD and the zero fields of a record are right (R577). -/
def recordForm (x : Nat) : Bool :=
  let cmd := bytesAt x 4 1
  decide (bytesAt x 0 4 = 0x45535546) && decide (1 ≤ cmd) && decide (cmd ≤ 8) && allZero x 7 1 && allZero x 12 4 &&
    allZero x 113 15 && allZero x 177 15 && allZero x 240 176 &&
    (decide (cmd = 1) || decide (cmd = 2) || allZero x 6 1) &&
    (decide (cmd = 3) || decide (cmd = 4) || decide (cmd = 6) || decide (cmd = 8) || allZero x 8 4) &&
    (decide (cmd = 1) || allZero x 64 49) && (decide (cmd = 5) || (allZero x 128 49 && allZero x 192 48))

/-- The lowest word of a floor that is 0. -/
def freeWord (l : List Nat) : Option Nat := ((l.zip (List.range l.length)).find? (fun e => e.1 == 0)).map (·.2)

/-- The precondition of a command (R578). -/
def fusePre (s : State) (cmd slot v : Nat) : Bool :=
  match cmd with
  | 1 => decide (slot < 4) && decide (fuseBits s (slotLo slot) 512 = 0)
  | 2 => keyLive s slot && (List.range 4).any (fun k => decide (k ≠ slot) && keyLive s k)
  | 3 =>
    decide (folioFloor s < v) && decide (v ≤ s.fld .guardFsel [] F.guardFsel_FOLIO) &&
      decide (s.fld .guardFsel [] F.guardFsel_LOADED ≤ 1) && (freeWord (floorWords s)).isSome
  | 4 => decide (standFloor s < v) && (freeWord (sfloorWords s)).isSome
  | 5 => !formeKeySet s
  | 6 => decide (fusePolicyLock s = 0) && decide (v ≤ 3)
  | 7 => formeKeySet s
  | _ => decide (v ≤ 3) && decide (fuseDbg s ||| v = v)

/-- FK of a SETFK record (R582). (DESIGN CHOICE, safe: log entry 44.) -/
def setfkKey (x : Nat) : Option Nat :=
  let z := Config.curveMul dId (BitVec.ofNat 384 (bytesAt x 128 48)) (decide (bytesAt x 176 1 = 1))
  let kt := (Config.hmac384 48 z.toNat 50 (0x4B46 + devFp.toNat * 2 ^ 16)).toNat % 256 ^ 32
  Config.gcmOpen kt 0 48 devFp.toNat 32 (bytesAt x 192 32) (bytesAt x 224 16)

/-- The logical bits that a command burns, in their order (R574, R578). -/
def fuseBurns (s : State) (cmd slot v x : Nat) : List Nat :=
  match cmd with
  | 1 => bitsOf (slotLo slot) 384 (bytesAt x 64 48) ++ bitsOf (slotLo slot + 384) 1 (bytesAt x 112 1) ++ [slotLo slot + 511]
  | 2 => [slotLo slot + 510]
  | 3 => bitsOf (floorLo ((freeWord (floorWords s)).getD 0)) 32 v
  | 4 => bitsOf (sfloorLo ((freeWord (sfloorWords s)).getD 0)) 32 v
  | 5 =>
    let w := Config.gcmSeal kWrap 0 0 0 32 ((setfkKey x).getD 0)
    bitsOf 7936 256 w.1 ++ bitsOf (7936 + 256) 128 w.2 ++ [7936 + 511]
  | 6 => bitsOf 11009 2 v ++ [11008]
  | 7 => [11011]
  | _ => bitsOf 11012 2 v

/-- The first reason to refuse a record that is readable (R579): no identity has no DEVFP to compare. (DEDUCED, unsafe:
log entry 52.) -/
def fuseReason (s : State) (x : Nat) : Option Nat :=
  let cmd := bytesAt x 4 1
  let free := decide (cmd = 1) && (List.range 4).all (fun k => !slotSet s k)
  let signer := bytesAt x 5 1
  if !recordForm x then some 2
  else if hasIdentity s ∧ bytesAt x 16 48 ≠ devFp.toNat then some 3
  else if !free && !keyLive s signer then some 4
  else if !free && !verifySlot s signer (Config.sha384 416 (x % 256 ^ 416)) (BitVec.ofNat 384 (bytesAt x 416 48))
      (BitVec.ofNat 384 (bytesAt x 464 48)) then some 5
  else if cmd = 5 ∧ hasIdentity s ∧ (setfkKey x).isNone then some 5
  else if !fusePre s cmd (bytesAt x 6 1) (bytesAt x 8 4) then some 6
  else if !hasIdentity s then some 8
  else none

/-- Burn a command's bits and read them back (R579); the bits of `weak` do not take. -/
def fuseBurn (cmd : Nat) (weak : List Nat) (bits : List Nat) (s : State) : State :=
  let s := (bits.filter (fun k => decide (k ∉ weak))).foldl burnBit s
  if bits.all (fun k => decide (fuseBits s k 1 = 1)) then
    (if cmd = 8 then secDbg else id) (secFlag F.secSstat_FDONE s)
  else fuseRefuse 7 s

/-- The fuse command at the front of the queue (R577 to R580); `code` is the CMD that the row performs, and a record that
names no command is refused by any. -/
def fuseCommand (code : Nat) (weak : List Nat) (s : State) : State :=
  match s.jobs with
  | .fuse :: r =>
    let q := secRead (s.hv .reqAddr [0]) 0 512 s
    let done (t : State) : State := { t.setFld .secReq [0] F.secReq_BUSY 0 with jobs := r }
    match q.1 with
    | none | some (_, true) => fuseRefuse 1 (done q.2)
    | some (x, false) =>
      let cmd := bytesAt x 4 1
      if cmd ≠ code ∧ 1 ≤ cmd ∧ cmd ≤ 8 then s
      else match fuseReason q.2 x with
        | some n => fuseRefuse n (done q.2)
        | none => fuseBurn cmd weak (fuseBurns q.2 cmd (bytesAt x 6 1) (bytesAt x 8 4) x) (done q.2)
  | _ => s

def execAddkey (weak : List Nat) (s : State) : Host.Outcome State Fault Refusal := .next (fuseCommand 1 weak s)
def execRevoke (weak : List Nat) (s : State) : Host.Outcome State Fault Refusal := .next (fuseCommand 2 weak s)
def execFloorCmd (weak : List Nat) (s : State) : Host.Outcome State Fault Refusal := .next (fuseCommand 3 weak s)
def execSfloor (weak : List Nat) (s : State) : Host.Outcome State Fault Refusal := .next (fuseCommand 4 weak s)
def execSetfk (weak : List Nat) (s : State) : Host.Outcome State Fault Refusal := .next (fuseCommand 5 weak s)
def execPolicyCmd (weak : List Nat) (s : State) : Host.Outcome State Fault Refusal := .next (fuseCommand 6 weak s)
def execEncreq (weak : List Nat) (s : State) : Host.Outcome State Fault Refusal := .next (fuseCommand 7 weak s)
def execDebugBurn (weak : List Nat) (s : State) : Host.Outcome State Fault Refusal := .next (fuseCommand 8 weak s)

/-! Attestation (R584). -/

/-- The bits of four owner slots. -/
def slotBits (f : Nat → Bool) : Nat := ((List.range 4).map (fun k => (f k).toNat * 2 ^ k)).sum

/-- Fields of a byte string, by offset. -/
def layBytes (l : List (Nat × Nat)) : Nat := (l.map (fun e => e.2 * 256 ^ e.1)).sum

/-- Bytes 0 to 415 of the report (R584). -/
def reportBody (s : State) (nonce : Nat) : Nat :=
  let loaded := s.fld .guardFsel [] F.guardFsel_LOADED
  let live (x : Nat) : Nat := if loaded = 3 then 0 else x
  let ctrl := fusePolicyLock s + 2 * fusePolicy s + 8 * fuseEncReq s + 16 * fuseDbg s + 64 * (formeKeySet s).toNat
  layBytes [(0, 0x54535441), (4, 1), (6, loaded), (7, gstate s), (8, live (s.fld .guardFsel [] F.guardFsel_FOLIO)),
    (12, folioFloor s), (16, standFloor s), (20, slotBits (slotSet s) + 16 * slotBits (slotRevoked s)),
    (21, live s.sec.owner), (22, ctrl), (23, (!debugLocked s).toNat + 2 * s.sec.ever.toNat),
    (24, (identityCode s).toNat), (32, nonce), (80, live s.sec.fhash), (128, s.sec.phash), (176, s.sec.pcount),
    (184, secOf s.time.now % 2 ^ 48), (192, xId.toNat), (240, parityId.toNat)]

/-- An attestation request ends in AERR: what the buffer then holds is open (R584). -/
def attestFail (a : Nat) (s : State) : State :=
  secFlag F.secSstat_AERR ((secWrite a (Config.attestJunk s.freeCtr) s).2.draw)

/-- ATTEST (R584). -/
def attest (s : State) : State :=
  match s.jobs with
  | .attest :: r =>
    let a := s.hv .reqAddr [1]
    let s := { s.setFld .secReq [1] F.secReq_BUSY 0 with jobs := r }
    if !hasIdentity s then attestFail a s
    else
      let q := secRead a 32 48 s
      match q.1 with
      | none => attestFail a q.2
      | some (nonce, _) =>
        let s := q.2
        let body := reportBody s nonce
        let sg := Config.ecdsaSign s.freeCtr dId (Config.sha384 416 body)
        let w := secWrite a (body + sg.1.toNat * 256 ^ 416 + sg.2.toNat * 256 ^ 464) s.draw
        if w.1 then secFlag F.secSstat_ADONE w.2 else attestFail a w.2
  | _ => s

def execAttest (s : State) : Host.Outcome State Fault Refusal := .next (attest s)

/-! Debug unlock (R586 to R589). -/

/-- The unlock record in `dresp`. -/
def unlockRecord (s : State) : Nat := ((List.range 32).map (fun k => (s.reg .secDresp [k]).toNat * 2 ^ (64 * k))).sum

/-- The current challenge. -/
def challengeNow (s : State) : Nat := ((List.range 6).map (fun k => (s.reg .secDchal [k]).toNat * 2 ^ (64 * k))).sum

/-- A new challenge (R588). -/
def newChallenge (s : State) : State :=
  let c := Config.challenge s.freeCtr
  ((List.range 6).foldl (fun (t : State) k => t.setReg .secDchal [k] (c.extractLsb' (64 * k) 64)) s).draw

/-- The record is accepted (R587). -/
def unlockOk (s : State) : Bool :=
  let x := unlockRecord s
  decide (fuseDbg s = 1) && decide (bytesAt x 0 4 = 0x4E554244) && allZero x 6 2 && allZero x 12 4 && allZero x 112 48 &&
    hasIdentity s && decide (bytesAt x 16 48 = devFp.toNat) && decide (bytesAt x 64 48 = challengeNow s) &&
    verifySlot s (bytesAt x 4 1) (Config.sha384 160 (x % 256 ^ 160)) (BitVec.ofNat 384 (bytesAt x 160 48))
      (BitVec.ofNat 384 (bytesAt x 208 48))

/-- A write of `dctl` (R587, R589): an attempt that waits is not started twice. -/
def dctlWrite (v : W64) (s : State) : Nat × State :=
  let s := if F.secDctl_DLOCK.get v = 1 then dlockBit s else s
  (OK, if F.secDctl_DGO.get v = 1 ∧ GuardJob.unlock ∉ s.jobs then { s with jobs := s.jobs ++ [.unlock] } else s)

/-- DLOCK (R589). -/
def execDlock (who : Who) (v : W64) (s : State) : Host.Outcome State Fault Refusal :=
  .next (regCommand who .secDctl [] (dctlWrite (withBit F.secDctl_DLOCK v)) s)

/-- UNLOCK_ATTEMPT (R587, R588): `secs` whole seconds have passed since WAIT was last set. (DEDUCED, unsafe: log entry
52.) -/
def unlockAttempt (secs : Nat) (s : State) : State :=
  match s.jobs with
  | .unlock :: r =>
    let s := { s with jobs := r }
    let s := s.setFld .secSstat [] F.secSstat_WAIT (s.fld .secSstat [] F.secSstat_WAIT - secs)
    if s.fld .secSstat [] F.secSstat_WAIT ≠ 0 then secFlag F.secSstat_DDENY s
    else if unlockOk s then
      let x := unlockRecord s
      let s := { s with sec := { s.sec with scope := bytesAt x 5 1, duration := bytesAt x 8 4, ever := true } }
      let s := (s.setFld .secSstat [] F.secSstat_UNLOCKED 1).setFld .secSstat [] F.secSstat_FAILS 0
      newChallenge (secFlag F.secSstat_DGRANT s)
    else
      let s := s.bumpFld .secSstat [] F.secSstat_FAILS 1
      let s := s.setFld .secSstat [] F.secSstat_WAIT (2 ^ min (s.fld .secSstat [] F.secSstat_FAILS) 6)
      newChallenge (secFlag F.secSstat_DDENY s)
  | _ => s

def execUnlockAttempt (secs : Nat) (s : State) : Host.Outcome State Fault Refusal := .next (unlockAttempt secs s)

/-- UNLOCK_EXPIRY (R589). -/
def execUnlockExpiry (s : State) : Host.Outcome State Fault Refusal :=
  .next (if debugLocked s = false ∧ s.sec.duration ≠ 0 then relock s else s)

end Sys2Proof.Machine
end

