-- ==== Sys2Proof/Machine/Vector.lean ====
section
/-! DEFINITION. The vector-slot instructions (R128 to R160): what each does, from the state before its pair. Each is
Rolran-S only (R84). -/

namespace Sys2Proof.Machine
open Sys2Proof

/-- A source operand of a vector instruction: its value, the checks of a stream, the register it reads or the stream
that it advances (R137, R138). -/
structure VOp where
  val : W512
  traps : List (Nat × W64) := []
  vsrc : List Nat := []
  str : List Bool := []
  acct : State → State := id

/-- A plain vector register. -/
def opV (k : Ctx) (f : BitVec 5) : VOp := { val := k.x.getV f.toNat, vsrc := [f.toNat] }

/-- A source field of the multiply-accumulate and floating-point classes: 30 and 31 name the streams (R137 to
R139). -/
def opS (k : Ctx) (f : BitVec 5) : VOp :=
  if f.toNat < 30 then opV k f
  else
    let n := decide (f.toNat = 31)
    let a := k.x.getSys (STA n)
    match k.u with
    | .eng d c p =>
      let (v, bad, acc) := readLocal k.s d c p a.toNat 64
      { val := BitVec.ofNat 512 v, str := [n], acct := acc,
        traps := chkAlign a 64 ++ chkLocal a 64 ++ (if bad ≠ 0 then [(13, a)] else []) }
    | _ => { val := 0 }

/-- Advance the streams that an instruction reads (R137), from the registers before the pair (R49). -/
def advance (k : Ctx) (l : List Bool) : State → State :=
  onUnit k.u fun x => l.foldl (fun y n => y.setSys (STA n) (k.x.getSys (STA n) + k.x.getSys (STS n))) x

/-- An instruction with its source operands: one stream named twice is illegal (R138); each stream uses a load port and
writes its STA (R161, R162). -/
def withOps (k : Ctx) (ops : List VOp) (o : SlotOut) : SlotOut :=
  let str := ops.flatMap (·.str)
  if 2 ≤ (str.filter (· == false)).length ∨ 2 ≤ (str.filter (· == true)).length then illegalOut k
  else
    let acc : State → State := fun s => ops.foldl (fun t p => p.acct t) s
    { o with
      traps := o.traps ++ ops.flatMap (·.traps), vsrc := o.vsrc ++ ops.flatMap (·.vsrc),
      sdst := o.sdst ++ str.map STA, rsrc := o.rsrc ++ str.map (fun n => .sys (STA n)) ++ str.map (fun n => .sys (STS n)),
      loads := o.loads + str.length, acct := acc,
      eff := fun s => advance k str (o.eff (acc s)) }

/-- Guard an instruction with the field values that it allows (R84, R147). -/
def legal (k : Ctx) (ok : Bool) (o : SlotOut) : SlotOut := if isEng k.u && ok then o else illegalOut k

/-- A result in a vector register with VSTAT flags. -/
def outV (k : Ctx) (vd : Nat) (v : W512) (fl : Nat) : SlotOut :=
  { vdst := [vd], eff := onUnit k.u fun x => (x.setV vd v).orFlags fl }

/-- Width and count of the elements of type t (R130). -/
def tw (t : BitVec 2) : Nat := match t.toNat with | 0 => 8 | 1 => 16 | _ => 32
def tn (t : BitVec 2) : Nat := match t.toNat with | 0 => 64 | 1 => 32 | _ => 16
/-- The same where C acts as two separate H elements (R148). -/
def hw (t : BitVec 2) : Nat := match t.toNat with | 0 => 8 | 1 => 16 | 2 => 32 | _ => 16
def hn (t : BitVec 2) : Nat := match t.toNat with | 0 => 64 | 1 => 32 | 2 => 16 | _ => 32

/-- The predicate bit that governs element e of type t (R131). -/
def gov (p : W32) (t : BitVec 2) (e : Nat) : Bool :=
  match t.toNat with
  | 0 => p.getLsbD (e / 2)
  | 1 => p.getLsbD e
  | _ => p.getLsbD (2 * e)

/-- The same where C acts as two separate H elements. -/
def govH (p : W32) (t : BitVec 2) (e : Nat) : Bool := if t = 3 then p.getLsbD (e / 2 * 2) else gov p t e

/-- Elements under a predicate: an element whose bit is 0 keeps its old value and sets no flag (R149); vd is then a source
(R133). (DEDUCED, unsafe: log entry 77.) -/
def outMasked (k : Ctx) (vd : BitVec 5) (w n : Nat) (en : Nat → Bool) (val : Nat → BitVec w) (fl : Nat → Nat) : SlotOut :=
  let old := k.x.getV vd.toNat
  { outV k vd.toNat (packV 512 w (fun e => if en e then val e else elem w old e) n)
      (flagsOf (fun e => if en e then fl e else 0) n) with
    vsrc := if (List.range n).all en then [] else [vd.toNat] }

/-- A VR instruction of two sources, on elements where C is two H elements. -/
def outVRH (k : Ctx) (r : FmtVR) (ok : Bool) (val : (w : Nat) → BitVec w → BitVec w → BitVec w)
    (fl : (w : Nat) → BitVec w → BitVec w → Nat) : SlotOut :=
  let a := opV k r.va
  let b := opV k r.vb
  let p := k.x.getP r.pg.toNat
  legal k ok (withOps k [a, b]
    { outMasked k r.vd (hw r.t) (hn r.t) (govH p r.t)
        (fun e => val (hw r.t) (elem (hw r.t) a.val e) (elem (hw r.t) b.val e))
        (fun e => fl (hw r.t) (elem (hw r.t) a.val e) (elem (hw r.t) b.val e)) with rsrc := [.p r.pg.toNat] })

def noFlag (w : Nat) (_ _ : BitVec w) : Nat := 0

def slotVnop (k : Ctx) (r : FmtVR) : SlotOut :=
  legal k (r.vd == 0 && r.va == 0 && r.vb == 0 && r.pg == 0 && r.t == 0) {}

def slotVadd (k : Ctx) (r : FmtVR) : SlotOut := outVRH k r true (fun _ a b => a + b) noFlag
def slotVsub (k : Ctx) (r : FmtVR) : SlotOut := outVRH k r true (fun _ a b => a - b) noFlag
def slotVadds (k : Ctx) (r : FmtVR) : SlotOut :=
  outVRH k r true (fun w a b => satW w (a.toInt + b.toInt)) (fun w a b => satF w (a.toInt + b.toInt))
def slotVsubs (k : Ctx) (r : FmtVR) : SlotOut :=
  outVRH k r true (fun w a b => satW w (a.toInt - b.toInt)) (fun w a b => satF w (a.toInt - b.toInt))
def slotVmin (k : Ctx) (r : FmtVR) : SlotOut :=
  outVRH k r (r.t != 3) (fun _ a b => if b.slt a then b else a) noFlag
def slotVmax (k : Ctx) (r : FmtVR) : SlotOut :=
  outVRH k r (r.t != 3) (fun _ a b => if a.slt b then b else a) noFlag

/-- A VR instruction of one source: vb must be 0. -/
def outVR1 (k : Ctx) (r : FmtVR) (ok : Bool) (x : (w : Nat) → BitVec w → Int) : SlotOut :=
  let a := opV k r.va
  let p := k.x.getP r.pg.toNat
  legal k (ok && r.vb == 0) (withOps k [a]
    { outMasked k r.vd (hw r.t) (hn r.t) (govH p r.t)
        (fun e => satW (hw r.t) (x (hw r.t) (elem (hw r.t) a.val e)))
        (fun e => satF (hw r.t) (x (hw r.t) (elem (hw r.t) a.val e))) with rsrc := [.p r.pg.toNat] })

def slotVabs (k : Ctx) (r : FmtVR) : SlotOut := outVR1 k r (r.t != 3) (fun _ a => a.toInt.natAbs)
def slotVneg (k : Ctx) (r : FmtVR) : SlotOut := outVR1 k r true (fun _ a => -a.toInt)
def slotVand (k : Ctx) (r : FmtVR) : SlotOut := outVRH k r (r.t == 0) (fun _ a b => a &&& b) noFlag
def slotVor (k : Ctx) (r : FmtVR) : SlotOut := outVRH k r (r.t == 0) (fun _ a b => a ||| b) noFlag
def slotVxor (k : Ctx) (r : FmtVR) : SlotOut := outVRH k r (r.t == 0) (fun _ a b => a ^^^ b) noFlag

/-- VSEL writes every element; pg is its selector (R149). -/
def slotVsel (k : Ctx) (r : FmtVR) : SlotOut :=
  let a := opV k r.va
  let b := opV k r.vb
  let p := k.x.getP r.pg.toNat
  let w := tw r.t
  legal k true (withOps k [a, b]
    { outV k r.vd.toNat (packV 512 w (fun e => if gov p r.t e then elem w a.val e else elem w b.val e) (tn r.t)) 0 with
      rsrc := [.p r.pg.toNat] })

/-- VCONJ: the imaginary part is the odd half of each element (R130). -/
def slotVconj (k : Ctx) (r : FmtVR) : SlotOut :=
  let a := opV k r.va
  let p := k.x.getP r.pg.toNat
  let h (e : Nat) : BitVec 16 := elem 16 a.val e
  legal k (r.t == 3) (withOps k [a]
    { outMasked k r.vd 16 32 (govH p r.t)
        (fun e => if e % 2 = 1 then satW 16 (-(h e).toInt) else h e)
        (fun e => if e % 2 = 1 then satF 16 (-(h e).toInt) else 0) with rsrc := [.p r.pg.toNat] })

/-- A VR instruction that moves whole elements, C as W (R148). -/
def outMove (k : Ctx) (r : FmtVR) (f : (w n : Nat) → W512 → W512 → Nat → BitVec w) : SlotOut :=
  let a := opV k r.va
  let b := opV k r.vb
  let p := k.x.getP r.pg.toNat
  legal k true (withOps k [a, b]
    { outMasked k r.vd (tw r.t) (tn r.t) (gov p r.t) (f (tw r.t) (tn r.t) a.val b.val) (fun _ => 0) with
      rsrc := [.p r.pg.toNat] })

def slotVperm (k : Ctx) (r : FmtVR) : SlotOut :=
  outMove k r (fun w n a b e => elem w a ((elem w b e).toNat % n))
def slotVzipl (k : Ctx) (r : FmtVR) : SlotOut :=
  outMove k r (fun w _ a b e => if e % 2 = 0 then elem w a (e / 2) else elem w b (e / 2))
def slotVziph (k : Ctx) (r : FmtVR) : SlotOut :=
  outMove k r (fun w n a b e => if e % 2 = 0 then elem w a (e / 2 + n / 2) else elem w b (e / 2 + n / 2))

/-- Element i of the pair va, vb (R148). -/
def pairElem (w n : Nat) (a b : W512) (i : Nat) : BitVec w := if i < n then elem w a i else elem w b (i - n)

def slotVuzpe (k : Ctx) (r : FmtVR) : SlotOut := outMove k r (fun w n a b e => pairElem w n a b (2 * e))
def slotVuzpo (k : Ctx) (r : FmtVR) : SlotOut := outMove k r (fun w n a b e => pairElem w n a b (2 * e + 1))

/-! Immediates (R150). -/

/-- A shift: the amount must lie below the element width. -/
def outVI (k : Ctx) (r : FmtVI) (val : (w : Nat) → BitVec w → BitVec w) (fl : (w : Nat) → BitVec w → Nat) : SlotOut :=
  let a := opV k r.va
  let w := hw r.t
  legal k (decide (r.imm.toNat < w)) (withOps k [a]
    (outV k r.vd.toNat (packV 512 w (fun e => val w (elem w a.val e)) (hn r.t))
      (flagsOf (fun e => fl w (elem w a.val e)) (hn r.t))))

def slotVshl (k : Ctx) (r : FmtVI) : SlotOut := outVI k r (fun _ a => a <<< r.imm.toNat) (fun _ _ => 0)
def slotVshls (k : Ctx) (r : FmtVI) : SlotOut :=
  outVI k r (fun w a => satW w (a.toInt * 2 ^ r.imm.toNat)) (fun w a => satF w (a.toInt * 2 ^ r.imm.toNat))
def slotVsra (k : Ctx) (r : FmtVI) : SlotOut :=
  outVI k r (fun w a => BitVec.ofInt w (rnd a.toInt r.imm.toNat 0)) (fun _ _ => 0)
def slotVsrar (k : Ctx) (r : FmtVI) : SlotOut :=
  outVI k r (fun w a => BitVec.ofInt w (rnd a.toInt r.imm.toNat 1)) (fun _ _ => 0)
def slotVsrl (k : Ctx) (r : FmtVI) : SlotOut := outVI k r (fun _ a => a >>> r.imm.toNat) (fun _ _ => 0)
def slotVsplat (k : Ctx) (r : FmtVI) : SlotOut :=
  legal k (r.va == 0) (outV k r.vd.toNat (packV 512 (tw r.t) (fun _ => r.imm.signExtend (tw r.t)) (tn r.t)) 0)

/-! Compares and predicates (R151). -/

/-- A result in a predicate: bits whose pg bit is 0 keep their value. -/
def outP (k : Ctx) (r : FmtVP) (v : W32) : SlotOut :=
  let p := k.x.getP r.pg.toNat
  { pdst := [r.pd.toNat], rsrc := [.p r.pg.toNat],
    eff := onUnit k.u (·.setP r.pd.toNat ((k.x.getP r.pd.toNat &&& ~~~p) ||| (v &&& p))) }

/-- The bits of a compare (R151). -/
def cmpBits (t : BitVec 2) (c : (w : Nat) → Nat → Bool) : W32 :=
  packV 32 1 (fun i => BitVec.ofBool (match t.toNat with
    | 0 => c 8 (2 * i) && c 8 (2 * i + 1)
    | 1 => c 16 i
    | _ => c 32 (i / 2))) 32

def outCmp (k : Ctx) (r : FmtVP) (f : (w : Nat) → BitVec w → BitVec w → Bool) : SlotOut :=
  let a := opV k r.va
  let b := opV k r.vb
  legal k (r.z == 0 && r.t != 3) (withOps k [a, b]
    (outP k r (cmpBits r.t (fun w i => f w (elem w a.val i) (elem w b.val i)))))

def slotVceq (k : Ctx) (r : FmtVP) : SlotOut := outCmp k r (fun _ a b => a == b)
def slotVclt (k : Ctx) (r : FmtVP) : SlotOut := outCmp k r (fun _ a b => a.slt b)
def slotVcle (k : Ctx) (r : FmtVP) : SlotOut := outCmp k r (fun _ a b => a.sle b)

/-- A predicate operation: pa and pb are the low three bits of va and vb. -/
def outPP (k : Ctx) (r : FmtVP) (ok : Bool) (src : List Nat) (v : W32) : SlotOut :=
  let o := outP k r v
  legal k (r.z == 0 && ok) { o with rsrc := o.rsrc ++ src.map .p }

def slotPand (k : Ctx) (r : FmtVP) : SlotOut :=
  outPP k r (r.t == 0 && decide (r.va.toNat < 8) && decide (r.vb.toNat < 8)) [r.va.toNat, r.vb.toNat]
    (k.x.getP r.va.toNat &&& k.x.getP r.vb.toNat)
def slotPor (k : Ctx) (r : FmtVP) : SlotOut :=
  outPP k r (r.t == 0 && decide (r.va.toNat < 8) && decide (r.vb.toNat < 8)) [r.va.toNat, r.vb.toNat]
    (k.x.getP r.va.toNat ||| k.x.getP r.vb.toNat)
def slotPnot (k : Ctx) (r : FmtVP) : SlotOut :=
  outPP k r (r.t != 3 && decide (r.va.toNat < 8) && r.vb == 0) [r.va.toNat] (~~~(k.x.getP r.va.toNat))

/-! Moves to and from general and predicate registers (R152). -/

/-- VBC takes t = 3 as 32-bit elements, as VEXT does and like VINS below. (DESIGN CHOICE, unsafe: log entry 87.) -/
def slotVbc (k : Ctx) (r : FmtVG) : SlotOut :=
  legal k (r.z == 0 && decide (r.lane.toNat < tn r.t))
    { outV k r.vd.toNat (packV 512 (tw r.t) (fun _ => (k.g r.va).setWidth (tw r.t)) (tn r.t)) 0 with
      gsrc := [r.va.toNat] }
def slotVext (k : Ctx) (r : FmtVG) : SlotOut :=
  let a := opV k r.va
  legal k (r.z == 0 && decide (r.lane.toNat < tn r.t)) (withOps k [a]
    { gdst := [r.vd.toNat],
      eff := onUnit k.u (·.setG r.vd.toNat ((elem (tw r.t) a.val r.lane.toNat).signExtend 64)) })
/-- VINS keeps the other elements of vd, which is a source (R133). (DEDUCED, unsafe: log entry 77.) It takes
t = 3 as VBC does (log entry 87). -/
def slotVins (k : Ctx) (r : FmtVG) : SlotOut :=
  let old := k.x.getV r.vd.toNat
  legal k (r.z == 0 && decide (r.lane.toNat < tn r.t))
    { outV k r.vd.toNat (packV 512 (tw r.t) (fun e => if e = r.lane.toNat then (k.g r.va).setWidth (tw r.t)
        else elem (tw r.t) old e) (tn r.t)) 0 with gsrc := [r.va.toNat], vsrc := [r.vd.toNat] }
def slotPfromg (k : Ctx) (r : FmtVG) : SlotOut :=
  legal k (r.z == 0 && r.lane == 0 && r.t == 0 && decide (r.vd.toNat < 8))
    { pdst := [r.vd.toNat], gsrc := [r.va.toNat], eff := onUnit k.u (·.setP r.vd.toNat ((k.g r.va).setWidth 32)) }
def slotPtog (k : Ctx) (r : FmtVG) : SlotOut :=
  legal k (r.z == 0 && r.lane == 0 && r.t == 0 && decide (r.va.toNat < 8))
    { gdst := [r.vd.toNat], rsrc := [.p r.va.toNat],
      eff := onUnit k.u (·.setG r.vd.toNat ((k.x.getP r.va.toNat).setWidth 64)) }

/-! Local memory (R153). -/

/-- The mark of loaded bytes (R133). -/
def loadMark (bad : Nat) (a : W64) : Mark := if bad = 0 then .none else .poison a

def slotVl (k : Ctx) (r : FmtVM) : SlotOut :=
  let a := addr13 (k.g r.ga) r.imm
  match k.u with
  | .eng d c p =>
    let (v, bad, acc) := readLocal k.s d c p a.toNat 64
    legal k (r.pg == 0)
      { traps := chkLocal a 64, gsrc := [r.ga.toNat], vdst := [r.vd.toNat],
        loads := if a.toNat % 64 = 0 then 1 else 2,
        eff := fun s => onUnit k.u (·.setVm r.vd.toNat (BitVec.ofNat 512 v) (loadMark bad a)) (acc s) }
  | _ => illegalOut k

def slotVl2 (k : Ctx) (r : FmtVM) : SlotOut :=
  let a := addr13 (k.g r.ga) r.imm
  match k.u with
  | .eng d c p =>
    let (v0, bad0, _) := readLocal k.s d c p a.toNat 64
    let (v1, bad1, _) := readLocal k.s d c p (a.toNat + 64) 64
    let l := lmemBase d c p + a.toNat
    let acc := fun s => integ2 s d 0 (engLogAddr k.s d c p) a.toNat 128 (k.s.mem.corrN l 128) (k.s.mem.badN l 128)
    legal k (r.pg == 0 && decide (r.vd.toNat % 2 = 0))
      { traps := chkAlign a 64 ++ chkLocal a 128, gsrc := [r.ga.toNat], vdst := [r.vd.toNat, r.vd.toNat + 1],
        loads := 2,
        eff := fun s => onUnit k.u (fun x => (x.setVm r.vd.toNat (BitVec.ofNat 512 v0) (loadMark bad0 a)).setVm
          (r.vd.toNat + 1) (BitVec.ofNat 512 v1) (loadMark bad1 a)) (acc s) }
  | _ => illegalOut k

/-- The bytes that VS writes: byte b under predicate bit ⌊b / 2⌋ (R131). VS has no element type: the model takes the rows of H
and B. (DESIGN CHOICE, unsafe: log entry 87.) -/
def byteSel (p : W32) : Nat := (packV 64 1 (fun b => BitVec.ofBool (p.getLsbD (b / 2))) 64).toNat

def slotVs (k : Ctx) (r : FmtVM) : SlotOut :=
  let a := addr13 (k.g r.ga) r.imm
  match k.u with
  | .eng d c p =>
    { traps := chkAlign a 64 ++ chkLocal a 64, gsrc := [r.ga.toNat], vsrc := [r.vd.toNat], rsrc := [.p r.pg.toNat],
      stores := 1,
      eff := fun s =>
        let sel := byteSel (k.x.getP r.pg.toNat)
        { s with mem := s.mem.writeMask (lmemBase d c p + a.toNat) 64 (k.x.getV r.vd.toNat).toNat sel } }
  | _ => illegalOut k

/-! Multiply-accumulate (R154). -/

/-- An accumulator result with VSTAT flags. -/
def outA (k : Ctx) (ad : Nat) (v : W1536) (fl : Nat) : SlotOut :=
  { adst := [ad], eff := onUnit k.u fun x => (x.setA ad v).orFlags fl }

/-- Add p to the 32 lanes of ad, or replace them when z is 1 (R142, R154). -/
def outMac (k : Ctx) (r : FmtVA) (p : Nat → Int) : SlotOut :=
  let ad := r.ad.toNat
  let acc := k.x.getA ad
  let sum (i : Nat) : Int :=
    (if r.z then 0 else (elem 48 acc i).toInt) + (if r.n then -(p i) else p i)
  { outA k ad (packV 1536 48 (fun i => lane48 (sum i)) 32) (flagsOf (fun i => aovF (sum i)) 32) with
    rsrc := if r.z then [] else [.a ad] }

def hI (v : W512) (i : Nat) : Int := (elem 16 v i).toInt
def bI (v : W512) (i : Nat) : Int := (elem 8 v i).toInt

def slotVmacH (k : Ctx) (r : FmtVA) : SlotOut :=
  let a := opS k r.va
  let b := opS k r.vb
  legal k (r.vc == 0 && r.j == 0) (withOps k [a, b] (outMac k r (fun i => hI a.val i * hI b.val i)))
def slotVmacbH (k : Ctx) (r : FmtVA) : SlotOut :=
  let a := opS k r.va
  let b := opS k r.vb
  let c := opS k r.vc
  let j := r.j.toNat
  legal k true (withOps k [a, b, c]
    (outMac k r (fun i => hI a.val i * hI c.val (2 * j) + hI b.val i * hI c.val (2 * j + 1))))
def slotVmacB (k : Ctx) (r : FmtVA) : SlotOut :=
  let a := opS k r.va
  let b := opS k r.vb
  legal k (r.vc == 0 && r.j == 0) (withOps k [a, b]
    (outMac k r (fun i => bI a.val (2 * i) * bI b.val (2 * i) + bI a.val (2 * i + 1) * bI b.val (2 * i + 1))))
def slotVmacbB (k : Ctx) (r : FmtVA) : SlotOut :=
  let a := opS k r.va
  let b := opS k r.vb
  let c := opS k r.vc
  let j := r.j.toNat
  legal k true (withOps k [a, b, c]
    (outMac k r (fun i => bI a.val (2 * i) * bI c.val (4 * j) + bI a.val (2 * i + 1) * bI c.val (4 * j + 1) +
      bI b.val (2 * i) * bI c.val (4 * j + 2) + bI b.val (2 * i + 1) * bI c.val (4 * j + 3))))

/-- A complex number of exact parts. -/
structure Cx where
  re : Int
  im : Int
  deriving DecidableEq, Repr

def cx (v : W512) (e : Nat) : Cx := ⟨hI v (2 * e), hI v (2 * e + 1)⟩
def Cx.conj (a : Cx) : Cx := ⟨a.re, -a.im⟩
def Cx.mul (a b : Cx) : Cx := ⟨a.re * b.re - a.im * b.im, a.re * b.im + a.im * b.re⟩
def Cx.add (a b : Cx) : Cx := ⟨a.re + b.re, a.im + b.im⟩
def Cx.sub (a b : Cx) : Cx := ⟨a.re - b.re, a.im - b.im⟩
/-- Multiplication by +j, or by −j. -/
def Cx.mulJ (plus : Bool) (a : Cx) : Cx := if plus then ⟨-a.im, a.re⟩ else ⟨a.im, -a.re⟩
/-- Part 0 is real, part 1 imaginary. -/
def Cx.part (a : Cx) (i : Nat) : Int := if i % 2 = 0 then a.re else a.im

/-- A complex accumulation: lanes 2k and 2k + 1 hold complex lane k (R132). -/
def outCmac (k : Ctx) (r : FmtVA) (p : Nat → Cx) : SlotOut := outMac k r (fun i => (p (i / 2)).part i)

def slotVcmac (k : Ctx) (r : FmtVA) : SlotOut :=
  let a := opS k r.va
  let b := opS k r.vb
  let w (e : Nat) : Cx := if r.j.getLsbD 0 then (cx b.val e).conj else cx b.val e
  let x (e : Nat) : Cx := if r.j.getLsbD 1 then (cx a.val e).conj else cx a.val e
  legal k (r.vc == 0 && decide (r.j.toNat < 4)) (withOps k [a, b] (outCmac k r (fun e => (x e).mul (w e))))
def slotVcmacb (k : Ctx) (r : FmtVA) : SlotOut :=
  let a := opS k r.va
  let b := opS k r.vb
  legal k (r.vc == 0) (withOps k [a, b] (outCmac k r (fun e => (cx a.val e).mul (cx b.val r.j.toNat))))
def slotVcmacbj (k : Ctx) (r : FmtVA) : SlotOut :=
  let a := opS k r.va
  let b := opS k r.vb
  legal k (r.vc == 0) (withOps k [a, b] (outCmac k r (fun e => (cx a.val e).mul (cx b.val r.j.toNat).conj)))

/-! Complex multiply and butterflies (R156). -/

/-- A complex int16 result register from its exact parts, rounded and saturated. -/
def outCx (k : Ctx) (vd : Nat) (sh : Nat) (rm : BitVec 2) (f : Nat → Cx) : SlotOut :=
  let part (i : Nat) : Int := rnd ((f (i / 2)).part i) sh rm
  outV k vd (packV 512 16 (fun i => satW 16 (part i)) 32) (flagsOf (fun i => satF 16 (part i)) 32)

def slotVcmulr (k : Ctx) (r : FmtVX) : SlotOut :=
  let a := opS k r.va
  let b := opS k r.vb
  let w (e : Nat) : Cx := if r.c then (cx b.val e).conj else cx b.val e
  legal k (r.sc == 0) (withOps k [a, b] (outCx k r.vd.toNat 15 r.rm (fun e => (cx a.val e).mul (w e))))

/-- Output q of the butterfly over elements 4m to 4m + 3 (R156). -/
def bf4 (v : W512) (plus : Bool) (m q : Nat) : Cx :=
  let x0 := cx v (4 * m)
  let x1 := cx v (4 * m + 1)
  let x2 := cx v (4 * m + 2)
  let x3 := cx v (4 * m + 3)
  match q with
  | 0 => ((x0.add x1).add x2).add x3
  | 1 => ((x0.add (x1.mulJ plus)).sub x2).sub (x3.mulJ plus)
  | 2 => ((x0.sub x1).add x2).sub x3
  | _ => ((x0.sub (x1.mulJ plus)).sub x2).add (x3.mulJ plus)

def slotVbf4 (k : Ctx) (r : FmtVX) : SlotOut :=
  let a := opS k r.va
  legal k (r.vb == 0 && r.sc != 3) (withOps k [a]
    (outCx k r.vd.toNat r.sc.toNat r.rm (fun e => bf4 a.val r.c (e / 4) (e % 4))))

/-! Accumulator output and moves (R157). -/

/-- Lane i, shifted and rounded. -/
def laneRnd (k : Ctx) (r : FmtVO) (i : Nat) : Int :=
  rnd (elem 48 (k.x.getA r.ad.toNat) i).toInt r.sh.toNat r.rm

def slotVoutH (k : Ctx) (r : FmtVO) : SlotOut :=
  legal k (r.z == 0 && decide (r.sh.toNat ≤ 47))
    { outV k r.vd.toNat (packV 512 16 (fun i => satW 16 (laneRnd k r i)) 32)
        (flagsOf (fun i => satF 16 (laneRnd k r i)) 32) with rsrc := [.a r.ad.toNat] }

def slotVoutW (k : Ctx) (r : FmtVO) : SlotOut :=
  let half (b : Nat) : W512 := packV 512 32 (fun i => satW 32 (laneRnd k r (b + i))) 16
  legal k (r.z == 0 && decide (r.sh.toNat ≤ 47) && decide (r.vd.toNat % 2 = 0))
    { vdst := [r.vd.toNat, r.vd.toNat + 1], rsrc := [.a r.ad.toNat],
      eff := onUnit k.u fun x => ((x.setV r.vd.toNat (half 0)).setV (r.vd.toNat + 1) (half 16)).orFlags
        (flagsOf (fun i => satF 32 (laneRnd k r i)) 32) }

/-- The part p of VAGET and VAPUT: sh [1:0], not 3, with sh [5:2] and rm zero. -/
def partOk (r : FmtVO) : Bool := r.z == 0 && decide (r.sh.toNat < 3) && r.rm == 0

def slotVaget (k : Ctx) (r : FmtVO) : SlotOut :=
  legal k (partOk r)
    { outV k r.vd.toNat (elem 512 (k.x.getA r.ad.toNat) r.sh.toNat) 0 with rsrc := [.a r.ad.toNat] }

def slotVaput (k : Ctx) (r : FmtVO) : SlotOut :=
  let a := opS k r.vd
  let acc := k.x.getA r.ad.toNat
  legal k (partOk r) (withOps k [a]
    { outA k r.ad.toNat (packV 1536 512 (fun i => if i = r.sh.toNat then a.val else elem 512 acc i) 3) 0 with
      rsrc := [.a r.ad.toNat] })

def slotVared (k : Ctx) (r : FmtVO) : SlotOut :=
  let acc := k.x.getA r.ad.toNat
  let lane (i : Nat) : Int := (elem 48 acc i).toInt
  let two := decide (r.sh.toNat = 1)
  let s0 : Int := if two then sumTo (fun i => lane (2 * i)) 16 else sumTo lane 32
  let s1 : Int := if two then sumTo (fun i => lane (2 * i + 1)) 16 else 0
  legal k (r.z == 0 && decide (r.sh.toNat ≤ 1) && r.rm == 0)
    { outA k r.ad.toNat (packV 1536 48 (fun i => if i = 0 then lane48 s0 else if i = 1 then lane48 s1 else 0) 32)
        (aovF s0 ||| aovF s1) with rsrc := [.a r.ad.toNat] }

/-! Floating point (R158). -/

/-- n elements of width w under a predicate, from value and flags. -/
def outF (k : Ctx) (r : FmtVF) (ops : List VOp) (w n : Nat) (en : Nat → Bool) (f : Nat → Nat × Nat) : SlotOut :=
  legal k (r.z == 0) (withOps k ops
    { outMasked k r.vd w n en (fun e => BitVec.ofNat w (f e).1) (fun e => (f e).2) with rsrc := [.p r.pg.toNat] })

def fF (v : W512) (e : Nat) : FVal := fread 24 (elem 32 v e).toNat
def fBF (v : W512) (e : Nat) : FVal := fread 8 (elem 16 v e).toNat

/-- A fused multiply-add into vd; vd is a source. -/
def outFma (k : Ctx) (r : FmtVF) (bf sub : Bool) : SlotOut :=
  let a := opS k r.va
  let b := opS k r.vb
  let c := opV k r.vd
  let p := k.x.getP r.pg.toNat
  if bf then outF k r [a, b, c] 16 32 (fun e => p.getLsbD e) (fun e => ffma 8 sub (fBF a.val e) (fBF b.val e) (fBF c.val e))
  else outF k r [a, b, c] 32 16 (fun e => p.getLsbD (2 * e)) (fun e => ffma 24 sub (fF a.val e) (fF b.val e) (fF c.val e))

def slotVfmaF (k : Ctx) (r : FmtVF) : SlotOut := outFma k r false false
def slotVfmsF (k : Ctx) (r : FmtVF) : SlotOut := outFma k r false true
def slotVfmaBf (k : Ctx) (r : FmtVF) : SlotOut := outFma k r true false
def slotVfmsBf (k : Ctx) (r : FmtVF) : SlotOut := outFma k r true true

/-- VFMAW.BF: bit i of the predicate governs element i of the pair, as for BF (R131). (DESIGN CHOICE, unsafe: log entry 62.) -/
def slotVfmawBf (k : Ctx) (r : FmtVF) : SlotOut :=
  let a := opS k r.va
  let b := opS k r.vb
  let lo := opV k r.vd
  let hi := opV k (r.vd + 1)
  let p := k.x.getP r.pg.toNat
  let old (i : Nat) : BitVec 32 := if i < 16 then elem 32 lo.val i else elem 32 hi.val (i - 16)
  let res (i : Nat) : Nat × Nat :=
    if p.getLsbD i then ffma 24 false (fBF a.val i) (fBF b.val i) (fread 24 (old i).toNat) else ((old i).toNat, 0)
  let half (o : Nat) : W512 := packV 512 32 (fun i => BitVec.ofNat 32 (res (o + i)).1) 16
  legal k (r.z == 0 && decide (r.vd.toNat % 2 = 0)) (withOps k [a, b, lo, hi]
    { vdst := [r.vd.toNat, r.vd.toNat + 1], rsrc := [.p r.pg.toNat],
      eff := onUnit k.u fun x => ((x.setV r.vd.toNat (half 0)).setV (r.vd.toNat + 1) (half 16)).orFlags
        (flagsOf (fun i => (res i).2) 32) })

def slotVfaddF (k : Ctx) (r : FmtVF) : SlotOut :=
  let a := opS k r.va
  let b := opS k r.vb
  let p := k.x.getP r.pg.toNat
  outF k r [a, b] 32 16 (fun e => p.getLsbD (2 * e)) (fun e => fadd 24 (fF a.val e) (fF b.val e))
def slotVfmulF (k : Ctx) (r : FmtVF) : SlotOut :=
  let a := opS k r.va
  let b := opS k r.vb
  let p := k.x.getP r.pg.toNat
  outF k r [a, b] 32 16 (fun e => p.getLsbD (2 * e)) (fun e => fmulR 24 (fF a.val e) (fF b.val e))
def slotVfcvtBf (k : Ctx) (r : FmtVF) : SlotOut :=
  let a := opS k r.va
  let b := opS k r.vb
  let p := k.x.getP r.pg.toNat
  outF k r [a, b] 16 32 (fun e => p.getLsbD e)
    (fun e => fone 8 (if e < 16 then fF a.val e else fF b.val (e - 16)))

/-! Min-sum (R159, R160). -/

/-- A lane of the min-sum view. -/
def msLane (min1 min2 idx par : Nat) : BitVec 24 :=
  BitVec.ofNat 24 (min1 % 128 + min2 % 128 * 2 ^ 7 + idx % 32 * 2 ^ 14 + par % 2 * 2 ^ 19)

def slotVmsa (k : Ctx) (r : FmtVN1) : SlotOut :=
  let a := opS k r.va
  let acc := k.x.getA r.ad.toNat
  let lane (i : Nat) : BitVec 24 :=
    let q := bI a.val i
    let mag := min q.natAbs 127
    let s := if q < 0 then 1 else 0
    let l := (elem 24 acc i).toNat
    let min1 := l % 128
    let min2 := l / 2 ^ 7 % 128
    let idx := l / 2 ^ 14 % 32
    let par := l / 2 ^ 19 % 2
    if r.f then msLane mag 127 r.e.toNat s
    else if mag < min1 then msLane mag min1 r.e.toNat (par ^^^ s)
    else if mag < min2 then msLane min1 mag idx (par ^^^ s)
    else msLane min1 min2 idx (par ^^^ s)
  legal k (r.z == 0) (withOps k [a]
    { outA k r.ad.toNat (packV 1536 24 lane 64) 0 with rsrc := if r.f then [] else [.a r.ad.toNat] })

def slotVmsr (k : Ctx) (r : FmtVN2) : SlotOut :=
  let a := opV k r.va
  let acc := k.x.getA r.ad.toNat
  let el (i : Nat) : BitVec 8 :=
    let l := (elem 24 acc i).toNat
    let mag := if l / 2 ^ 14 % 32 = r.e.toNat then l / 2 ^ 7 % 128 else l % 128
    let mag := if r.nm then 3 * mag / 4 else mag
    let mag : Int := (mag - r.beta.toNat : Nat)
    let sign := (l / 2 ^ 19 % 2) ^^^ (if bI a.val i < 0 then 1 else 0)
    BitVec.ofInt 8 (if sign = 1 then -mag else mag)
  legal k (r.z == 0) (withOps k [a]
    { outV k r.vd.toNat (packV 512 8 el 64) 0 with rsrc := [.a r.ad.toNat] })

end Sys2Proof.Machine
end

