-- ==== Sys2Proof/Machine/Pairs.lean ====
section
/-! DEFINITION. The commands of the instruction set: a row of the scalar slot and a row of the vector slot each issue
the pair that they make with the instruction of the other slot (R46 to R51). -/

namespace Sys2Proof.Machine
open Sys2Proof

/-- What an instruction of the scalar slot does. -/
def scalarSlot (k : Ctx) : SInstr → SlotOut
  | .add r => slotAdd k r
  | .sub r => slotSub k r
  | .and r => slotAnd k r
  | .or r => slotOr k r
  | .xor r => slotXor k r
  | .andn r => slotAndn k r
  | .shl r => slotShl k r
  | .shr r => slotShr k r
  | .sra r => slotSra k r
  | .ror r => slotRor k r
  | .slt r => slotSlt k r
  | .sltu r => slotSltu k r
  | .min r => slotMin k r
  | .max r => slotMax k r
  | .minu r => slotMinu k r
  | .maxu r => slotMaxu k r
  | .clz r => slotClz k r
  | .ctz r => slotCtz k r
  | .pop r => slotPop k r
  | .ext r => slotExt k r
  | .sel r => slotSel k r
  | .mul r => slotMul k r
  | .mulhs r => slotMulhs k r
  | .mulhu r => slotMulhu k r
  | .divs r => slotDivs k r
  | .divu r => slotDivu k r
  | .rems r => slotRems k r
  | .remu r => slotRemu k r
  | .addi r => slotAddi k r
  | .andi r => slotAndi k r
  | .ori r => slotOri k r
  | .xori r => slotXori k r
  | .slti r => slotSlti k r
  | .sltui r => slotSltui k r
  | .shi r => slotShi k r
  | .mvz r => slotMvz k r
  | .mvk r => slotMvk k r
  | .mvn r => slotMvn k r
  | .l r => slotL k r
  | .s r => slotS k r
  | .cl r => slotCl k r
  | .cs r => slotCs k r
  | .xl r => slotXl k r
  | .xs r => slotXs k r
  | .cat r => slotCat k r
  | .xat r => slotXat k r
  | .lkl r => slotLkl k r
  | .stu r => slotStu k r
  | .beq r => slotBeq k r
  | .bne r => slotBne k r
  | .blt r => slotBlt k r
  | .bge r => slotBge k r
  | .bltu r => slotBltu k r
  | .bgeu r => slotBgeu k r
  | .jl r => slotJl k r
  | .jr r => slotJr k r
  | .loop r => slotLoop k r
  | .loopi r => slotLoopi k r
  | .srd r => slotSrd k r
  | .swr r => slotSwr k r
  | .fence r => slotFence k r
  | .sys r => slotSys k r
  | .brk r => slotBrk k r
  | .rte r => slotRte k r
  | .halt r => slotHalt k r
  | .wev r => slotWev k r
  | .illegal _ => illegalOut k

/-- What an instruction of the vector slot does. -/
def vectorSlot (k : Ctx) : VInstr → SlotOut
  | .vnop r => slotVnop k r
  | .vadd r => slotVadd k r
  | .vsub r => slotVsub k r
  | .vadds r => slotVadds k r
  | .vsubs r => slotVsubs k r
  | .vmin r => slotVmin k r
  | .vmax r => slotVmax k r
  | .vabs r => slotVabs k r
  | .vneg r => slotVneg k r
  | .vand r => slotVand k r
  | .vor r => slotVor k r
  | .vxor r => slotVxor k r
  | .vsel r => slotVsel k r
  | .vconj r => slotVconj k r
  | .vperm r => slotVperm k r
  | .vzipl r => slotVzipl k r
  | .vziph r => slotVziph k r
  | .vuzpe r => slotVuzpe k r
  | .vuzpo r => slotVuzpo k r
  | .vshl r => slotVshl k r
  | .vshls r => slotVshls k r
  | .vsra r => slotVsra k r
  | .vsrar r => slotVsrar k r
  | .vsrl r => slotVsrl k r
  | .vsplat r => slotVsplat k r
  | .vceq r => slotVceq k r
  | .vclt r => slotVclt k r
  | .vcle r => slotVcle k r
  | .pand r => slotPand k r
  | .por r => slotPor k r
  | .pnot r => slotPnot k r
  | .vbc r => slotVbc k r
  | .vext r => slotVext k r
  | .vins r => slotVins k r
  | .pfromg r => slotPfromg k r
  | .ptog r => slotPtog k r
  | .vl r => slotVl k r
  | .vl2 r => slotVl2 k r
  | .vs r => slotVs k r
  | .vmacH r => slotVmacH k r
  | .vmacbH r => slotVmacbH k r
  | .vmacB r => slotVmacB k r
  | .vmacbB r => slotVmacbB k r
  | .vcmac r => slotVcmac k r
  | .vcmacb r => slotVcmacb k r
  | .vcmacbj r => slotVcmacbj k r
  | .vcmulr r => slotVcmulr k r
  | .vbf4 r => slotVbf4 k r
  | .voutH r => slotVoutH k r
  | .voutW r => slotVoutW k r
  | .vaget r => slotVaget k r
  | .vaput r => slotVaput k r
  | .vared r => slotVared k r
  | .vfmaF r => slotVfmaF k r
  | .vfmsF r => slotVfmsF k r
  | .vfmaBf r => slotVfmaBf k r
  | .vfmsBf r => slotVfmsBf k r
  | .vfmawBf r => slotVfmawBf k r
  | .vfaddF r => slotVfaddF k r
  | .vfmulF r => slotVfmulF k r
  | .vfcvtBf r => slotVfcvtBf k r
  | .vmsa r => slotVmsa k r
  | .vmsr r => slotVmsr k r
  | .illegal _ => illegalOut k

/-- Where the scalar instruction of a pair executes. -/
def scCtx (s : State) (u : UnitId) (i : SInstr) : Ctx := { s := s, u := u, w := scalarWord i }

/-- Where the vector instruction of a pair executes. -/
def vcCtx (s : State) (u : UnitId) (i : VInstr) : Ctx := { s := s, u := u, w := vectorWord i }

/-- The vector slot beside a scalar instruction: a core has none (R84). -/
def otherVec (s : State) (u : UnitId) (v : VInstr) : SlotOut :=
  if isEng u then vectorSlot (vcCtx s u v) v else {}

/-- The scalar slot beside a vector instruction: a core fetches the vector word alone (R84). -/
def otherSc (s : State) (u : UnitId) (x : SInstr) : SlotOut :=
  if isEng u then scalarSlot (scCtx s u x) x else {}

/-- A pair whose scalar instruction is WEV, and that still waits, is kept: the event that reaches the unit completes it
(R119, R681). -/
def keepWev (u : UnitId) (x : SInstr) (v : VInstr) (s t : State) : State :=
  match x with
  | .wev _ =>
    if canIssue t u && decide ((t.unit u).pc = (s.unit u).pc) && decide ((t.unit u).stall = 2) then
      onUnit u (fun y => { y with wev := some (x, v) }) t
    else t
  | _ => t

/-- Issue the pair of a scalar row. -/
def issueSc (u : UnitId) (x : SInstr) (v : VInstr) (a : SlotOut) (s : State) : State :=
  keepWev u x v s (issuePair (scCtx s u x) a (otherVec s u v))

/-- Issue the pair of a vector row. -/
def issueVc (u : UnitId) (x : SInstr) (v : VInstr) (b : SlotOut) (s : State) : State :=
  keepWev u x v s (issuePair (scCtx s u x) (otherSc s u x) b)


/-- ADD (R95). -/
def execAdd (u : UnitId) (r : FmtR) (v : VInstr) (s : State) : Host.Outcome State Fault Refusal :=
  .next (issueSc u (.add r) v (slotAdd (scCtx s u (.add r)) r) s)

/-- SUB (R95). -/
def execSub (u : UnitId) (r : FmtR) (v : VInstr) (s : State) : Host.Outcome State Fault Refusal :=
  .next (issueSc u (.sub r) v (slotSub (scCtx s u (.sub r)) r) s)

/-- AND (R95). -/
def execAnd (u : UnitId) (r : FmtR) (v : VInstr) (s : State) : Host.Outcome State Fault Refusal :=
  .next (issueSc u (.and r) v (slotAnd (scCtx s u (.and r)) r) s)

/-- OR (R95). -/
def execOr (u : UnitId) (r : FmtR) (v : VInstr) (s : State) : Host.Outcome State Fault Refusal :=
  .next (issueSc u (.or r) v (slotOr (scCtx s u (.or r)) r) s)

/-- XOR (R95). -/
def execXor (u : UnitId) (r : FmtR) (v : VInstr) (s : State) : Host.Outcome State Fault Refusal :=
  .next (issueSc u (.xor r) v (slotXor (scCtx s u (.xor r)) r) s)

/-- ANDN (R95). -/
def execAndn (u : UnitId) (r : FmtR) (v : VInstr) (s : State) : Host.Outcome State Fault Refusal :=
  .next (issueSc u (.andn r) v (slotAndn (scCtx s u (.andn r)) r) s)

/-- SHL (R95). -/
def execShl (u : UnitId) (r : FmtR) (v : VInstr) (s : State) : Host.Outcome State Fault Refusal :=
  .next (issueSc u (.shl r) v (slotShl (scCtx s u (.shl r)) r) s)

/-- SHR (R95). -/
def execShr (u : UnitId) (r : FmtR) (v : VInstr) (s : State) : Host.Outcome State Fault Refusal :=
  .next (issueSc u (.shr r) v (slotShr (scCtx s u (.shr r)) r) s)

/-- SRA (R95). -/
def execSra (u : UnitId) (r : FmtR) (v : VInstr) (s : State) : Host.Outcome State Fault Refusal :=
  .next (issueSc u (.sra r) v (slotSra (scCtx s u (.sra r)) r) s)

/-- ROR (R95). -/
def execRor (u : UnitId) (r : FmtR) (v : VInstr) (s : State) : Host.Outcome State Fault Refusal :=
  .next (issueSc u (.ror r) v (slotRor (scCtx s u (.ror r)) r) s)

/-- SLT (R95). -/
def execSlt (u : UnitId) (r : FmtR) (v : VInstr) (s : State) : Host.Outcome State Fault Refusal :=
  .next (issueSc u (.slt r) v (slotSlt (scCtx s u (.slt r)) r) s)

/-- SLTU (R95). -/
def execSltu (u : UnitId) (r : FmtR) (v : VInstr) (s : State) : Host.Outcome State Fault Refusal :=
  .next (issueSc u (.sltu r) v (slotSltu (scCtx s u (.sltu r)) r) s)

/-- MIN (R95). -/
def execMin (u : UnitId) (r : FmtR) (v : VInstr) (s : State) : Host.Outcome State Fault Refusal :=
  .next (issueSc u (.min r) v (slotMin (scCtx s u (.min r)) r) s)

/-- MAX (R95). -/
def execMax (u : UnitId) (r : FmtR) (v : VInstr) (s : State) : Host.Outcome State Fault Refusal :=
  .next (issueSc u (.max r) v (slotMax (scCtx s u (.max r)) r) s)

/-- MINU (R95). -/
def execMinu (u : UnitId) (r : FmtR) (v : VInstr) (s : State) : Host.Outcome State Fault Refusal :=
  .next (issueSc u (.minu r) v (slotMinu (scCtx s u (.minu r)) r) s)

/-- MAXU (R95). -/
def execMaxu (u : UnitId) (r : FmtR) (v : VInstr) (s : State) : Host.Outcome State Fault Refusal :=
  .next (issueSc u (.maxu r) v (slotMaxu (scCtx s u (.maxu r)) r) s)

/-- CLZ (R95). -/
def execClz (u : UnitId) (r : FmtR) (v : VInstr) (s : State) : Host.Outcome State Fault Refusal :=
  .next (issueSc u (.clz r) v (slotClz (scCtx s u (.clz r)) r) s)

/-- CTZ (R95). -/
def execCtz (u : UnitId) (r : FmtR) (v : VInstr) (s : State) : Host.Outcome State Fault Refusal :=
  .next (issueSc u (.ctz r) v (slotCtz (scCtx s u (.ctz r)) r) s)

/-- POP (R95). -/
def execPop (u : UnitId) (r : FmtR) (v : VInstr) (s : State) : Host.Outcome State Fault Refusal :=
  .next (issueSc u (.pop r) v (slotPop (scCtx s u (.pop r)) r) s)

/-- EXT (R95). -/
def execExt (u : UnitId) (r : FmtR) (v : VInstr) (s : State) : Host.Outcome State Fault Refusal :=
  .next (issueSc u (.ext r) v (slotExt (scCtx s u (.ext r)) r) s)

/-- SEL (R95). -/
def execSel (u : UnitId) (r : FmtR) (v : VInstr) (s : State) : Host.Outcome State Fault Refusal :=
  .next (issueSc u (.sel r) v (slotSel (scCtx s u (.sel r)) r) s)

/-- MUL (R95). -/
def execMul (u : UnitId) (r : FmtR) (v : VInstr) (s : State) : Host.Outcome State Fault Refusal :=
  .next (issueSc u (.mul r) v (slotMul (scCtx s u (.mul r)) r) s)

/-- MULHS (R95). -/
def execMulhs (u : UnitId) (r : FmtR) (v : VInstr) (s : State) : Host.Outcome State Fault Refusal :=
  .next (issueSc u (.mulhs r) v (slotMulhs (scCtx s u (.mulhs r)) r) s)

/-- MULHU (R95). -/
def execMulhu (u : UnitId) (r : FmtR) (v : VInstr) (s : State) : Host.Outcome State Fault Refusal :=
  .next (issueSc u (.mulhu r) v (slotMulhu (scCtx s u (.mulhu r)) r) s)

/-- DIVS (R96). -/
def execDivs (u : UnitId) (r : FmtR) (v : VInstr) (s : State) : Host.Outcome State Fault Refusal :=
  .next (issueSc u (.divs r) v (slotDivs (scCtx s u (.divs r)) r) s)

/-- DIVU (R96). -/
def execDivu (u : UnitId) (r : FmtR) (v : VInstr) (s : State) : Host.Outcome State Fault Refusal :=
  .next (issueSc u (.divu r) v (slotDivu (scCtx s u (.divu r)) r) s)

/-- REMS (R96). -/
def execRems (u : UnitId) (r : FmtR) (v : VInstr) (s : State) : Host.Outcome State Fault Refusal :=
  .next (issueSc u (.rems r) v (slotRems (scCtx s u (.rems r)) r) s)

/-- REMU (R96). -/
def execRemu (u : UnitId) (r : FmtR) (v : VInstr) (s : State) : Host.Outcome State Fault Refusal :=
  .next (issueSc u (.remu r) v (slotRemu (scCtx s u (.remu r)) r) s)

/-- ADDI (R97). -/
def execAddi (u : UnitId) (r : FmtI) (v : VInstr) (s : State) : Host.Outcome State Fault Refusal :=
  .next (issueSc u (.addi r) v (slotAddi (scCtx s u (.addi r)) r) s)

/-- ANDI (R97). -/
def execAndi (u : UnitId) (r : FmtI) (v : VInstr) (s : State) : Host.Outcome State Fault Refusal :=
  .next (issueSc u (.andi r) v (slotAndi (scCtx s u (.andi r)) r) s)

/-- ORI (R97). -/
def execOri (u : UnitId) (r : FmtI) (v : VInstr) (s : State) : Host.Outcome State Fault Refusal :=
  .next (issueSc u (.ori r) v (slotOri (scCtx s u (.ori r)) r) s)

/-- XORI (R97). -/
def execXori (u : UnitId) (r : FmtI) (v : VInstr) (s : State) : Host.Outcome State Fault Refusal :=
  .next (issueSc u (.xori r) v (slotXori (scCtx s u (.xori r)) r) s)

/-- SLTI (R97). -/
def execSlti (u : UnitId) (r : FmtI) (v : VInstr) (s : State) : Host.Outcome State Fault Refusal :=
  .next (issueSc u (.slti r) v (slotSlti (scCtx s u (.slti r)) r) s)

/-- SLTUI (R97). -/
def execSltui (u : UnitId) (r : FmtI) (v : VInstr) (s : State) : Host.Outcome State Fault Refusal :=
  .next (issueSc u (.sltui r) v (slotSltui (scCtx s u (.sltui r)) r) s)

/-- SHI (R97). -/
def execShi (u : UnitId) (r : FmtI) (v : VInstr) (s : State) : Host.Outcome State Fault Refusal :=
  .next (issueSc u (.shi r) v (slotShi (scCtx s u (.shi r)) r) s)

/-- MVZ (R97). -/
def execMvz (u : UnitId) (r : FmtK) (v : VInstr) (s : State) : Host.Outcome State Fault Refusal :=
  .next (issueSc u (.mvz r) v (slotMvz (scCtx s u (.mvz r)) r) s)

/-- MVK (R97). -/
def execMvk (u : UnitId) (r : FmtK) (v : VInstr) (s : State) : Host.Outcome State Fault Refusal :=
  .next (issueSc u (.mvk r) v (slotMvk (scCtx s u (.mvk r)) r) s)

/-- MVN (R97). -/
def execMvn (u : UnitId) (r : FmtK) (v : VInstr) (s : State) : Host.Outcome State Fault Refusal :=
  .next (issueSc u (.mvn r) v (slotMvn (scCtx s u (.mvn r)) r) s)

/-- L (R98). -/
def execL (u : UnitId) (r : FmtM) (v : VInstr) (s : State) : Host.Outcome State Fault Refusal :=
  .next (issueSc u (.l r) v (slotL (scCtx s u (.l r)) r) s)

/-- S (R98). -/
def execS (u : UnitId) (r : FmtM) (v : VInstr) (s : State) : Host.Outcome State Fault Refusal :=
  .next (issueSc u (.s r) v (slotS (scCtx s u (.s r)) r) s)

/-- CL (R98). -/
def execCl (u : UnitId) (r : FmtM) (v : VInstr) (s : State) : Host.Outcome State Fault Refusal :=
  .next (issueSc u (.cl r) v (slotCl (scCtx s u (.cl r)) r) s)

/-- CS (R98). -/
def execCs (u : UnitId) (r : FmtM) (v : VInstr) (s : State) : Host.Outcome State Fault Refusal :=
  .next (issueSc u (.cs r) v (slotCs (scCtx s u (.cs r)) r) s)

/-- XL (R100). -/
def execXl (u : UnitId) (r : FmtM) (v : VInstr) (s : State) : Host.Outcome State Fault Refusal :=
  .next (issueSc u (.xl r) v (slotXl (scCtx s u (.xl r)) r) s)

/-- XS (R100). -/
def execXs (u : UnitId) (r : FmtM) (v : VInstr) (s : State) : Host.Outcome State Fault Refusal :=
  .next (issueSc u (.xs r) v (slotXs (scCtx s u (.xs r)) r) s)

/-- CAT (R103). -/
def execCat (u : UnitId) (r : FmtA) (v : VInstr) (s : State) : Host.Outcome State Fault Refusal :=
  .next (issueSc u (.cat r) v (slotCat (scCtx s u (.cat r)) r) s)

/-- XAT (R104). -/
def execXat (u : UnitId) (r : FmtA) (v : VInstr) (s : State) : Host.Outcome State Fault Refusal :=
  .next (issueSc u (.xat r) v (slotXat (scCtx s u (.xat r)) r) s)

/-- LKL (R105). -/
def execLkl (u : UnitId) (r : FmtA) (v : VInstr) (s : State) : Host.Outcome State Fault Refusal :=
  .next (issueSc u (.lkl r) v (slotLkl (scCtx s u (.lkl r)) r) s)

/-- STU (R106). -/
def execStu (u : UnitId) (r : FmtA) (v : VInstr) (s : State) : Host.Outcome State Fault Refusal :=
  .next (issueSc u (.stu r) v (slotStu (scCtx s u (.stu r)) r) s)

/-- BEQ (R111). -/
def execBeq (u : UnitId) (r : FmtB) (v : VInstr) (s : State) : Host.Outcome State Fault Refusal :=
  .next (issueSc u (.beq r) v (slotBeq (scCtx s u (.beq r)) r) s)

/-- BNE (R111). -/
def execBne (u : UnitId) (r : FmtB) (v : VInstr) (s : State) : Host.Outcome State Fault Refusal :=
  .next (issueSc u (.bne r) v (slotBne (scCtx s u (.bne r)) r) s)

/-- BLT (R111). -/
def execBlt (u : UnitId) (r : FmtB) (v : VInstr) (s : State) : Host.Outcome State Fault Refusal :=
  .next (issueSc u (.blt r) v (slotBlt (scCtx s u (.blt r)) r) s)

/-- BGE (R111). -/
def execBge (u : UnitId) (r : FmtB) (v : VInstr) (s : State) : Host.Outcome State Fault Refusal :=
  .next (issueSc u (.bge r) v (slotBge (scCtx s u (.bge r)) r) s)

/-- BLTU (R111). -/
def execBltu (u : UnitId) (r : FmtB) (v : VInstr) (s : State) : Host.Outcome State Fault Refusal :=
  .next (issueSc u (.bltu r) v (slotBltu (scCtx s u (.bltu r)) r) s)

/-- BGEU (R111). -/
def execBgeu (u : UnitId) (r : FmtB) (v : VInstr) (s : State) : Host.Outcome State Fault Refusal :=
  .next (issueSc u (.bgeu r) v (slotBgeu (scCtx s u (.bgeu r)) r) s)

/-- JL (R111). -/
def execJl (u : UnitId) (r : FmtJ) (v : VInstr) (s : State) : Host.Outcome State Fault Refusal :=
  .next (issueSc u (.jl r) v (slotJl (scCtx s u (.jl r)) r) s)

/-- JR (R112). -/
def execJr (u : UnitId) (r : FmtI) (v : VInstr) (s : State) : Host.Outcome State Fault Refusal :=
  .next (issueSc u (.jr r) v (slotJr (scCtx s u (.jr r)) r) s)

/-- LOOP (R113). -/
def execLoop (u : UnitId) (r : FmtL) (v : VInstr) (s : State) : Host.Outcome State Fault Refusal :=
  .next (issueSc u (.loop r) v (slotLoop (scCtx s u (.loop r)) r) s)

/-- LOOPI (R113). -/
def execLoopi (u : UnitId) (r : FmtLI) (v : VInstr) (s : State) : Host.Outcome State Fault Refusal :=
  .next (issueSc u (.loopi r) v (slotLoopi (scCtx s u (.loopi r)) r) s)

/-- SRD (R119). -/
def execSrd (u : UnitId) (r : FmtY) (v : VInstr) (s : State) : Host.Outcome State Fault Refusal :=
  .next (issueSc u (.srd r) v (slotSrd (scCtx s u (.srd r)) r) s)

/-- SWR (R120). -/
def execSwr (u : UnitId) (r : FmtY) (v : VInstr) (s : State) : Host.Outcome State Fault Refusal :=
  .next (issueSc u (.swr r) v (slotSwr (scCtx s u (.swr r)) r) s)

/-- FENCE (R116). -/
def execFence (u : UnitId) (r : FmtY) (v : VInstr) (s : State) : Host.Outcome State Fault Refusal :=
  .next (issueSc u (.fence r) v (slotFence (scCtx s u (.fence r)) r) s)

/-- SYS (R119). -/
def execSys (u : UnitId) (r : FmtY) (v : VInstr) (s : State) : Host.Outcome State Fault Refusal :=
  .next (issueSc u (.sys r) v (slotSys (scCtx s u (.sys r)) r) s)

/-- BRK (R119). -/
def execBrk (u : UnitId) (r : FmtY) (v : VInstr) (s : State) : Host.Outcome State Fault Refusal :=
  .next (issueSc u (.brk r) v (slotBrk (scCtx s u (.brk r)) r) s)

/-- RTE (R124). -/
def execRte (u : UnitId) (r : FmtY) (v : VInstr) (s : State) : Host.Outcome State Fault Refusal :=
  .next (issueSc u (.rte r) v (slotRte (scCtx s u (.rte r)) r) s)

/-- HALT (R72). -/
def execHalt (u : UnitId) (r : FmtY) (v : VInstr) (s : State) : Host.Outcome State Fault Refusal :=
  .next (issueSc u (.halt r) v (slotHalt (scCtx s u (.halt r)) r) s)

/-- WEV (R119). -/
def execWev (u : UnitId) (r : FmtY) (v : VInstr) (s : State) : Host.Outcome State Fault Refusal :=
  .next (issueSc u (.wev r) v (slotWev (scCtx s u (.wev r)) r) s)

/-- VNOP (R148). -/
def execVnop (u : UnitId) (r : FmtVR) (x : SInstr) (s : State) : Host.Outcome State Fault Refusal :=
  .next (issueVc u x (.vnop r) (slotVnop (vcCtx s u (.vnop r)) r) s)

/-- VADD (R148). -/
def execVadd (u : UnitId) (r : FmtVR) (x : SInstr) (s : State) : Host.Outcome State Fault Refusal :=
  .next (issueVc u x (.vadd r) (slotVadd (vcCtx s u (.vadd r)) r) s)

/-- VSUB (R148). -/
def execVsub (u : UnitId) (r : FmtVR) (x : SInstr) (s : State) : Host.Outcome State Fault Refusal :=
  .next (issueVc u x (.vsub r) (slotVsub (vcCtx s u (.vsub r)) r) s)

/-- VADDS (R148). -/
def execVadds (u : UnitId) (r : FmtVR) (x : SInstr) (s : State) : Host.Outcome State Fault Refusal :=
  .next (issueVc u x (.vadds r) (slotVadds (vcCtx s u (.vadds r)) r) s)

/-- VSUBS (R148). -/
def execVsubs (u : UnitId) (r : FmtVR) (x : SInstr) (s : State) : Host.Outcome State Fault Refusal :=
  .next (issueVc u x (.vsubs r) (slotVsubs (vcCtx s u (.vsubs r)) r) s)

/-- VMIN (R148). -/
def execVmin (u : UnitId) (r : FmtVR) (x : SInstr) (s : State) : Host.Outcome State Fault Refusal :=
  .next (issueVc u x (.vmin r) (slotVmin (vcCtx s u (.vmin r)) r) s)

/-- VMAX (R148). -/
def execVmax (u : UnitId) (r : FmtVR) (x : SInstr) (s : State) : Host.Outcome State Fault Refusal :=
  .next (issueVc u x (.vmax r) (slotVmax (vcCtx s u (.vmax r)) r) s)

/-- VABS (R148). -/
def execVabs (u : UnitId) (r : FmtVR) (x : SInstr) (s : State) : Host.Outcome State Fault Refusal :=
  .next (issueVc u x (.vabs r) (slotVabs (vcCtx s u (.vabs r)) r) s)

/-- VNEG (R148). -/
def execVneg (u : UnitId) (r : FmtVR) (x : SInstr) (s : State) : Host.Outcome State Fault Refusal :=
  .next (issueVc u x (.vneg r) (slotVneg (vcCtx s u (.vneg r)) r) s)

/-- VAND (R148). -/
def execVand (u : UnitId) (r : FmtVR) (x : SInstr) (s : State) : Host.Outcome State Fault Refusal :=
  .next (issueVc u x (.vand r) (slotVand (vcCtx s u (.vand r)) r) s)

/-- VOR (R148). -/
def execVor (u : UnitId) (r : FmtVR) (x : SInstr) (s : State) : Host.Outcome State Fault Refusal :=
  .next (issueVc u x (.vor r) (slotVor (vcCtx s u (.vor r)) r) s)

/-- VXOR (R148). -/
def execVxor (u : UnitId) (r : FmtVR) (x : SInstr) (s : State) : Host.Outcome State Fault Refusal :=
  .next (issueVc u x (.vxor r) (slotVxor (vcCtx s u (.vxor r)) r) s)

/-- VSEL (R148). -/
def execVsel (u : UnitId) (r : FmtVR) (x : SInstr) (s : State) : Host.Outcome State Fault Refusal :=
  .next (issueVc u x (.vsel r) (slotVsel (vcCtx s u (.vsel r)) r) s)

/-- VCONJ (R148). -/
def execVconj (u : UnitId) (r : FmtVR) (x : SInstr) (s : State) : Host.Outcome State Fault Refusal :=
  .next (issueVc u x (.vconj r) (slotVconj (vcCtx s u (.vconj r)) r) s)

/-- VPERM (R148). -/
def execVperm (u : UnitId) (r : FmtVR) (x : SInstr) (s : State) : Host.Outcome State Fault Refusal :=
  .next (issueVc u x (.vperm r) (slotVperm (vcCtx s u (.vperm r)) r) s)

/-- VZIPL (R148). -/
def execVzipl (u : UnitId) (r : FmtVR) (x : SInstr) (s : State) : Host.Outcome State Fault Refusal :=
  .next (issueVc u x (.vzipl r) (slotVzipl (vcCtx s u (.vzipl r)) r) s)

/-- VZIPH (R148). -/
def execVziph (u : UnitId) (r : FmtVR) (x : SInstr) (s : State) : Host.Outcome State Fault Refusal :=
  .next (issueVc u x (.vziph r) (slotVziph (vcCtx s u (.vziph r)) r) s)

/-- VUZPE (R148). -/
def execVuzpe (u : UnitId) (r : FmtVR) (x : SInstr) (s : State) : Host.Outcome State Fault Refusal :=
  .next (issueVc u x (.vuzpe r) (slotVuzpe (vcCtx s u (.vuzpe r)) r) s)

/-- VUZPO (R148). -/
def execVuzpo (u : UnitId) (r : FmtVR) (x : SInstr) (s : State) : Host.Outcome State Fault Refusal :=
  .next (issueVc u x (.vuzpo r) (slotVuzpo (vcCtx s u (.vuzpo r)) r) s)

/-- VSHL (R150). -/
def execVshl (u : UnitId) (r : FmtVI) (x : SInstr) (s : State) : Host.Outcome State Fault Refusal :=
  .next (issueVc u x (.vshl r) (slotVshl (vcCtx s u (.vshl r)) r) s)

/-- VSHLS (R150). -/
def execVshls (u : UnitId) (r : FmtVI) (x : SInstr) (s : State) : Host.Outcome State Fault Refusal :=
  .next (issueVc u x (.vshls r) (slotVshls (vcCtx s u (.vshls r)) r) s)

/-- VSRA (R150). -/
def execVsra (u : UnitId) (r : FmtVI) (x : SInstr) (s : State) : Host.Outcome State Fault Refusal :=
  .next (issueVc u x (.vsra r) (slotVsra (vcCtx s u (.vsra r)) r) s)

/-- VSRAR (R150). -/
def execVsrar (u : UnitId) (r : FmtVI) (x : SInstr) (s : State) : Host.Outcome State Fault Refusal :=
  .next (issueVc u x (.vsrar r) (slotVsrar (vcCtx s u (.vsrar r)) r) s)

/-- VSRL (R150). -/
def execVsrl (u : UnitId) (r : FmtVI) (x : SInstr) (s : State) : Host.Outcome State Fault Refusal :=
  .next (issueVc u x (.vsrl r) (slotVsrl (vcCtx s u (.vsrl r)) r) s)

/-- VSPLAT (R150). -/
def execVsplat (u : UnitId) (r : FmtVI) (x : SInstr) (s : State) : Host.Outcome State Fault Refusal :=
  .next (issueVc u x (.vsplat r) (slotVsplat (vcCtx s u (.vsplat r)) r) s)

/-- VCEQ (R151). -/
def execVceq (u : UnitId) (r : FmtVP) (x : SInstr) (s : State) : Host.Outcome State Fault Refusal :=
  .next (issueVc u x (.vceq r) (slotVceq (vcCtx s u (.vceq r)) r) s)

/-- VCLT (R151). -/
def execVclt (u : UnitId) (r : FmtVP) (x : SInstr) (s : State) : Host.Outcome State Fault Refusal :=
  .next (issueVc u x (.vclt r) (slotVclt (vcCtx s u (.vclt r)) r) s)

/-- VCLE (R151). -/
def execVcle (u : UnitId) (r : FmtVP) (x : SInstr) (s : State) : Host.Outcome State Fault Refusal :=
  .next (issueVc u x (.vcle r) (slotVcle (vcCtx s u (.vcle r)) r) s)

/-- PAND (R151). -/
def execPand (u : UnitId) (r : FmtVP) (x : SInstr) (s : State) : Host.Outcome State Fault Refusal :=
  .next (issueVc u x (.pand r) (slotPand (vcCtx s u (.pand r)) r) s)

/-- POR (R151). -/
def execPor (u : UnitId) (r : FmtVP) (x : SInstr) (s : State) : Host.Outcome State Fault Refusal :=
  .next (issueVc u x (.por r) (slotPor (vcCtx s u (.por r)) r) s)

/-- PNOT (R151). -/
def execPnot (u : UnitId) (r : FmtVP) (x : SInstr) (s : State) : Host.Outcome State Fault Refusal :=
  .next (issueVc u x (.pnot r) (slotPnot (vcCtx s u (.pnot r)) r) s)

/-- VBC (R152). -/
def execVbc (u : UnitId) (r : FmtVG) (x : SInstr) (s : State) : Host.Outcome State Fault Refusal :=
  .next (issueVc u x (.vbc r) (slotVbc (vcCtx s u (.vbc r)) r) s)

/-- VEXT (R152). -/
def execVext (u : UnitId) (r : FmtVG) (x : SInstr) (s : State) : Host.Outcome State Fault Refusal :=
  .next (issueVc u x (.vext r) (slotVext (vcCtx s u (.vext r)) r) s)

/-- VINS (R152). -/
def execVins (u : UnitId) (r : FmtVG) (x : SInstr) (s : State) : Host.Outcome State Fault Refusal :=
  .next (issueVc u x (.vins r) (slotVins (vcCtx s u (.vins r)) r) s)

/-- PFROMG (R152). -/
def execPfromg (u : UnitId) (r : FmtVG) (x : SInstr) (s : State) : Host.Outcome State Fault Refusal :=
  .next (issueVc u x (.pfromg r) (slotPfromg (vcCtx s u (.pfromg r)) r) s)

/-- PTOG (R152). -/
def execPtog (u : UnitId) (r : FmtVG) (x : SInstr) (s : State) : Host.Outcome State Fault Refusal :=
  .next (issueVc u x (.ptog r) (slotPtog (vcCtx s u (.ptog r)) r) s)

/-- VL (R153). -/
def execVl (u : UnitId) (r : FmtVM) (x : SInstr) (s : State) : Host.Outcome State Fault Refusal :=
  .next (issueVc u x (.vl r) (slotVl (vcCtx s u (.vl r)) r) s)

/-- VL2 (R153). -/
def execVl2 (u : UnitId) (r : FmtVM) (x : SInstr) (s : State) : Host.Outcome State Fault Refusal :=
  .next (issueVc u x (.vl2 r) (slotVl2 (vcCtx s u (.vl2 r)) r) s)

/-- VS (R153). -/
def execVs (u : UnitId) (r : FmtVM) (x : SInstr) (s : State) : Host.Outcome State Fault Refusal :=
  .next (issueVc u x (.vs r) (slotVs (vcCtx s u (.vs r)) r) s)

/-- VMAC_H (R154). -/
def execVmacH (u : UnitId) (r : FmtVA) (x : SInstr) (s : State) : Host.Outcome State Fault Refusal :=
  .next (issueVc u x (.vmacH r) (slotVmacH (vcCtx s u (.vmacH r)) r) s)

/-- VMACB_H (R154). -/
def execVmacbH (u : UnitId) (r : FmtVA) (x : SInstr) (s : State) : Host.Outcome State Fault Refusal :=
  .next (issueVc u x (.vmacbH r) (slotVmacbH (vcCtx s u (.vmacbH r)) r) s)

/-- VMAC_B (R154). -/
def execVmacB (u : UnitId) (r : FmtVA) (x : SInstr) (s : State) : Host.Outcome State Fault Refusal :=
  .next (issueVc u x (.vmacB r) (slotVmacB (vcCtx s u (.vmacB r)) r) s)

/-- VMACB_B (R154). -/
def execVmacbB (u : UnitId) (r : FmtVA) (x : SInstr) (s : State) : Host.Outcome State Fault Refusal :=
  .next (issueVc u x (.vmacbB r) (slotVmacbB (vcCtx s u (.vmacbB r)) r) s)

/-- VCMAC (R154). -/
def execVcmac (u : UnitId) (r : FmtVA) (x : SInstr) (s : State) : Host.Outcome State Fault Refusal :=
  .next (issueVc u x (.vcmac r) (slotVcmac (vcCtx s u (.vcmac r)) r) s)

/-- VCMACB (R154). -/
def execVcmacb (u : UnitId) (r : FmtVA) (x : SInstr) (s : State) : Host.Outcome State Fault Refusal :=
  .next (issueVc u x (.vcmacb r) (slotVcmacb (vcCtx s u (.vcmacb r)) r) s)

/-- VCMACBJ (R154). -/
def execVcmacbj (u : UnitId) (r : FmtVA) (x : SInstr) (s : State) : Host.Outcome State Fault Refusal :=
  .next (issueVc u x (.vcmacbj r) (slotVcmacbj (vcCtx s u (.vcmacbj r)) r) s)

/-- VCMULR (R156). -/
def execVcmulr (u : UnitId) (r : FmtVX) (x : SInstr) (s : State) : Host.Outcome State Fault Refusal :=
  .next (issueVc u x (.vcmulr r) (slotVcmulr (vcCtx s u (.vcmulr r)) r) s)

/-- VBF4 (R156). -/
def execVbf4 (u : UnitId) (r : FmtVX) (x : SInstr) (s : State) : Host.Outcome State Fault Refusal :=
  .next (issueVc u x (.vbf4 r) (slotVbf4 (vcCtx s u (.vbf4 r)) r) s)

/-- VOUT_H (R157). -/
def execVoutH (u : UnitId) (r : FmtVO) (x : SInstr) (s : State) : Host.Outcome State Fault Refusal :=
  .next (issueVc u x (.voutH r) (slotVoutH (vcCtx s u (.voutH r)) r) s)

/-- VOUT_W (R157). -/
def execVoutW (u : UnitId) (r : FmtVO) (x : SInstr) (s : State) : Host.Outcome State Fault Refusal :=
  .next (issueVc u x (.voutW r) (slotVoutW (vcCtx s u (.voutW r)) r) s)

/-- VAGET (R157). -/
def execVaget (u : UnitId) (r : FmtVO) (x : SInstr) (s : State) : Host.Outcome State Fault Refusal :=
  .next (issueVc u x (.vaget r) (slotVaget (vcCtx s u (.vaget r)) r) s)

/-- VAPUT (R157). -/
def execVaput (u : UnitId) (r : FmtVO) (x : SInstr) (s : State) : Host.Outcome State Fault Refusal :=
  .next (issueVc u x (.vaput r) (slotVaput (vcCtx s u (.vaput r)) r) s)

/-- VARED (R157). -/
def execVared (u : UnitId) (r : FmtVO) (x : SInstr) (s : State) : Host.Outcome State Fault Refusal :=
  .next (issueVc u x (.vared r) (slotVared (vcCtx s u (.vared r)) r) s)

/-- VFMA_F (R158). -/
def execVfmaF (u : UnitId) (r : FmtVF) (x : SInstr) (s : State) : Host.Outcome State Fault Refusal :=
  .next (issueVc u x (.vfmaF r) (slotVfmaF (vcCtx s u (.vfmaF r)) r) s)

/-- VFMS_F (R158). -/
def execVfmsF (u : UnitId) (r : FmtVF) (x : SInstr) (s : State) : Host.Outcome State Fault Refusal :=
  .next (issueVc u x (.vfmsF r) (slotVfmsF (vcCtx s u (.vfmsF r)) r) s)

/-- VFMA_BF (R158). -/
def execVfmaBf (u : UnitId) (r : FmtVF) (x : SInstr) (s : State) : Host.Outcome State Fault Refusal :=
  .next (issueVc u x (.vfmaBf r) (slotVfmaBf (vcCtx s u (.vfmaBf r)) r) s)

/-- VFMS_BF (R158). -/
def execVfmsBf (u : UnitId) (r : FmtVF) (x : SInstr) (s : State) : Host.Outcome State Fault Refusal :=
  .next (issueVc u x (.vfmsBf r) (slotVfmsBf (vcCtx s u (.vfmsBf r)) r) s)

/-- VFMAW_BF (R158). -/
def execVfmawBf (u : UnitId) (r : FmtVF) (x : SInstr) (s : State) : Host.Outcome State Fault Refusal :=
  .next (issueVc u x (.vfmawBf r) (slotVfmawBf (vcCtx s u (.vfmawBf r)) r) s)

/-- VFADD_F (R158). -/
def execVfaddF (u : UnitId) (r : FmtVF) (x : SInstr) (s : State) : Host.Outcome State Fault Refusal :=
  .next (issueVc u x (.vfaddF r) (slotVfaddF (vcCtx s u (.vfaddF r)) r) s)

/-- VFMUL_F (R158). -/
def execVfmulF (u : UnitId) (r : FmtVF) (x : SInstr) (s : State) : Host.Outcome State Fault Refusal :=
  .next (issueVc u x (.vfmulF r) (slotVfmulF (vcCtx s u (.vfmulF r)) r) s)

/-- VFCVT_BF (R158). -/
def execVfcvtBf (u : UnitId) (r : FmtVF) (x : SInstr) (s : State) : Host.Outcome State Fault Refusal :=
  .next (issueVc u x (.vfcvtBf r) (slotVfcvtBf (vcCtx s u (.vfcvtBf r)) r) s)

/-- VMSA (R160). -/
def execVmsa (u : UnitId) (r : FmtVN1) (x : SInstr) (s : State) : Host.Outcome State Fault Refusal :=
  .next (issueVc u x (.vmsa r) (slotVmsa (vcCtx s u (.vmsa r)) r) s)

/-- VMSR (R160). -/
def execVmsr (u : UnitId) (r : FmtVN2) (x : SInstr) (s : State) : Host.Outcome State Fault Refusal :=
  .next (issueVc u x (.vmsr r) (slotVmsr (vcCtx s u (.vmsr r)) r) s)

/-- TAKE_TRAP (R124): at a pair boundary, an allowed pending asynchronous cause is taken (R122, R123). -/
def execTakeTrap (u : UnitId) (s : State) : Host.Outcome State Fault Refusal :=
  .next (if mayRun s u then
      match asyncCause s u with
      | some c => takeAsync u c s
      | none => s
    else s)

end Sys2Proof.Machine
end

