-- ==== Sys2Proof/Machine/Sparing.lean ====
section
/-! DEFINITION. Residue checking, replay and migration (R205 to R234), and the swap of a crossing port (R192 to R198). -/

namespace Sys2Proof.Machine
open Sys2Proof

/-- Set a flag of `spare.status` and raise the sparing event of the case (R234). -/
def spareFlag (d c : Nat) (f : Fld) (s : State) : State :=
  (s.setFld .caseSpareStatus [d, c] f 1).raiseCaseEvent d c (144 + c)

def ustate (s : State) (d c : Nat) : Nat := s.fld .caseSpareStatus [d, c] F.caseSpareStatus_USTATE

/-- A self-test of the case runs (R644). -/
def caseTested (s : State) (d c : Nat) : Bool :=
  decide (s.fld .bistStatus [d] F.bistStatus_STATE ≠ 0) && decide (s.hv .bistKind [d] = 2) &&
    decide (s.hv .bistUnit [d] = c)

/-- A migration may begin (R215, R216). -/
def spareReady (s : State) (d c : Nat) : Bool :=
  !s.bit .caseSpareStatus [d, c] F.caseSpareStatus_BUSY && decide (ustate s d c = 0) && !caseTested s d c

/-- Accept a migration of a slot (R215, R216). -/
def acceptMigration (d c sl : Nat) (s : State) : State :=
  (s.setFld .caseSpareStatus [d, c] F.caseSpareStatus_BUSY 1).setFld .caseSpareStatus [d, c]
    F.caseSpareStatus_LAST sl

/-- Act on a trigger of the first two kinds (R214, R215): `persist` is the third mismatch of one pair in succession. -/
def trigger (d : Fin 4) (c : Fin 16) (p : Fin 9) (sl : Nat) (persist : Bool) (s : State) : State :=
  let auto := s.bit .caseSpareCtl [d, c] F.caseSpareCtl_AUTO
  if auto && spareReady s d c then acceptMigration d c sl s
  else
    let s := spareFlag d c (if auto then F.caseSpareStatus_NOSPARE else F.caseSpareStatus_THRESH) s
    if persist then
      let u := UnitId.eng d c p
      let x := (s.unit u).abandonSent
      let s := (clearStop u s).setUnit u { x.dropResv with st := .faultStopped, stall := 0, wev := none, mismRun := 0, stopping := false }
      haltWaiting u (stopEvent u (spareFlag d c F.caseSpareStatus_PERSIST s))
    else s

/-- A migration is in step 2 of its pause (R220): pairs already issued may still mismatch. -/
def inDrain (s : State) (d c p : Nat) : Bool :=
  match (s.case d c).migr with
  | some m => decide (m.stage = 1) && decide (m.src = p)
  | none => false

/-- The requests of the pair that fails its check and of those that have issued after it leave before WB finds the mismatch
(R207, R209): each is sent once, and its return waits for its pair to issue again. `v` is the state in which the next pair
issues, with the results that are to be discarded. -/
def sendBefore (u : UnitId) : List (SInstr × VInstr) → State → State → State
  | [], _, s => s
  | q :: qs, v, s =>
    let k := scCtx v u q.1
    let a := k.x.asSent (scalarSlot k q.1)
    let b := otherVec v u q.2
    if max (max (pendWait k a) (pendWait k b)) (max a.wait b.wait) = 0 ∧ pairTraps k a b = [] then
      let n := (s.unit u).nextId
      let t := if a.lock ≠ 0 then a.eff s else s
      let t := if (t.unit u).nextId = n then s else onUnit u (fun x => { x with sent := x.sent ++ [(k.x.pc, n)] }) t
      sendBefore u qs (commitPair u a b v) t
    else s

/-- The mismatch is the EX1 failure of the address that an access of the scalar slot computes (R207): its request does not
leave. -/
def addressFailure (chk : Fin 8) (vslot : Bool) : Bool := decide (chk.val = 0) && !vslot

/-- The history of a slot records its third mismatch within 1 ms (R213, R214). -/
def thirdMismatch (s : State) (d c sl t : Nat) : Bool :=
  let h := (s.case d c).mism.get [] sl
  decide (2 ≤ h.length) && decide (t ≤ h.headD 0 + 1000000)

/-- The history of a slot takes a mismatch: its last two are kept (R213). -/
def noteMismatch (d c sl t : Nat) (s : State) : State :=
  let cs := s.case d c
  let h := cs.mism.get [] sl
  s.setCase d c { cs with mism := cs.mism.set sl ((h ++ [t]).drop (h.length - 1)) }

/-- Count and log a replay of `n` cycles: `run` is the number of successive mismatches of the pair (R211). -/
def countMismatch (d : Fin 4) (c : Fin 16) (p : Fin 9) (sl : Nat) (chk : Fin 8) (vslot : Bool) (run n : Nat)
    (s : State) : State :=
  let pc := (s.unit (.eng d c p)).pc
  let s := s.bumpFld .caseEngReplays [d, c, sl] F.caseEngReplays_COUNT 1
  let s := s.setReg .caseEngRlog [d, c, sl] (BitVec.ofNat 64
    (p.val * 2 ^ 36 + chk.val * 2 ^ 32 + vslot.toNat * 2 ^ 31 + run * 2 ^ 29 + pc.toNat % 2 ^ 15))
  s.bumpFld .caseEngNdcycles [d, c, sl] F.caseEngNdcycles_ND n

/-- RESIDUE_MISMATCH: the pair at the program counter of a running engine fails a check; its results are discarded and it
issues again (R208 to R215). `chk` is the unit code of R205, `t` the device time in ns. The replay's cycles count in COUNT as
they pass, like every cycle of Running. At most six pairs have issued. In step 2 of a migration the source does not replay,
and one pair at most mismatches (R220): it counts and is logged like any other, without a cycle of ND. (DESIGN CHOICE, safe:
log entry 72.) -/
def residueMismatch (d : Fin 4) (c : Fin 16) (p : Fin 9) (chk : Fin 8) (vslot : Bool) (t : Nat) (replay : Replay)
    (s : State) : State :=
  let u := UnitId.eng d c p
  let sl := s.slotOf d c p
  let drain := inDrain s d c p
  if !(canIssue s u || (drain && decide ((s.unit u).back = .running ∧ (s.unit u).mismRun = 0))) || decide (8 ≤ sl) then s
  else
    let s := if addressFailure chk vslot then s else sendBefore u (replay.pairs.take 6) s s
    let s := if drain then onUnit u UnitState.dropResv s else s
    let x := s.unit u
    let run := min (x.mismRun + 1) 3
    let s := s.setUnit u { x with mismRun := run, stall := 0, wev := none }
    let s := countMismatch d c p sl chk vslot run (if drain then 0 else 14 + replay.realign.val) s
    if thirdMismatch s d c sl t || decide (run = 3) then
      trigger d c p sl (decide (run = 3)) (noteMismatch d c sl t s)
    else noteMismatch d c sl t s

def execResidueMismatch (d : Fin 4) (c : Fin 16) (p : Fin 9) (chk : Fin 8) (vslot : Bool) (t : Nat) (replay : Replay)
    (s : State) : Host.Outcome State Fault Refusal :=
  .next (residueMismatch d c p chk vslot t replay s)

/-- MIGRATE in `spare.ctl` (R214, R216). -/
def migrateBit (d : Fin 4) (c : Fin 16) (s : State) : State :=
  let sl := s.fld .caseSpareCtl [d, c] F.caseSpareCtl_TARGET
  let st := (s.unit (s.engAt d c sl)).st
  if spareReady s d c && decide (st ≠ .armed) && decide (st ≠ .halted) then acceptMigration d c sl s
  else spareFlag d c F.caseSpareStatus_REFUSED s

/-- The position of the unnumbered engine. -/
def unnum (s : State) (d c : Nat) : Nat := s.posOf d c 8

/-- Fill the local memories of a position (R218, R383). -/
def fillEngine (d c p : Nat) (s : State) : State :=
  let s := applyRepairs d (fun m => decide (16384 + 16 * (9 * c + p) ≤ m) && decide (m < 16384 + 16 * (9 * c + p) + 10)) s
  { s with mem := (s.mem.fill (lmemBase d c p) 0x20000).fill (imemBase d c p) 0x8000 }

/-- RETURN in `spare.ctl` (R218). -/
def returnBit (d : Fin 4) (c : Fin 16) (s : State) : State :=
  if ustate s d c = 1 ∧ s.hv .spareTested [d, c] = 1 then
    (fillEngine d c (unnum s d c) s).setFld .caseSpareStatus [d, c] F.caseSpareStatus_USTATE 0
  else spareFlag d c F.caseSpareStatus_REFUSED s

/-- RETIRE in `spare.ctl` (R218). -/
def retireBit (d : Fin 4) (c : Fin 16) (s : State) : State :=
  if ustate s d c = 1 ∨ ustate s d c = 4 then s.setFld .caseSpareStatus [d, c] F.caseSpareStatus_USTATE 3
  else spareFlag d c F.caseSpareStatus_REFUSED s

/-- A write of `spare.ctl`: the fields, then each request that is written as 1 (R216, R218). -/
def spareCtlWrite (d : Fin 4) (c : Fin 16) (v : W64) (s : State) : Nat × State :=
  let s := s.setReg .caseSpareCtl [d, c] (v &&& 0x703)
  let s := if F.caseSpareCtl_MIGRATE.get v = 1 then migrateBit d c s else s
  let s := if F.caseSpareCtl_RETURN.get v = 1 then returnBit d c s else s
  (OK, if F.caseSpareCtl_RETIRE.get v = 1 then retireBit d c s else s)

def execMigrate (who : Who) (d : Fin 4) (c : Fin 16) (v : W64) (s : State) : Host.Outcome State Fault Refusal :=
  .next (regCommand who .caseSpareCtl [d, c] (spareCtlWrite d c (withBit F.caseSpareCtl_MIGRATE v)) s)

def execReturnUnnumbered (who : Who) (d : Fin 4) (c : Fin 16) (v : W64) (s : State) :
    Host.Outcome State Fault Refusal :=
  .next (regCommand who .caseSpareCtl [d, c] (spareCtlWrite d c (withBit F.caseSpareCtl_RETURN v)) s)

def execRetire (who : Who) (d : Fin 4) (c : Fin 16) (v : W64) (s : State) : Host.Outcome State Fault Refusal :=
  .next (regCommand who .caseSpareCtl [d, c] (spareCtlWrite d c (withBit F.caseSpareCtl_RETIRE v)) s)

/-! The migration (R220 to R228). -/

/-- Count the lines of a range that the copy reads with errors (R222, R386). -/
def countLines (d cls base n logBase : Nat) (m : Mem) (s : State) : State :=
  ((m.flaws.map (fun e => e.1 / 64)).filter
      (fun l => decide (base ≤ l * 64) && decide (l * 64 < base + n))).eraseDups.foldl
    (fun t l => integ t d cls (logBase + (l * 64 - base)) 0 (m.corrN (l * 64) 64) (m.badN (l * 64) 64)) s

/-- Copy the local memories of a position to another, byte for byte with their check bits (R220, R222). -/
def copyEngine (d c src dst : Nat) (s : State) : State :=
  let m := s.mem
  let s := countLines d 0 (lmemBase d c src) 0x20000 (engLogAddr s d c src 0) m s
  let s := countLines d 1 (imemBase d c src) 0x8000 (engLogAddr s d c src 0x20000) m s
  let m1 := m.copyN (lmemBase d c src) (lmemBase d c dst) 0x20000
  { s with mem := m1.copyN (imemBase d c src) (imemBase d c dst) 0x8000 }

/-- The requests of an engine at the banks follow it to its new position (R224). -/
def moveRequests (d c src dst : Nat) (s : State) : State :=
  let cs := s.case d c
  let move (r : BankReq) : BankReq := if r.who = .eng src then { r with who := .eng dst } else r
  s.setCase d c { cs with waiting := cs.waiting.map move }

/-- Exchange the position of a slot with the unnumbered position in REMAP (R220, step 10). -/
def swapRemap (d c sl : Nat) (s : State) : State :=
  let r := s.reg .caseSpareRemap [d, c]
  let a := s.posOf d c sl
  let b := unnum s d c
  s.setReg .caseSpareRemap [d, c] (Fld.put ⟨32, 4⟩ (Fld.put ⟨4 * sl, 4⟩ r b) a)

/-- The source and the spare of the migration under way. -/
def migrSlot (s : State) (d c : Nat) : Nat := s.fld .caseSpareStatus [d, c] F.caseSpareStatus_LAST

def setMigr (d c : Nat) (m : Option Migr) (s : State) : State := s.setCase d c { s.case d c with migr := m }

/-- Step 1 (R220): at a pair boundary no further pair issues and q is recorded. A replay holds no pair boundary, and an
asynchronous cause that may be taken goes first (R228). -/
def migrPause (d : Fin 4) (c : Fin 16) (s : State) : State :=
  let u := s.engAt d c (migrSlot s d c)
  let x := s.unit u
  if (s.case d c).migr ≠ none ∨ x.st = .halted ∨ (x.st = .running ∧ x.mismRun ≠ 0) then s
  else
    let s := boundaryTrap u s
    let x := s.unit u
    let s := s.setUnit u { x.dropResv with st := .migrating, back := x.st, stall := 0 }
    setMigr d c (some { src := s.posOf d c (migrSlot s d c), q := s.hv .slotCtr [d, c], stage := 1 }) s

/-- Steps 3 to 8: the memories and the state are copied and compared (R222, R223, R225). -/
def migrCopy (d c : Nat) (ok : Bool) (m : Migr) (s : State) : State :=
  setMigr d c (some { m with stage := if ok then 2 else 3 }) (copyEngine d c m.src (unnum s d c) s)

/-- Steps 9 and 10: the slot moves to the spare, or stays with the source when a comparison has failed; its history clears
(R213, R225), with the held returns written into the engine that carries it (R224). The pair that mismatched in step 2 is the
first to issue, and it is no replay any more. (DEDUCED, safe: log entry 85.) -/
def migrRemap (d : Fin 4) (c : Fin 16) (m : Migr) (s : State) : State :=
  let sl := migrSlot s d c
  let cs := s.case d c
  let s := s.setCase d c { cs with mism := cs.mism.set sl [], migr := some { m with stage := m.stage + 2 } }
  if m.stage = 2 then
    let src := posFin m.src
    let dst := posFin (unnum s d c)
    let x := s.unit (.eng d c src)
    let s := s.setUnit (.eng d c dst) x
    let s := s.setUnit (.eng d c src) { x with
      st := .stopped, outs := [], resv := none, posted := none, wdog := false, delivered := [], wev := none,
      stall := 0, stopping := false, resume := 0, stepping := false, mismRun := 0, sent := [], held := [],
      haltDue := false }
    let s := (swapRemap d c sl (moveRequests d c src dst s)).setHv .spareTested [d, c] 0
    let s := writeHeld (.eng d c dst) (onUnit (.eng d c dst) (fun x => { x with mismRun := 0 }) s)
    s.setFld .caseSpareStatus [d, c] F.caseSpareStatus_USTATE 1
  else
    let u := UnitId.eng d c (posFin m.src)
    (writeHeld u (onUnit u (fun x => { x with mismRun := 0 }) s)).setFld .caseSpareStatus [d, c] F.caseSpareStatus_USTATE 4

/-- Step 11: when the slot counter stands at q, or at once for an engine that does not run (R227), the engine that carries
the slot takes up the former state with the held returns written (R224); a STOP and then a halt written in the pause take
effect (R229, R230). -/
def migrRelease (d : Fin 4) (c : Fin 16) (m : Migr) (s : State) : State :=
  let u := s.engAt d c (migrSlot s d c)
  let x := s.unit u
  if x.back = .running ∧ s.hv .slotCtr [d, c] ≠ m.q then s
  else
    let s := setMigr d c none (s.setUnit u { x with st := x.back })
    let s := s.setFld .caseSpareStatus [d, c] F.caseSpareStatus_BUSY 0
    let s := spareFlag d c (if m.stage = 4 then F.caseSpareStatus_DONE else F.caseSpareStatus_ABORTED) s
    dmaFlush d c (haltWaiting u (stopAfter u (writeHeld u s)))

/-- MIGRATION: the next phase of an accepted migration (R220). (DESIGN CHOICE, safe: log entry 20.) -/
def migration (d : Fin 4) (c : Fin 16) (ph : MigrPhase) (s : State) : State :=
  match ph, (s.case d c).migr with
  | .pause, _ => migrPause d c s
  | .copy ok, some m => if m.stage = 1 then migrCopy d c ok m s else s
  | .remap, some m => if m.stage = 2 ∨ m.stage = 3 then migrRemap d c m s else s
  | .release, some m => if m.stage = 4 ∨ m.stage = 5 then migrRelease d c m s else s
  | _, none => s

def execMigration (d : Fin 4) (c : Fin 16) (ph : MigrPhase) (s : State) : Host.Outcome State Fault Refusal :=
  .next (if s.bit .caseSpareStatus [d, c] F.caseSpareStatus_BUSY && s.runs d (16 + c.val) then migration d c ph s
    else s)

/-! Crossing ports (R192 to R198). -/

/-- A write of `imp_cs` (R198, R171, R173). -/
def xportCsWrite (d p : Nat) (v : W64) (s : State) : Nat × State :=
  let s := s.setReg .nocXportImpCs [d, p] (s.reg .nocXportImpCs [d, p] &&& ~~~(v &&& 0xC))
  if F.nocXportImpCs_SWAP.get v = 1 ∧ s.bit .nocXportImpCs [d, p] F.nocXportImpCs_PENDING = false then
    (OK, ((s.setFld .nocXportImpCs [d, p] F.nocXportImpCs_SWAP 1).setFld .nocXportImpCs [d, p]
      F.nocXportImpCs_PENDING 1).setHv .xportAt [d, p] (s.hv .nocCycle []))
  else (OK, s)

/-- A write of `imp[w].word[k]` of a crossing port (R173, R198). -/
def xportWordWrite (d p w k : Nat) (v : W64) (s : State) : Nat × State :=
  if s.bit .nocXportImpCs [d, p] F.nocXportImpCs_PENDING then (REFUSED, s)
  else (OK, s.setReg .nocXportImpWord [d, p, w, k] v)

def execXportSwapRequest (who : Who) (d : Fin 4) (p : Fin 12) (v : W64) (s : State) :
    Host.Outcome State Fault Refusal :=
  .next (regCommand who .nocXportImpCs [d, p] (xportCsWrite d p (withBit F.nocXportImpCs_SWAP v)) s)

/-- The words of the four planes of a port. -/
def planeWords : List (Nat × Nat) := (List.range 4).flatMap fun w => (List.range 8).map fun k => (w, k)

/-- The swap falls due: the ports of the die stand at slot 127 before a slot 0 that lies four or more cycles after the write
(R171, R198). -/
def xportDue (s : State) (d p : Nat) : Bool :=
  s.bit .nocXportImpCs [d, p] F.nocXportImpCs_PENDING && decide (s.hv .portSlot [d] = 127) &&
    decide (s.hv .xportAt [d, p] + 4 ≤ s.hv .nocCycle [] + 1)

/-- XPORT_SWAP at the end of the slot before the port's qualifying slot 0 (R198): all four planes exchange, or the swap is
refused for a code from 12 to 14; the port sends no more of its table in that slot. (DEDUCED, unsafe: log entry 21.) -/
def xportSwap (d p : Nat) (s : State) : State :=
  if xportDue s d p then
    let bad := planeWords.any fun (w, k) => anyCode (s.reg .nocXportImpWord [d, p, w, k]) 12 14
    let t := ((s.setFld .nocXportImpCs [d, p] F.nocXportImpCs_SWAP 0).setFld .nocXportImpCs [d, p]
      F.nocXportImpCs_PENDING 0).setHv .portSent [d, p] (s.hv .nocCycle [] + 1)
    if bad then t.setFld .nocXportImpCs [d, p] F.nocXportImpCs_SWAP_ERR 1
    else
      let t := planeWords.foldl (fun t (w, k) =>
        (t.setReg .nocXportLiveWord [d, p, w, k] (s.reg .nocXportImpWord [d, p, w, k])).setReg .nocXportImpWord
          [d, p, w, k] (s.reg .nocXportLiveWord [d, p, w, k])) t
      t.setFld .nocXportImpCs [d, p] F.nocXportImpCs_SWAP_DONE 1
  else s

def execXportSwap (d : Fin 4) (p : Fin 12) (s : State) : Host.Outcome State Fault Refusal :=
  .next (if s.domOn d 33 then xportSwap d p s else s)

end Sys2Proof.Machine
end

