-- ==== Sys2Proof/Machine/SelfTest.lean ====
section
/-! DEFINITION. Self-test and repair (R629 to R646). -/

namespace Sys2Proof.Machine
open Sys2Proof

def bistState (s : State) (d : Nat) : Nat := s.fld .bistStatus [d] F.bistStatus_STATE
def setBist (d n : Nat) (s : State) : State := s.setFld .bistStatus [d] F.bistStatus_STATE n

/-- Set a flag of `bist.status`, with the self-test event of the die (R646). -/
def bistFlag (d : Nat) (f : Fld) (s : State) : State := (s.setFld .bistStatus [d] f 1).raiseEvent d 181

/-- The target meets its precondition (R629). (DEDUCED, unsafe: log entry 53.) -/
def testReady (s : State) (d kind unit pos : Nat) : Bool :=
  match kind with
  | 0 => s.domOn d unit && galleyClosed s d unit && !partialBusy s d unit
  | 1 => s.domOn d (16 + unit) && decide (pos = unnum s d unit) && decide (ustate s d unit = 1)
  | 2 => s.domOn d (16 + unit) && caseIdle s d unit
  | _ => false

/-- A GO is accepted (R629, R630, R642). -/
def testStart (d : Nat) (v : W64) (s : State) : State :=
  let kind := F.bistCtl_TKIND.get v
  let unit := F.bistCtl_UNIT.get v
  let logic := F.bistCtl_LOGIC.get v
  let s := (((s.setHv .bistKind [d] kind).setHv .bistUnit [d] unit).setHv .bistPos [d] (F.bistCtl_POS.get v)).setHv .bistRun [d] 0
  let s := s.setHv .bistParts [d] (logic + 2 * F.bistCtl_MEM.get v + 4 * F.bistCtl_REPAIR.get v)
  let s := (s.setFld .bistStatus [d] F.bistStatus_LFAIL 0).setFld .bistStatus [d] F.bistStatus_MFAIL 0
  let s := setBist d (if logic = 1 then 1 else 2) s
  if kind = 0 then closeQuoin d unit s
  else if kind = 1 then s.setFld .caseSpareStatus [d, unit] F.caseSpareStatus_USTATE 2
  else s

/-- A write of `bist.ctl` (R642, R643): a GO that is refused changes no field. -/
def bistCtlWrite (d : Nat) (v : W64) (s : State) : Nat × State :=
  let s := if F.bistCtl_STOP.get v = 1 then endTest d s else s
  let fields := v &&& ~~~0xC0000000#64
  if F.bistCtl_GO.get v = 0 then (OK, plainWrite .bistCtl [d] fields s)
  else if bistState s d ≠ 0 ∨ 8 < F.bistCtl_POS.get v ∨ (F.bistCtl_LOGIC.get v = 0 ∧ F.bistCtl_MEM.get v = 0) ∨
      testReady s d (F.bistCtl_TKIND.get v) (F.bistCtl_UNIT.get v) (F.bistCtl_POS.get v) = false then
    (OK, bistFlag d F.bistStatus_REFUSED s)
  else (OK, testStart d v (plainWrite .bistCtl [d] fields s))

/-- A GO with TKIND as given. -/
def testCommand (who : Who) (d : Fin 4) (kind : Nat) (v : W64) (s : State) : State :=
  regCommand who .bistCtl [d] (bistCtlWrite d (F.bistCtl_TKIND.put (withBit F.bistCtl_GO v) kind)) s

def execGalleyTest (who : Who) (d : Fin 4) (v : W64) (s : State) : Host.Outcome State Fault Refusal :=
  .next (testCommand who d 0 v s)
def execPositionTest (who : Who) (d : Fin 4) (v : W64) (s : State) : Host.Outcome State Fault Refusal :=
  .next (testCommand who d 1 v s)
def execCaseTest (who : Who) (d : Fin 4) (v : W64) (s : State) : Host.Outcome State Fault Refusal :=
  .next (testCommand who d 2 v s)

/-- TEST_STOP (R643). -/
def execTestStop (who : Who) (d : Fin 4) (v : W64) (s : State) : Host.Outcome State Fault Refusal :=
  .next (regCommand who .bistCtl [d] (bistCtlWrite d (withBit F.bistCtl_STOP v)) s)

/-- LOGIC_SELF_TEST_DONE (R631): GOLDEN is what the stepping holds for the target kind, and a command that names another is none;
a clock wait freezes a test (R644). (DESIGN CHOICE, safe: log entry 23.) -/
def logicDone (d : Nat) (sig golden : W32) (s : State) : State :=
  if bistState s d ≠ 1 ∨ s.hv .clkWait [] = 1 ∨ golden ≠ Config.golden (s.hv .bistKind [d]) then s
  else
    let s := (s.setFld .bistSig [d] F.bistSig_SIG sig.toNat).setFld .bistSig [d] F.bistSig_GOLDEN golden.toNat
    let s := s.setFld .bistStatus [d] F.bistStatus_LFAIL (decide (sig ≠ golden)).toNat
    setBist d (if s.hv .bistParts [d] / 2 % 2 = 1 then 2 else 3) s

def execLogicSelfTestDone (d : Fin 4) (sig golden : W32) (s : State) : Host.Outcome State Fault Refusal :=
  .next (logicDone d sig golden s)

/-! Macros and repairs (R633 to R640). -/

/-- A macro belongs to the target of a test (R629, R633). -/
def ownMacro (kind unit pos m : Nat) : Bool :=
  match kind with
  | 0 => decide (960 * unit ≤ m) && decide (m < 960 * (unit + 1))
  | 1 => let b := 16384 + 16 * (9 * unit + pos); decide (b ≤ m) && decide (m < b + 10)
  | _ => decide (18688 + 16 * unit ≤ m) && decide (m < 18688 + 16 * (unit + 1))

/-- The bytes of a macro that a test covers (R633, R634). -/
def macroBytes (m : Nat) : Nat :=
  64 * (if m < 16384 then 64
    else if m < 18688 then (if (m - 16384) % 16 < 8 then 256 else if (m - 16384) % 16 = 8 then 512 else 64)
    else 1024)

/-- A failing bit: macro, byte address, bit. -/
abbrev BadBit := Nat × Nat × Fin 13

def badLt (a b : BadBit) : Bool :=
  decide (a.1 < b.1) || (decide (a.1 = b.1) && (decide (a.2.1 < b.2.1) ||
    (decide (a.2.1 = b.2.1) && decide (a.2.2 < b.2.2))))

/-- Ascending order, without repeats (R635). -/
def insertBad (b : BadBit) : List BadBit → List BadBit
  | [] => [b]
  | c :: r => if badLt b c then b :: c :: r else if b = c then c :: r else c :: insertBad b r

def sortBad (l : List BadBit) : List BadBit := l.foldl (fun a b => insertBad b a) []

/-- A repair entry of a macro of the die, as kind (0 row, 1 column) and index (R638). -/
def entryFor (d m e : Nat) : Option (Nat × Nat) :=
  let kind := e / 2 ^ 29 % 4
  if e / 2 ^ 31 = 1 ∧ kind ≤ 1 ∧ e / 2 ^ 27 % 4 = d ∧ e / 2 ^ 10 % 2 ^ 17 = m then some (kind, e % 2 ^ 10) else none

/-- The entries of a macro that find a free spare of their kind, fuse entries first (R640). -/
def takeSpares (l : List (Nat × Nat)) : List (Nat × Nat) :=
  l.foldl (fun a e => if (a.filter (fun x => x.1 == e.1)).length < 2 then a ++ [e] else a) []

/-- The repairs of a macro (R639, R640): the fuse entries first. -/
def repairsOf (s : State) (d m : Nat) : List (Nat × Nat) :=
  takeSpares (((List.range 64).map (fuseRepair s)).filterMap (entryFor d m) ++
    s.repairs.filterMap (fun e => if e.1 = d ∧ e.2.1 = m then some e.2.2 else none))

/-- Write a repair entry to the lowest free entry of the soft repair table, when there is one; the spare takes effect at once
(R637, R640). -/
def addRepair (d kind m index : Nat) (s : State) : Option State :=
  ((List.range 64).find? (fun k => softEntry s d k / 2 ^ 31 % 2 == 0)).map fun k =>
    bistFlag d F.bistStatus_REPAIRED { s.setReg .bistSrep [d, k]
      (BitVec.ofNat 64 (2 ^ 31 + kind * 2 ^ 29 + d * 2 ^ 27 + m * 2 ^ 10 + index)) with
        repairs := s.repairs ++ [(d, m, kind, index)] }

/-- One failing bit (R637): the state after, and whether a spare was assigned or the bit could not be repaired. -/
def assignSpare (d : Nat) (r : State × Bool × Bool) (b : BadBit) : State × Bool × Bool :=
  let (s, got, bad) := r
  let row := b.2.1 / 64
  let col := 13 * (b.2.1 % 64) + b.2.2.val
  let l := repairsOf s d b.1
  let free (k : Nat) : Bool := decide ((l.filter (fun x => x.1 == k)).length < 2)
  let unrep : State × Bool × Bool := (bistFlag d F.bistStatus_UNREP s, got, true)
  if (0, row) ∈ l ∨ (1, col) ∈ l then r
  else if free 0 then (match addRepair d 0 b.1 row s with | some t => (t, true, bad) | none => unrep)
  else if free 1 then (match addRepair d 1 b.1 col s with | some t => (t, true, bad) | none => unrep)
  else unrep

/-- MEMORY_SELF_TEST_DONE (R634 to R637): `fails` are the failing bits of the run. -/
def memoryDone (d : Nat) (fails : List BadBit) (s : State) : State :=
  if bistState s d ≠ 2 ∨ s.hv .clkWait [] = 1 then s
  else
    let l := sortBad (fails.filter fun b =>
      ownMacro (s.hv .bistKind [d]) (s.hv .bistUnit [d]) (s.hv .bistPos [d]) b.1 && decide (b.2.1 < macroBytes b.1))
    let finish (bad : Bool) (t : State) : State := setBist d 3 (t.setFld .bistStatus [d] F.bistStatus_MFAIL bad.toNat)
    let run := s.hv .bistRun [d]
    if run ≠ 0 then finish (!l.isEmpty || decide (run = 2)) s
    else
      let s := s.setReg .bistMfail [d] (match l with
        | [] => 0
        | b :: _ => F.bistMfail_COUNT.put (F.bistMfail_ADDR.put (F.bistMfail_BIT.put (F.bistMfail_MACRO.put 0 b.1)
            b.2.2.val) b.2.1) (min l.length 0xFFFF))
      if s.hv .bistParts [d] / 4 % 2 = 0 then finish (!l.isEmpty) s
      else
        let r := l.foldl (assignSpare d) (s, false, false)
        if r.2.1 then r.1.setHv .bistRun [d] (if r.2.2 then 2 else 1) else finish r.2.2 r.1

def execMemorySelfTestDone (d : Fin 4) (fails : List (Nat × Nat × Fin 13)) (s : State) : Host.Outcome State Fault Refusal :=
  .next (memoryDone d fails s)

/-! Finishing (R629, R630, R645). -/

/-- The target after the test. A RETURN is decided by the last test of the position since it was vacated (R218). (DESIGN CHOICE,
unsafe: log entry 88.) -/
def afterTest (d kind unit pos : Nat) (passed : Bool) (s : State) : State :=
  match kind with
  | 0 => domainContents d unit s
  | 1 =>
    (fillEngine d unit pos (s.setFld .caseSpareStatus [d, unit] F.caseSpareStatus_USTATE 1)).setHv .spareTested [d, unit]
      passed.toNat
  | _ => closeCaseQuoin d unit (domainContents d (16 + unit) s)

/-- The bit of a unit in `lockout`. -/
def setLockout (d kind unit : Nat) (on : Bool) (s : State) : State :=
  let f := if kind = 0 then F.bistLockout_GALLEY else F.bistLockout_CASE
  let m := s.fld .bistLockout [d] f
  let has := decide (m / 2 ^ unit % 2 = 1)
  if kind = 1 ∨ has = on then s else s.setFld .bistLockout [d] f (if on then m + 2 ^ unit else m - 2 ^ unit)

/-- FINISHING_DONE (R630, R643, R645). -/
def finishingDone (d : Nat) (s : State) : State :=
  if bistState s d ≠ 3 ∨ s.hv .clkWait [] = 1 then s
  else
    let kind := s.hv .bistKind [d]
    let unit := s.hv .bistUnit [d]
    let early := decide (s.hv .bistParts [d] / 8 % 2 = 1)
    let due := decide (s.hv .bistParts [d] / 16 = 1)
    let fail := !early && (s.bit .bistStatus [d] F.bistStatus_LFAIL || s.bit .bistStatus [d] F.bistStatus_MFAIL)
    let s := (setBist d 0 s).setHv .bistParts [d] 0
    let s := afterTest d kind unit (s.hv .bistPos [d]) (!early && !fail) s
    let s := if due then domainContents d (16 + unit) s else s
    let s := if early then s else setLockout d kind unit fail s
    bistFlag d F.bistStatus_DONE (if fail then s.setFld .bistStatus [d] F.bistStatus_FAIL 1 else s)

def execFinishingDone (d : Fin 4) (s : State) : Host.Outcome State Fault Refusal := .next (finishingDone d s)

/-- A write of `srep[k]` (R641): a DIE field that differs from d makes the entry VALID 0. -/
def srepWrite (d k : Nat) (v : W64) (s : State) : Nat × State :=
  let e := v.toNat % 2 ^ 32
  (OK, s.setReg .bistSrep [d, k] (BitVec.ofNat 64 (if e / 2 ^ 27 % 4 = d then e else e % 2 ^ 31)))

end Sys2Proof.Machine
end

