-- ==== Sys2Proof/Machine/RegAccess.lean ====
section
/-! DEFINITION. Reads and writes of registers by address (R13 to R18, R38 to R43, R547): what each register reads as, and
what a write of it does. -/

namespace Sys2Proof.Machine
open Sys2Proof

/-! Which register (R13, R27, R410, R547). -/

/-- A register of a plane: a write waits while the galley is being cloned (R547, R549). -/
def isPlaneReg : RegName → Bool
  | .galleyClk => true
  | .galleyClksel => true
  | .galleyFportCfg => true
  | .galleyFportWin => true
  | _ => false

/-- The user PLLs of a die, and its map registers, appear in more than one block (R27, R410). -/
def homeIx (n : RegName) (ix : List Nat) : List Nat :=
  match n, ix with
  | .galleyUpllCfg, [d, _, u] => [d, 0, u]
  | .galleyUpllStatus, [d, _, u] => [d, 0, u]
  | .ddrMap, [d, _, j] => [d, 0, j]
  | .ddrMapcap, [d, _] => [d, 0]
  | _, ix => ix

/-- The initiator of a `tmo_cfg` register exists on the die. -/
def regExists : RegName → List Nat → Bool
  | .nocTmoCfg, [d, i] => decide (i < 209) || (decide (i = 209) && decide (d % 2 = 0)) || decide (d = 0)
  | _, _ => true

/-- A register as an address names it: `live` is the read-only live copy of a plane register (R547). -/
structure RegRef where
  n : RegName
  ix : List Nat
  live : Bool
  deriving DecidableEq, Repr

/-- The register at an address (R13, R547). -/
def regRef (a : Nat) : Option RegRef :=
  match regAt a with
  | some (n, ix) => some ⟨n, ix, false⟩
  | none =>
    match regAt (a - 0x80000) with
    | some (n, ix) => if isPlaneReg n then some ⟨n, ix, true⟩ else none
    | none => none

/-- The registers that a byte range touches: each lies in an 8-byte unit of its own. -/
def regsTouched (a n : Nat) : List RegRef :=
  (List.range ((a + n + 7) / 8 - a / 8)).filterMap fun k =>
    let b := (a / 8 + k) * 8
    match regRef b with
    | some r => if a < b + (if r.n.spec.w64 then 8 else 4) then some r else none
    | none => none

/-- What an access finds (R14, R16): a register at its full width, no register, or an access that is not allowed. -/
inductive RegHit where
  | reg (r : RegRef)
  | hole
  | bad
  deriving DecidableEq, Repr

/-- The register that an access names (R14, R16). (DEDUCED, safe: log entry 24.) -/
def regHit (a n : Nat) : RegHit :=
  match regsTouched a n with
  | [] => .hole
  | [r] => if regRef a = some r ∧ n = (if r.n.spec.w64 then 8 else 4) then .reg r else .bad
  | _ => .bad

/-! What a register reads as. -/

/-- `pkg.id.origin` (R42, R43). (DESIGN CHOICE, safe: log entry 27.) -/
def originView (w : Who) : W64 :=
  let v (kind die : Nat) : W64 := BitVec.ofNat 64 (kind * 16 + die)
  match w with
  | .core d => v 0 d
  | .engine d c sl => v 1 d ||| BitVec.ofNat 64 ((128 * d.val + 8 * c.val + sl.val) * 2 ^ 11)
  | .fport d g _ => v 2 d ||| BitVec.ofNat 64 (g.val * 2 ^ 7)
  | .dma d _ => v 3 d
  | .pcie d => v 4 d
  | .guard => v 5 0
  | .debug => v 6 0
  | .eth d m => v (Config.originKind (8 * d.val + m.val)).toNat d
  | .scrub d => v (Config.originKind (8 * d.val + 4)).toNat d

def stateCode : RunState → Nat
  | .stopped => 0
  | .running => 1
  | .armed => 2
  | .halted => 3
  | .faultStopped => 4
  | .migrating => 5

/-- PC of a status register: valid in Stopped, Halted and Fault-stopped, and open in every other state (R72, R126). (DESIGN
CHOICE, safe: log entry 11.) -/
def statusPc (s : State) (x : UnitState) : Nat :=
  match x.st with
  | .running | .armed | .migrating => Config.runPc s.freeCtr
  | _ => x.pc.toNat

/-- `eng[s].status`: the engine that carries the slot. -/
def engStatusView (s : State) (d : Fin 4) (c : Fin 16) (sl : Nat) : W64 :=
  let x := s.unit (s.engAt d c sl)
  BitVec.ofNat 64 (x.lastCause.toNat * 2 ^ 24 + statusPc s x % 2 ^ 15 * 2 ^ 6 + x.st_ fPRIV % 2 * 8 + stateCode x.st)

/-- `die[d].ctl.status`: PRIV is the current privilege. (DEDUCED, unsafe: log entry 22.) -/
def coreStatusView (s : State) (d : Fin 4) : W64 :=
  let x := s.unit (.core d)
  BitVec.ofNat 64 (x.lastCause.toNat * 2 ^ 56 + x.st_ fPRIV % 4 * 2 ^ 51 + stateCode x.st * 2 ^ 48 +
    statusPc s x % 2 ^ 48)

/-- `pkg.sec.fsum` from the fuses (R574). -/
def fsumView (s : State) : W64 :=
  let zeros (l : List Nat) : Nat := (l.filter (fun x => decide (x = 0))).length
  let slots (f : Nat → Bool) : Nat := ((List.range 4).map (fun k => (f k).toNat * 2 ^ k)).sum
  BitVec.ofNat 64
    (folioFloor s * 2 ^ 32 + zeros (floorWords s) * 2 ^ 25 + zeros (sfloorWords s) * 2 ^ 20 + slots (slotRevoked s) * 2 ^ 16 +
      slots (slotSet s) * 2 ^ 12 + fuseDbg s * 2 ^ 10 + (formeKey s).isSome.toNat * 2 ^ 9 + fuseEncReq s * 2 ^ 8 +
      fusePolicyLock s * 2 ^ 7 + fusePolicy s * 2 ^ 5)

/-- `pkg.sec.idkey[k]`: X_id and PARITY_id (R575, R576). -/
def idkeyView (s : State) (k : Nat) : W64 :=
  if !hasIdentity s then Config.noIdentity k
  else if k < 6 then BitVec.ofNat 64 (xId.toNat / 2 ^ (64 * k)) else BitVec.ofNat 64 parityId.toNat

/-- What a register returns to a reader, before an RC field clears. -/
def regView (w : Who) (n : RegName) (ix : List Nat) (s : State) : W64 :=
  match n, ix with
  | .idOrigin, _ => originView w
  | .caseEngStatus, [d, c, sl] => engStatusView s (fin4 d) (fin16 c) sl
  | .ctlStatus, [d] => coreStatusView s (fin4 d)
  | .ioPinCfg, [d, k] => pinCfg s d k
  | .ioQpinCfg, [d, m] => qpinCfg s d m
  | .ioBankStatus, [d, b] => F.ioBankStatus_STRAP.put (s.reg n ix) (s.board.strap.getLsbD (8 * d + b)).toNat
  | .ddrStatus, [d, k] =>
    F.ddrStatus_RTWAIT.put (F.ddrStatus_QUEUED.put (s.reg n ix) (min (s.ddr d k).entries.length 64))
      (min (s.ddr d k).rtLines 40)
  | .lgrpLaneStatus, [d, j, i] => F.lgrpLaneStatus_IDLE.put (s.reg n ix) (pinsIdle s d j i).toNat
  | .lgrpLaneHist, [d, j, i] => histView s d j i
  | .lgrpLaneRxeq, [d, j, i] => rxeqView s d j i
  | .timeNow, _ => timeNowView s (whoDie w)
  | .timeNowHi, _ => timeNowHiView s (whoDie w)
  | .timeUart, _ => uartView s
  | .galleyDrain, [d, g] => drainView s d g
  | .nocEstat, [d] => F.nocEstat_HELD.put (s.reg n ix) (min (heldTags s d) 0x7FF)
  | .secFsum, _ => fsumView s
  | .secSfloor, _ => BitVec.ofNat 64 (standFloor s)
  | .secIdkey, [k] => idkeyView s k
  | .secIdcert, [k] => BitVec.ofNat 64 (fuseBits s (5120 + 64 * k) 64)
  | .idIdcode, _ => identityCode s
  | n, ix => if regExists n ix then s.reg n (homeIx n ix) &&& ~~~BitVec.ofNat 64 n.spec.wo else 0

/-- The RC fields of a register clear (R18); a read of `uart` takes the byte (R508), and each read of a status register draws
its open PC anew. -/
def readEffect (n : RegName) (ix : List Nat) (s : State) : State :=
  if n = .timeUart then s.setTime { s.time with uart := s.time.uart.drop 1 }
  else if n = .caseEngStatus ∨ n = .ctlStatus then s.draw
  else if n.spec.rc = 0 then s
  else s.setReg n ix (s.reg n ix &&& ~~~BitVec.ofNat 64 n.spec.rc)

/-- A read at the full width of a register: STATUS, value and the state after (R14, R18, R614, R651). -/
def readReg (w : Who) (quiet : Bool) (r : RegRef) (s : State) : Nat × W64 × State :=
  let a := addrOf r.n r.ix
  if !mayRead r.n || unitOff s a then (REFUSED, 0, s)
  else if r.live then
    let v := s.reg r.n (liveIx r.ix)
    -- only SRC of `clksel` has a live copy (R547)
    (OK, if r.n = .galleyClksel then F.galleyClksel_SRC.put (s.reg r.n r.ix) (F.galleyClksel_SRC.get v) else v, s)
  else (OK, regView w r.n r.ix s, if quiet then s else readEffect r.n r.ix s)

/-! What a write does. -/

/-- A write of a watchdog register: PERIOD reloads the count (R665, R667). -/
def wdogWrite (n : RegName) (ix : List Nat) (v : W64) (s : State) : Nat × State :=
  let locked := s.bit n ix F.caseEngWdog_LOCK
  let s := plainWrite n ix v s
  (OK, if locked then s else s.setFld n ix F.caseEngWdog_REMAIN (256 * s.fld n ix F.caseEngWdog_PERIOD))

/-- A write of `rcause` (R619, R623): GRST is for the debug initiator. (DEDUCED, unsafe: log entry 58.) -/
def rcauseWrite (w : Who) (v : W64) (s : State) : Nat × State :=
  if F.powerRcause_GRST.get v = 0 then (OK, s)
  else if w = .debug then (OK, if s.hv .guardUp [] = 1 then guardReset 4 s else s) else (REFUSED, s)

/-- The effect of a write that takes effect, by register. -/
def writeReg (w : Who) (n : RegName) (ix : List Nat) (v : W64) (s : State) : Nat × State :=
  match n, ix with
  | .idOrigin, _ => (OK, s)
  | .caseEngCtl, [d, c, sl] => engCtlWrite (fin4 d) (fin16 c) sl v s
  | .caseStart, [d, c] => caseStartWrite d c v s
  | .caseEngWdog, ix => wdogWrite n ix v s
  | .ctlWdog, ix => wdogWrite n ix v s
  | .ctlRun, [d] => coreRunWrite (fin4 d) v s
  | .caseDmaRing, [d, c, k] => dmaRingWrite d c k v s
  | .caseDmaCtl, [d, c, k] => dmaCtlWrite d c k v s
  | .caseImpCtl, [d, c] => impCtlWrite w d c v s
  | .caseImpSlot, [d, c, k] => impSlotWrite d c k v s
  | .caseSpareCtl, [d, c] => spareCtlWrite (fin4 d) (fin16 c) v s
  | .caseQuoin, [d, c] => caseQuoinWrite d c v s
  | .nocXportImpCs, [d, p] => xportCsWrite d p v s
  | .nocXportImpWord, [d, p, x, k] => xportWordWrite d p x k v s
  | .galleyUpllCfg, [d, _, u] => upllCfgWrite d u v s
  | .galleyUpllStatus, ix => (OK, plainWrite n (homeIx n ix) v s)
  | .galleyClksel, [d, g, k] => clkselWrite d g k v s
  | .galleyQuoin, [d, g] => quoinWrite d g v s
  | .galleySwap, [d, g] => swapRegWrite d g v s
  | .galleyDrain, [d, g] => drainWrite d g v s
  | .ctlXswap, [d] => xswapWrite d v s
  | .ioQpinDly, [d, m] => qpinDlyWrite d m v s
  | .linkPortCtl, [d, p] => linkCtlWrite d p v s
  | .photonLaser, _ => laserWrite v s
  | .integCmapClr, [d, k] => cmapClrWrite d k v s
  | .integScrubCtl, [d] => scrubCtlWrite d v s
  | .ddrCtl, [d, k] => ddrCtlWrite d k none v s
  | .ddrMap, ix => (OK, plainWrite n (homeIx n ix) v s)
  | .ddrMapcap, ix => (OK, plainWrite n (homeIx n ix) v s)
  | .lgrpPll, [d, j, a] => pllWrite d j a v s
  | .lgrpLaneCfg, [d, j, i] => laneCfgWrite d j i v s
  | .lgrpLaneTxeq, [d, j, i] => txeqWrite d j i v s
  | .lgrpLanePat, [d, j, i] => patWrite d j i v s
  | .lgrpLaneRxeq, [d, j, i] => rxeqWrite d j i v s
  | .lgrpLaneHist, [d, j, i] => histWrite d j i v s
  | .lgrpJesdCfg, [d, j, l] => jesdCfgWrite d j l false v s
  | .ethPortCfg, [d, m, q] => ethCfgWrite d m q v s
  | .ethSaload, [d, m] => saloadWrite (fin4 d) (fin4 m) v s
  | .pcieCfg, [d] => pcieCfgWrite d v s
  | .timeCtl, _ => timeCtlWrite v s
  | .timeFreq, _ => servoValueWrite n v s
  | .timeCode, _ => servoValueWrite n v s
  | .timeSrcMeas, [k] => measWrite k v s
  | .timeUart, _ => uartWrite v s
  | .timeAuthload, _ => authloadWrite v s
  | .guardPload, _ => ploadWrite v s
  | .guardFop, _ => fopWrite w v s
  | .secReq, [j] => reqWrite j v s
  | .secDresp, ix => (OK, s.setReg n ix v)
  | .secDctl, _ => dctlWrite v s
  | .secMbox, [k] => mboxWrite k v s
  | .powerDom, [d, k] => domWrite w (.die (fin4 d) ⟨k % 39, by omega⟩) v s
  | .powerPdom, [k] => domWrite w (.pkg (fin4 k)) v s
  | .powerDie, [d] => dieWrite (fin4 d) v s
  | .powerRcause, _ => rcauseWrite w v s
  | .bistCtl, [d] => bistCtlWrite d v s
  | .bistSrep, [d, k] => srepWrite d k v s
  | .debugHreq, _ => hreqWrite v s
  | .eventPend, [d, k] => pendWrite d k v s
  | .eventRaise, [d] => raiseWrite d v s
  | .eventRoute, [d, k] => routeWrite d k v s
  | n, ix => (OK, if regExists n ix then plainWrite n ix v s else s)

/-- A write at the full width of a register: STATUS and the state after (R14, R547, R614, R616, R618, R651). -/
def putReg (w : Who) (r : RegRef) (v : W64) (s : State) : Nat × State :=
  if r.live then (REFUSED, s)
  else match writeGate w r.n r.ix s with
    | some st => (st, noteRefused w r.n r.ix s)
    | none => writeReg w r.n r.ix (if r.n.spec.w64 then v else v &&& 0xFFFFFFFF) s

/-- A write of a plane register waits while its galley is being cloned (R549). (DEDUCED, unsafe: log entry 25.) -/
def putWaits (s : State) (r : RegRef) : Bool :=
  !r.live && isPlaneReg r.n && (match r.ix with | d :: g :: _ => cloning s d g | _ => false)

/-! An access to the register windows (R14, R16, R39, R40, R651). -/

/-- The block `pkg.debug`, which no network initiator reaches (R651). -/
def inDebugBlock (a : Nat) : Bool := decide (0xB000600000 ≤ a) && decide (a < 0xB000700000)

/-- A read of a register window: STATUS, value and the state after. -/
def windowRead (w : Who) (quiet : Bool) (a n : Nat) (s : State) : Nat × W64 × State :=
  if !inBlock a || !inBlock (a + n - 1) then (DECODE, 0, s)
  else if inDebugBlock a || unitOff s a then (REFUSED, 0, s)
  else match regHit a n with
    | .reg r => readReg w quiet r s
    | .hole => (OK, 0, s)
    | .bad => (REFUSED, 0, s)

/-- A write of a register window: STATUS and the state after. -/
def windowWrite (w : Who) (a n : Nat) (v : W64) (s : State) : Nat × State :=
  if !inBlock a || !inBlock (a + n - 1) then (DECODE, s)
  else if inDebugBlock a || unitOff s a then (REFUSED, s)
  else match regHit a n with
    | .reg r => putReg w r v s
    | .hole => (OK, s)
    | .bad => (REFUSED, s)

/-- A write of a register window waits (R549). -/
def windowWaits (s : State) (a n : Nat) : Bool :=
  match regHit a n with
  | .reg r => putWaits s r
  | _ => false

/-- REGISTER_WRITE: a write at a register address (R13); the answer carries the STATUS (R331). -/
def execRegisterWrite (who : Who) (addr bytes : Nat) (v : W64) (s : State) : Host.Outcome State Fault Refusal :=
  if windowWaits s addr bytes then .next s
  else
    let r := windowWrite who addr bytes v s
    .next (r.2.answerWith r.1 0 0)

/-- RC_READ: a read at a register address, which clears the RC fields unless it is quiet (R18). -/
def execRcRead (who : Who) (addr bytes : Nat) (quiet : Bool) (s : State) : Host.Outcome State Fault Refusal :=
  let r := windowRead who quiet addr bytes s
  .next (r.2.2.answerWith r.1 r.2.1 0)

end Sys2Proof.Machine
end

