-- ==== Sys2Proof/Machine/Network.lean ====
section
/-! DEFINITION. The packet network: the injection of requests (R310, R317, R320, R321, R325, R334), their arrival at a
target (R308, R311 to R315, R331, R335), responses (R328) and timeouts (R327, R330). -/

namespace Sys2Proof.Machine
open Sys2Proof

/-- The network domain of a die runs (R602, R616). -/
def netUp (s : State) (d : Nat) : Bool := s.domOn d 33 && decide (s.hv .clkWait [] = 0)

/-! Injection. -/

/-- The destination of an address (R310): none is DECODE. -/
def dstOf (s : State) (d a n : Nat) : Option Nat :=
  match stateBlock a with
  | some (e, c, _, _) => if a / 0x1000 = (a + n - 1) / 0x1000 then some (caseEp e c 16) else none
  | none =>
    if !placeFits s a n then none
    else match place s a with
      | .dram => (dramMap s d a).map (fun x => ddrEp (x.1 / 2) (x.1 % 2))
      | .fabric e g => some (endpoint e (2 * (g % 4)) (g / 4 + 1) 0 0)
      | .engData e c _ _ _ => some (caseEp e c 16)
      | .engInstr e c _ _ _ => some (caseEp e c 16)
      | .caseMem e c _ => some (caseEp e c 16)
      | .sram e _ => some (outerEp e 0 0)
      | .dieReg e => some (outerEp e 0 1)
      | .pkgReg => some (endpoint 0 0 5 2 0)
      | .pcie e _ => some (pcieEp e)
      | .unassigned => none

/-- The channel address of a DRAM address under the map of die d (R410). -/
def dramAddr (s : State) (d a : Nat) : Nat := match place s a with
  | .dram => ((dramMap s d a).map (·.2)).getD 0
  | _ => 0

/-- The header of a packet in flight. -/
def Pkt.hdr : Pkt → Nat
  | .req _ _ _ _ _ h => h
  | .resp _ _ h => h

/-- The flits that a request reserves for its response (R317). -/
def respFlits (r : Req) : Nat := if r.op = .rd ∧ 48 < r.len then 1 + (r.len - 48 + 63) / 64 else 1

/-- The response space of an interface (R715). -/
def respSpace : Who → Nat
  | .engine _ _ _ => 32
  | .dma _ _ => 160
  | .scrub _ => 32
  | .core _ => 64
  | .guard => 16
  | .debug => 8
  | .fport _ _ _ => 512
  | .eth _ _ => 512
  | .pcie _ => 1024

/-- The requests that an interface may have outstanding: 16 of a scrub engine (R397), else as many as it has tags (R317). -/
def outLimit : Who → Nat
  | .scrub _ => 16
  | _ => 1024

/-- The clock of a port meets R283 or R284. -/
def portSound (s : State) (d g k : Nat) : Bool :=
  let n := portNet s d g k
  if portMode s d g k = 1 then
    match ratioDiv s d g n with
    | some v => decide (v % 2 = 0) && decide (4 ≤ v) && decide (v ≤ 32)
    | none => false
  else
    let f := netKHz s d g n
    decide (25000 * f.2 ≤ f.1) && decide (f.1 ≤ fabricMax s * f.2)

/-- An interface whose flits are not defined: a fabric port that breaks R283 or R284 (R285). -/
def flitsOpen (s : State) : Who → Bool
  | .fport d g k => !portSound s d g k
  | _ => false

/-- The interface may inject: its unit runs, and neither its quoin nor its configuration holds it (R281, R556, R557). -/
def mayInject (s : State) (w : Who) : Bool :=
  netUp s (whoDie w) &&
  match w with
  | .core d => s.runs d 32
  | .engine d c _ => s.runs d (16 + c.val) && !s.caseClosed d c
  | .dma d c => s.runs d (16 + c.val) && !s.caseClosed d c
  | .fport d g k => portOn s d g k && s.bit .galleyFportCfg (liveIx [d, g, k]) F.galleyFportCfg_INIT_EN && !galleyClosed s d g
  | .pcie d => s.runs d 38
  | .eth d _ => s.runs d 38
  | .scrub d => s.runs d 33
  | .guard => true
  | .debug => s.pdomOn 3

/-- The priority at which a request is sent (R325). -/
def sentPri (s : State) (r : Req) : Nat :=
  if r.pri = 3 ∧ tmoFld s r.who F.nocTmoCfg_P3_RATE = 0 then 2 else r.pri

/-- The tokens that a priority-3 request takes (R325). -/
def tokens (r : Req) : Nat := flitCount (reqPayload r).2 + respFlits r

/-- The lowest tag that is neither outstanding nor withheld (R329). (DESIGN CHOICE, unsafe: log entry 33.) -/
def freeTag (i : InitState) : Option Nat :=
  (List.range 1024).find? (fun t => decide (i.stale.get 0 t < 3) && i.outs.all (fun o => decide (o.tag ≠ t)))

/-- What becomes of the request whose turn it is. -/
inductive Turn where
  | send (r : Req) (dst xport : Nat)
  | localError (r : Req) (status : Nat)
  | idle
  deriving DecidableEq, Repr

/-- The first request that R334 does not hold back: `blocked` lists the DSTs of ordered requests that wait. (DESIGN
CHOICE, unsafe: log entry 33.) -/
def nextTurn (s : State) (i : InitState) (src : Nat) : List Nat → List Req → Turn
  | _, [] => .idle
  | blocked, r :: rest =>
    match dstOf s (epDie src) r.addr r.len with
    | none => .localError r DECODE
    | some dst =>
      match exitPort s false src dst with
      | none => if dst ∈ blocked then nextTurn s i src blocked rest else .localError r ROUTE
      | some x =>
        let apart := i.outs.any (fun o => decide (o.dst = dst) && (decide (o.req.pri ≠ sentPri s r) || decide (o.xport ≠ x)))
        if decide (dst ∈ blocked) || (r.ord && apart) then nextTurn s i src (dst :: blocked) rest
        else .send { r with pri := sentPri s r, ca := dramAddr s (epDie src) r.addr } dst x

/-- Remove the first equal request from a queue. -/
def dropReq (r : Req) (l : List Req) : List Req := l.eraseP (fun q => decide (q.acc = r.acc) && decide (q.off = r.off))

/-- The timeout exponent of an interface (the table of `tmo_cfg`): that of a scrub engine is fixed (R397). -/
def tmoExp (s : State) : Who → Nat
  | .scrub _ => 20
  | w => min 26 (max 10 (tmoFld s w F.nocTmoCfg_TMO_EXP))

/-- A request whose flits are not defined (R285): its operation, place, data and poison marks, at a target of the same DST, so
that no other galley meets it. (DEDUCED, unsafe: log entry 97.) -/
def junkReq (s : State) (d dst : Nat) (r : Req) : Req :=
  let x (i : Nat) : Nat := Config.portJunk (8 * s.freeCtr + i)
  let a := x 0 % 2 ^ 48
  let n := 1 + x 1 % (256 - a % 256)
  let (op, a, n) : ReqOp × Nat × Nat := match x 2 % 3 with
    | 0 => (.rd, a, n)
    | 1 => (.wr, a, n)
    | _ => (.at_, a / 8 * 8, 8)
  let place : Nat × Nat := if dstOf s d a n = some dst then (a, n) else (r.addr, r.len)
  let op := if op = .at_ ∧ place.2 ≠ 8 then .rd else op
  { r with op := op, addr := place.1, len := place.2, ca := dramAddr s d place.1, data := x 3 % 256 ^ place.2,
           cmp := x 4 % 256 ^ place.2, pmask := if op = .wr then x 5 % 16 else 0, lock := r.lock && decide (op = .wr) }

/-- Inject the next request of an interface, when its router has room (R316, R317, R321, R325, R326, R334). -/
def injectNext (w : Who) (s : State) : State :=
  let i := s.init w
  let src := epOf w
  match nextTurn s i src [] i.queue with
  | .idle => s
  | .localError r st =>
    let s := s.setInit w { i with queue := dropReq r i.queue }
    let s := if st = ROUTE then netFlag (epDie src) F.nocEstat_ROUTE s else s
    compSettle (pieceDone w r st 0 0 s)
  | .send r dst x =>
    let used := ((i.outs.filter fun o => match o.got with | some g => g.status != TIMEOUT | none => true).map
      (fun o => respFlits o.req)).sum
    let depth := max (tmoFld s w F.nocTmoCfg_P3_BURST) 6
    let t := if r.pri = 3 then 256 * tokens r else 0
    match freeTag i with
    | none => s
    | some tag =>
      if respSpace w < used + respFlits r ∨ outLimit w ≤ i.outs.length ∨ (r.pri = 3 ∧ 256 * depth < i.p3 + t) ∨
          meshRoom s src r.pri (flitCount (reqPayload r).2) = false then s
      else
        let gen := i.gens.get 0 tag
        let h := reqHeader r src dst tag gen x
        let s := s.setInit w { i with
          queue := dropReq r i.queue, p3 := i.p3 + t,
          outs := i.outs ++ [{ tag := tag, gen := gen, req := r, dst := dst, xport := x, exp := tmoExp s w, age := 0,
                               got := none }] }
        if flitsOpen s w then
          (if Config.portLost s.freeCtr then s.draw
          else
            let q := junkReq s (epDie src) dst r
            let h := reqHeader q src dst tag gen x
            sendPacket src (.req q tag gen dst x h) h (packetFlits h (reqPayload q)) s.draw)
        else sendPacket src (.req r tag gen dst x h) h (packetFlits h (reqPayload r)) s

/-- A request that a design presents at its port (R560): held back while the galley is quiesced. (DESIGN CHOICE, safe:
log entry 29.) -/
def takeOffer (w : Who) (o : Offer) (m : OfferMarks) (s : State) : State :=
  match w with
  | .fport d g _ =>
    if mayInject s w && !quiesced s d g then
      openAccess .outside { mkReq s w o.op o.addr o.len o.data with
        cmp := o.cmp, afn := o.afn, lock := m.lock, ord := m.ord, pri := m.pri.toNat,
        pmask := if o.op = .wr then o.pmask.toNat else 0 } s
    else s
  | _ => s

/-- INJECT: `offer` is a new request of a design, to travel as `marks` says. -/
def execInject (who : Who) (offer : Option Offer) (marks : OfferMarks) (s : State) : Host.Outcome State Fault Refusal :=
  let s := match offer with
    | some o => takeOffer who o marks s
    | none => s
  .next (if mayInject s who then injectNext who s else s)

/-! Arrival. -/

/-- A unit answers, refuses because it is Off, or lets the request wait: its domain is not yet On, or its die Held (R384,
R614, R616). -/
inductive Gate where
  | run | off | wait
  deriving DecidableEq, Repr

/-- How a unit of a domain takes an access. (DEDUCED, unsafe: log entry 25.) -/
def unitGate (s : State) (d k : Nat) : Gate := if s.domOff d k then .off else if s.runs d k then .run else .wait

/-- The requests of one source that reached the target earlier and hold this one back there (R335). (DEDUCED, safe: log
entry 34.) -/
def orderHolds (r : Req) (earlier : List Req) : Bool :=
  earlier.any fun q => decide (q.who = r.who) &&
    (r.ord || (decide (q.addr / 64 ≤ (r.addr + r.len - 1) / 64) && decide (r.addr / 64 ≤ (q.addr + q.len - 1) / 64) &&
      decide (q.addr < r.addr + r.len) && decide (r.addr < q.addr + q.len)))

/-- A request reaches on-chip memory of an engine or the SRAM of a core (R37, R61, R63, R64, R313 to R315, R398).
(DEDUCED, unsafe: log entry 35.) -/
def chipAccess (src : Nat) (pl : Place) (key : Nat) (r : Req) (tag gen : Nat) (s : State) : State :=
  match r.op with
  | .at_ => respond src r tag gen REFUSED 0 0 s
  | .rd =>
    let o := chipRead pl key r.addr r.len s
    match r.who with
    | .scrub _ => respond src r tag gen OK (statusBytes (s.mem.corrN key r.len) (s.mem.badN key r.len) r.len) 0 o.2.2
    | _ => respond src r tag gen OK o.1 (sectors o.2.1) o.2.2
  | .wr =>
    let ok : Bool := match pl with
      | .engInstr d c p _ _ =>
        instrWritable s d c p ||
          (decide (r.who = .debug) && decide ((s.unit (.eng (fin4 d) (fin16 c) (posFin p))).st = .halted))
      | _ => true
    if ok then respond src r tag gen OK 0 0 (chipWrite pl key r.len r.data (sectorBytes r.pmask r.len) s)
    else respond src r tag gen REFUSED 0 0 s

/-- The initiators that reach the physical aliases and the SRAM of a die (R36, R37). -/
def mayAlias (d : Nat) : Who → Bool
  | .core e => decide (e.val = d)
  | .guard => true
  | .debug => true
  | _ => false

/-- The alias of a position that is Retired or under test is not served (R218, R629), nor that of the source or the spare of
a migration in its pause (R229). (DEDUCED, unsafe: log entry 26.) -/
def aliasServed (s : State) (d c p : Nat) : Bool :=
  if (s.case d c).migr.isSome && (decide (p = unnum s d c) || decide (p = s.posOf d c (migrSlot s d c))) then false
  else decide (s.slotOf d c p < 8) || !(decide (ustate s d c = 2) || decide (ustate s d c = 3))

/-- A request to the state block of an engine or of a core (R662). -/
def blockAccess (src : Nat) (u : UnitId) (off : Nat) (r : Req) (tag gen : Nat) (s : State) : State :=
  let own := match u, r.who with
    | _, .debug => true
    | .eng d _ _, .core e => decide (d = e)
    | .core d, .core e => decide (d = e)
    | _, _ => false
  match r.op with
  | .rd =>
    if own && blockReadable s u then respond src r tag gen OK (blockRead s u off r.len) 0 s
    else respond src r tag gen REFUSED 0 0 s
  | .wr =>
    if own && blockWritable s u (decide (r.who = .debug)) && decide (r.pmask = 0) then
      respond src r tag gen OK 0 0 (blockWrite u off r.len r.data s)
    else respond src r tag gen REFUSED 0 0 s
  | .at_ => respond src r tag gen REFUSED 0 0 s

/-- A request to a register window (R14, R16, R311, R314, R315): none while a write waits (R549). -/
def regAccess (src : Nat) (r : Req) (tag gen : Nat) (s : State) : Option State :=
  match r.op with
  | .rd =>
    let o := windowRead r.who r.quiet r.addr r.len s
    some (respond src r tag gen o.1 o.2.1.toNat 0 o.2.2)
  | .wr =>
    if r.pmask ≠ 0 then some (respond src r tag gen REFUSED 0 0 s)
    else if windowWaits s r.addr r.len then none
    else
      let o := windowWrite r.who r.addr r.len (BitVec.ofNat 64 r.data) s
      some (respond src r tag gen o.1 0 0 o.2)
  | .at_ => some (respond src r tag gen REFUSED 0 0 s)

/-- The block RAM that is the inbound queue of a port: mode 3 (R265, R287). -/
def portQueue (s : State) (d g k : Nat) : Option Nat :=
  (List.range 480).find? fun b => decide (ramMode s d g b = 3) && decide (cell s d g (.ramPort b) % 4 = k)

/-- The entries that flits take in a queue: 64 bytes a flit, low bytes first. (DESIGN CHOICE, unsafe: log entry 74.) -/
def flitEntries (s : State) (d g b : Nat) (flits : List Nat) : List Nat :=
  let n := portBytes s d g b false
  flits.flatMap fun f => (List.range (64 / n)).map fun i => f / 256 ^ (n * i) % 256 ^ n

/-- A packet whose flits a port is writing into its queue is still there. -/
def packetThere (s : State) (w : Who) (h : Nat) : Bool :=
  s.flight.any (fun p => decide (p.hdr = h)) || (s.init w).outs.any (fun o => decide (o.gotHdr = h) &&
    o.got.any (fun r => decide (r.status ≠ TIMEOUT)))

/-- A port in mode 3 writes what its queue can take of the flits of an inbound packet, which `h` names, into the queue; it stops
while the queue is FULL (R287). A packet is written whole before another. -/
def portPour (d g k h : Nat) (flits : List Nat) (s : State) : State :=
  match portQueue s d g k with
  | none => s
  | some b =>
    let cur := if packetThere s (fportOf d g k) (s.hv .portPkt [d, g, k] - 1) then s.hv .portPkt [d, g, k] else 0
    if cur ≠ 0 ∧ cur ≠ h + 1 then s
    else
      let from_ := if cur = 0 then 0 else s.hv .portDone [d, g, k]
      let o := ((flitEntries s d g b flits).drop from_).foldl (fun (x : Nat × State) v =>
        if queueFlag x.2 d g b 0 then x else (x.1 + 1, queueWrite d g b v false x.2)) (from_, s)
      if o.1 = 0 then s else (o.2.setHv .portPkt [d, g, k] (h + 1)).setHv .portDone [d, g, k] o.1

/-- Every flit of the packet is in the queue of the port, if it has one. -/
def portPoured (s : State) (d g k h : Nat) (flits : List Nat) : Bool := match portQueue s d g k with
  | none => true
  | some b => decide (s.hv .portPkt [d, g, k] = h + 1) &&
      decide (s.hv .portDone [d, g, k] = (flitEntries s d g b flits).length)

/-- The port has taken the packet. -/
def portTaken (d g k : Nat) (s : State) : State := (s.setHv .portPkt [d, g, k] 0).setHv .portDone [d, g, k] 0

/-- The port takes flits from the network: its quoins are open, the galley is not quiesced, and its network runs (R278, R556,
R560). -/
def portAccepts (s : State) (d g k : Nat) : Bool := !galleyClosed s d g && !quiesced s d g && portOn s d g k

/-- The design answers a request, with flits that are not defined at a port that breaks R283 or R284 (R285). -/
def designAnswers (d g k : Nat) (r : Req) (tag gen : Nat) (o : FabricReply) (s : State) : State :=
  let src := epOf (fportOf d g k)
  let x (i : Nat) : Nat := Config.portJunk (8 * s.freeCtr + i)
  if flitsOpen s (fportOf d g k) then
    (if Config.portLost s.freeCtr then s.draw
    else respond src r tag gen (x 0 % 8) (x 1 % 256 ^ r.len) (x 2 % 16) s.draw)
  else respond src r tag gen OK o.data o.pmask.toNat s

/-- A request reaches a galley (R34, R278, R281, R285, R287, R552, R556, R560): a port on a running network hands it to the
design, which may answer at once. -/
def fabricArrive (d g : Nat) (r : Req) (tag gen h : Nat) (reply : Option FabricReply) (s : State) : Option State :=
  let even := endpoint d (2 * (g % 4)) (g / 4 + 1) 0 0
  if s.domOff d g then some (respond even r tag gen REFUSED 0 0 s)
  else if !s.runs d g then none
  else match claimPort s d g r.addr, claimPort s d g (r.addr + r.len - 1) with
    | some k, some k' =>
      if k ≠ k' then some (respond even r tag gen DECODE 0 0 s)
      else if !portAccepts s d g k || !portPoured s d g k h (packetFlits h (reqPayload r)) then none
      else
        let w := fportOf d g k
        let t := portTaken d g k s
        if flitsOpen s w && Config.portLost s.freeCtr then some t.draw
        else
          let t := if flitsOpen s w then t.draw else t
          match reply with
          | some o => some (designAnswers d g k r tag gen o t)
          | none => some { t with accepted := t.accepted ++ [(r, tag, gen, epOf w)] }
    | _, _ => some (respond even r tag gen DECODE 0 0 s)

/-- A request reaches its target; none while it must wait there. -/
def arrive (r : Req) (tag gen dst h : Nat) (reply : Option FabricReply) (s : State) : Option State :=
  let fail (src st : Nat) : Option State := some (respond src r tag gen st 0 0 s)
  match stateBlock r.addr with
  | some (d, c, p, off) =>
    let src := caseEp d c 16
    match unitGate s d (16 + c) with
    | .off => fail src REFUSED
    | .wait => none
    | .run =>
      if r.lock || !aliasServed s d c p then fail src REFUSED
      else some (blockAccess src (.eng (fin4 d) (fin16 c) (posFin p)) off r tag gen s)
  | none =>
    let pl := place s r.addr
    if r.lock ∧ pl ≠ .dram then fail dst REFUSED
    else
      let engine (d c p : Nat) (alias_ : Bool) : Option State :=
        let src := caseEp d c 16
        match unitGate s d (16 + c), chipKey pl with
        | .off, _ => fail src REFUSED
        | .run, some key =>
          if alias_ && (!mayAlias d r.who || !aliasServed s d c p) then fail src REFUSED
          else if (s.unit (.eng (fin4 d) (fin16 c) (posFin p))).st = .migrating then none
          else some (chipAccess src pl key r tag gen s)
        | _, _ => none
      match pl with
      | .dram =>
        let d := epDie dst
        let k := if dst = ddrEp d 0 then 0 else 1
        if s.domOff d 34 then fail dst REFUSED
        else if r.ord && orderHolds r ((s.ddr d k).reqs.map (·.req)) then none
        else ddrArrive d k r.ca r tag gen s
      | .fabric d g => fabricArrive d g r tag gen h reply s
      | .engData d c p _ l => engine d c p l
      | .engInstr d c p _ l => engine d c p l
      | .caseMem d c o =>
        let src := caseEp d c 16
        match unitGate s d (16 + c) with
        | .off => fail src REFUSED
        | .wait => none
        | .run =>
          if caseTested s d c then fail src REFUSED
          else if orderHolds r ((s.case d c).inb.map (·.req)) then none
          else some (openInbound d c o r tag gen s)
      | .sram d _ =>
        let src := outerEp d 0 0
        match unitGate s d 32, chipKey pl with
        | .off, _ => fail src REFUSED
        | .run, some key =>
          if (match r.who with | .core _ => false | .guard => false | .debug => false | _ => true) then fail src REFUSED
          else some (chipAccess src pl key r tag gen s)
        | _, _ => none
      | .dieReg d =>
        let o := r.addr % 0x100000000
        if 0x10000 ≤ o ∧ o + r.len ≤ 0x11000 then
          (match unitGate s d 32 with
            | .off => fail dst REFUSED
            | .wait => none
            | .run => some (blockAccess dst (.core (fin4 d)) (o - 0x10000) r tag gen s))
        else regAccess dst r tag gen s
      | .pkgReg => regAccess dst r tag gen s
      | .pcie d _ =>
        if s.domOff d 38 ∨ r.op = .at_ then fail dst REFUSED
        else if s.runs d 38 && !orderHolds r ((s.pcies.get [] d).map (·.1)) then some (pcieOut d r tag gen s) else none
      | .unassigned => fail dst DECODE

/-- A request packet of an interface, with its tag and generation, that lies whole at the router of its DST. -/
def isReq (s : State) (w : Who) (op : ReqOp) (tag gen : Nat) : Pkt → Bool
  | .req r t g _ x h => decide (r.who = w) && decide (r.op = op) && decide (t = tag) && decide (g = gen) && decide (x = 15) &&
      (restsAt s h).isSome
  | .resp _ _ _ => false

/-- A packet leaves the mesh for its endpoint. -/
def leaveMesh (n hdr : Nat) (s : State) : State :=
  match restsAt s hdr with
  | some k => takeMesh k { s with flight := s.flight.eraseIdx n }
  | none => { s with flight := s.flight.eraseIdx n }

/-- The flits of a packet that leaves the mesh are read from the queue of its router (R385). -/
def readRest (hdr : Nat) (s : State) : State :=
  if s.netFlaws = [] then s
  else
    let d := epDie (hdrDst hdr)
    ((restsAt s hdr).map s.meshQ).getD [] |>.foldl (fun t f =>
      if f.hdr = hdr then readFlit d (lastStop s d hdr).1 hdr f.idx false t else t) s

/-- The header of a packet that lies at the router of its last stop is uncorrectable there: the router discards it (R385). -/
def restLost (s : State) (hdr : Nat) : Bool :=
  let d := epDie (hdrDst hdr)
  headLost s d (lastStop s d hdr).1 hdr 0

/-- A packet that its endpoint can take stands before another at the same output of a router: it has the higher priority, or
is a response of the same (R324). A response is always taken (R318); `takes` says of which requests the target is free. -/
def outranked (takes : Pkt → Bool) (hdr : Nat) (s : State) : Bool :=
  let d := epDie (hdrDst hdr)
  s.flight.any fun k =>
    let h := k.hdr
    decide (epDie (hdrDst h) = d ∧ lastStop s d h = lastStop s d hdr ∧ queueRank (hdrQueue hdr) < queueRank (hdrQueue h)) &&
      (restsAt s h).isSome && takes k

/-- The flits of a request that lies at its router go into the queue of the fabric port that claims it (R285, R287). -/
def requestPours (r : Req) (h : Nat) (s : State) : State :=
  match place s r.addr with
  | .fabric d g => (match claimPort s d g r.addr with
    | some k =>
      if s.runs d g && decide (claimPort s d g (r.addr + r.len - 1) = some k) && portAccepts s d g k then
        portPour d g k h (packetFlits h (reqPayload r)) s
      else s
    | none => s)
  | _ => s

/-- The target of a request that lies at its router is free to take it. -/
def targetFree (s : State) : Pkt → Bool
  | .req r t g dst _ h => (arrive r t g dst h none (requestPours r h s)).isSome
  | .resp _ _ _ => true

/-- A request arrives, or the design answers one that it accepted earlier. A request that must wait at its target stays in
the router (R318), and so does one at whose output another ranks before it (R324). -/
def requestArrives (w : Who) (op : ReqOp) (tag gen : Nat) (reply : Option FabricReply) (s : State) : State :=
  match s.flight.findIdx? (isReq s w op tag gen) with
  | some n =>
    (match s.flight[n]? with
    | some (.req _ _ _ dst _ h) =>
      if !netUp s (epDie dst) || outranked (targetFree s) h s then s
      else if restLost s h then pruneFlight (leaveMesh n h (readRest h s))
      else
        let s' := readRest h s
        (match s'.flight[n]? with
        | some (.req r t g dst _ h) => (arrive r t g dst h reply (leaveMesh n h (requestPours r h s'))).getD (requestPours r h s)
        | _ => s)
    | _ => s)
  | none =>
    match s.accepted.find? (fun a => decide (a.1.who = w) && decide (a.1.op = op) && decide (a.2.1 = tag) && decide (a.2.2.1 = gen)),
        reply with
    | some a, some o =>
      (match place s a.1.addr with
      | .fabric d g =>
        let k := ((List.range 4).find? (fun k => epOf (fportOf d g k) == a.2.2.2)).getD 0
        if galleyClosed s d g || !netUp s d || !portOn s d g k then s
        else designAnswers d g k a.1 a.2.1 a.2.2.1 o { s with accepted := s.accepted.erase a }
      | _ => s)
    | _, _ => s

/-- RD, WR and AT: a request arrives at its target (R308, R315). -/
def execRdReq (who : Who) (tag gen : Nat) (reply : Option FabricReply) (s : State) : Host.Outcome State Fault Refusal :=
  .next (requestArrives who .rd tag gen reply s)

def execWrReq (who : Who) (tag gen : Nat) (reply : Option FabricReply) (s : State) : Host.Outcome State Fault Refusal :=
  .next (requestArrives who .wr tag gen reply s)

def execAtReq (who : Who) (tag gen : Nat) (reply : Option FabricReply) (s : State) : Host.Outcome State Fault Refusal :=
  .next (requestArrives who .at_ tag gen reply s)

/-! Responses and timeouts. -/

/-- A response packet that lies whole at the router of its DST. -/
def isResp (s : State) (w : Who) (op : ReqOp) (tag gen : Nat) : Pkt → Bool
  | .resp r x h => decide (r.who = w) && decide (r.op = op) && decide (r.tag = tag) && decide (r.gen = gen) && decide (x = 15) &&
      (restsAt s h).isSome
  | .req _ _ _ _ _ _ => false

/-- The interface holds what it accepts: a fabric port whose quoins are closed, or whose network has stopped (R278, R556). -/
def portHolds (s : State) : Who → Bool
  | .fport d g k => galleyClosed s d g || !portOn s d g k
  | _ => false

/-- A response reaches the unit behind an interface; at a port that breaks R283 or R284 it is lost, or its STATUS, data and
poison marks are not defined (R285). -/
def deliverResponse (w : Who) (r : Resp) (s : State) : State :=
  let x (i : Nat) : Nat := Config.portJunk (8 * s.freeCtr + i)
  if flitsOpen s w then
    (if Config.portLost s.freeCtr then s.draw
    else responseIn { r with status := x 0 % 8, data := x 1 % 256 ^ r.len, pmask := x 2 % 16 } s.draw)
  else responseIn r s

/-- The interface is a fabric port with a queue: the flits of its responses go there (R287). -/
def portQueued (s : State) : Who → Bool
  | .fport d g k => (portQueue s d g k).isSome
  | _ => false

/-- A response that a port holds reaches the design, by way of its queue if it has one: once the last of its flits is there
(R287, R556). -/
def deliverOne (w : Who) (o : OutTag) (s : State) : State :=
  match o.got, w with
  | some r, .fport d g k =>
    let flits := packetFlits o.gotHdr (respPayload r)
    let t := if r.status = TIMEOUT then s else portPour d g k o.gotHdr flits s
    if r.status = TIMEOUT then compSettle (responseIn r t)
    else if portPoured t d g k o.gotHdr flits then compSettle (deliverResponse w r (portTaken d g k t)) else t
  | some r, _ => compSettle (deliverResponse w r s)
  | none, _ => s

/-- The responses that the interfaces of a die hold and need hold no longer are delivered (R278, R556). -/
def deliverReady (d : Nat) (s : State) : State :=
  s.inits.foldl (fun t e =>
    if whoDie e.1 ≠ d ∨ portHolds s e.1 = true then t else e.2.outs.foldl (fun t o => deliverOne e.1 o t) t) s

/-- A fabric port whose quoins are closed, or whose queue takes its flits, accepts a response and delivers it after they open,
or as the queue takes it (R287, R318, R556). `h` is its header. (DEDUCED, unsafe: log entry 37.) -/
def acceptResponse (w : Who) (r : Resp) (h : Nat) (s : State) : State :=
  let i := s.init w
  let hit (o : OutTag) : Bool := decide (o.tag = r.tag) && decide (o.gen = r.gen) && o.got.isNone
  if (portHolds s w || portQueued s w) && i.outs.any hit then
    s.setInit w { i with outs := i.outs.map fun o => if hit o then { o with got := some r, gotHdr := h } else o }
  else deliverResponse w r s

/-- A response reaches its initiator, which accepts every one (R318, R328). -/
def responseArrives (w : Who) (op : ReqOp) (tag gen : Nat) (s : State) : State :=
  match s.flight.findIdx? (isResp s w op tag gen) with
  | some n =>
    (match s.flight[n]? with
    | some (.resp _ _ h) =>
      if !netUp s (whoDie w) || outranked (targetFree s) h s then s
      else if restLost s h then pruneFlight (leaveMesh n h (readRest h s))
      else
        let s' := readRest h s
        (match s'.flight[n]? with
        | some (.resp r _ h) => compSettle (acceptResponse w r h (leaveMesh n h s'))
        | _ => s)
    | _ => s)
  | none => s

/-- RDR, WRR and ATR (R308). -/
def execRdr (who : Who) (tag gen : Nat) (s : State) : Host.Outcome State Fault Refusal :=
  .next (responseArrives who .rd tag gen s)

def execWrr (who : Who) (tag gen : Nat) (s : State) : Host.Outcome State Fault Refusal :=
  .next (responseArrives who .wr tag gen s)

def execAtr (who : Who) (tag gen : Nat) (s : State) : Host.Outcome State Fault Refusal :=
  .next (responseArrives who .at_ tag gen s)

/-- The timers of the initiator are frozen: it is halted for debug (R330), or its clock waits (R602). (DESIGN CHOICE,
safe: log entry 36.) -/
def timersFrozen (s : State) (w : Who) : Bool :=
  decide (s.hv .clkWait [] ≠ 0) ||
  (match w with | .dma d c => caseHalted s d c | _ => false) ||
  (match whoUnit s w with | some u => decide ((s.unit u).st = .halted) | none => false)

/-- A request has not expired yet: a port that holds its responses keeps the TIMEOUT of one that has (R327, R556). -/
def OutTag.live (o : OutTag) : Bool := match o.got with
  | some r => r.status != TIMEOUT
  | none => true

/-- A request may expire: its timer has counted 2^TMO_EXP ns, at 0.625 ns a `noc` cycle (R326). -/
def mayExpire (o : OutTag) : Bool := o.live && decide (8 * 2 ^ o.exp ≤ 5 * o.age)

/-- A request expires in this cycle: at its end 1.125 × 2^TMO_EXP ns have passed, or the next one would pass them (R326). -/
def mustExpire (o : OutTag) : Bool := o.live && decide (9 * 2 ^ o.exp < 5 * (o.age + 1))

/-- An interface that holds what it accepts holds the TIMEOUT of a request as well (R327, R556). -/
def expireHeld (w : Who) (o : OutTag) (s : State) : State :=
  let t := requestExpires w o s
  let x := t.init w
  let i := s.init w
  let gen := (o.gen + 1) % 4
  let r : Resp := { who := w, op := o.req.op, tag := o.tag, gen := gen, status := TIMEOUT, data := 0, len := o.req.len, pmask := 0 }
  t.setInit w { x with
    accs := i.accs, stale := if o.got.isSome then i.stale else x.stale,
    outs := x.outs ++ [{ o with gen := gen, got := some r }] }

/-- The end of a request whose time is over: by its genuine response when that lies at its router in this cycle (R327), else by
TIMEOUT. -/
def requestEnds (w : Who) (o : OutTag) (s : State) : State :=
  match o.got, s.flight.find? (isResp s w o.req.op o.tag o.gen) with
  | none, some _ => responseArrives w o.req.op o.tag o.gen s
  | _, _ => compSettle (if portHolds s w then expireHeld w o s else requestExpires w o s)

/-- TIMEOUT: an outstanding request expires (R326, R327, R330). -/
def execTimeout (who : Who) (tag : Nat) (s : State) : Host.Outcome State Fault Refusal :=
  .next (match (s.init who).outs.find? (fun o => o.tag == tag) with
    | some o => if timersFrozen s who || !mayExpire o then s else requestEnds who o s
    | none => s)

/-! One `noc` cycle of a die. -/

/-- The interfaces of a die in one cycle: the timers count, the regulators are refilled, and a request whose timer has
reached 1.125 × 2^TMO_EXP ns expires (R325, R326, R330). -/
def timerCycle (d : Nat) (s : State) : State :=
  let tick (e : Who × InitState) : Who × InitState :=
    if whoDie e.1 ≠ d then e
    else
      (e.1, { e.2 with
        p3 := e.2.p3 - tmoFld s e.1 F.nocTmoCfg_P3_RATE,
        outs := if timersFrozen s e.1 then e.2.outs else e.2.outs.map fun o => { o with age := o.age + 1 } })
  let s := { s with inits := s.inits.map tick }
  s.inits.foldl (fun t e =>
    if whoDie e.1 ≠ d ∨ timersFrozen s e.1 = true then t
    else e.2.outs.foldl (fun t o => if mustExpire o then requestEnds e.1 o t else t) t) s

/-- The crossing ports of a die move to the next slot: at slot 0 the swaps that are due take place and the planes of new
widths are read (R192, R196, R198, R362). -/
def portSlots (d : Nat) (s : State) : State :=
  let s := (List.range 12).foldl (fun t p => xportSwap d p t) s
  let n := (s.hv .portSlot [d] + 1) % 128
  let s := s.setHv .portSlot [d] n
  if n ≠ 0 then s
  else (List.range 12).foldl (fun t p =>
    let w := t.hv .planeNext [d, p]
    if w = 0 then t else (t.setFld .nocXportImpCs [d, p] F.nocXportImpCs_PLANE (w - 1)).setHv .planeNext [d, p] 0) s

/-- One `noc` cycle of a die: the frames that are due are handed over, every router and crossing port moves its flits, and
the timers and the slot counters advance. -/
def netCycle (d : Nat) (s : State) : State :=
  if netUp s d then
    portSlots d (timerCycle d (deliverReady d (repliesCycle d ((List.range 12).foldl (enterCycle d)
      (meshCycle d (dueHandovers d s))))))
  else s

/-- One `noc` cycle of the device. (DESIGN CHOICE, safe: log entry 2.) -/
def nocCycle (s : State) : State :=
  let s := (List.range 4).foldl (fun t d => netCycle d t) s
  if s.hv .clkWait [] = 0 then s.setHv .nocCycle [] (s.hv .nocCycle [] + 1) else s

end Sys2Proof.Machine
end

