-- ==== Sys2Proof/Machine/Port.lean ====
section
/-! DEFINITION. The debug port: its two paths (R648 to R652, R716), the debug initiator (R654, R655) and the IEEE 1149.1
instructions (R670 to R672). -/

namespace Sys2Proof.Machine
open Sys2Proof

/-! What the unlock scope permits (R652, R716). -/

/-- The registers of `pkg.sec` that the debug port reaches while debug is locked. (DEDUCED, unsafe: log entry 55.) -/
def openReg : RegName → Bool
  | .secDchal | .secDresp | .secDctl | .secIdkey | .secSstat => true
  | _ => false

/-- A GO of `fop` whose range overlaps the standing region (R544, R716). -/
def fopStanding (s : State) (v : W64) : Bool :=
  let a := s.fld .guardFarg [] F.guardFarg_FADDR / 64 * 64
  let n := s.fld .guardFarg [] F.guardFarg_LEN * 64
  decide (F.guardFop_GO.get v = 1) && decide (a < copyBase 3) && decide (copyBase 2 < a + n)

/-- The bits that a write of a register changes by its access codes: a changed RW field, or a 1 to a W1S or W1C
field. -/
def changes (s : State) (n : RegName) (ix : List Nat) (v : W64) : W64 :=
  let p := n.spec
  let old := s.reg n (homeIx n ix)
  let rw := p.rw ||| (if p.rwl ≠ 0 ∧ old.getLsbD p.lock = true then 0 else p.rwl)
  ((old ^^^ v) &&& BitVec.ofNat 64 rw) ||| (v &&& BitVec.ofNat 64 (p.w1s ||| p.w1c))

/-- Every bit of SCOPE that the write needs is granted (R716). -/
def writeAllowed (s : State) (n : RegName) (ix : List Nat) (v : W64) : Bool :=
  let c := changes s n ix v
  let needs (m : W64) (bit : Nat) : Bool := decide (c &&& m = 0) || granted s bit
  match n with
  | .debugHreq | .debugCtl | .ctlRun | .ctlBoot => needs (BitVec.allOnes 64) 2
  | .debugLoupe => needs (BitVec.allOnes 64) 3
  | .debugAcc | .debugData => true
  | .caseImpCtl => needs F.caseImpCtl_REV_WAIT.mask 5 && needs (~~~F.caseImpCtl_REV_WAIT.mask) 1
  | .powerRcause => needs F.powerRcause_GRST.mask 6
  | .guardFop =>
    needs F.guardFop_RESELECT.mask 6 && needs (~~~F.guardFop_RESELECT.mask) 1 && (!fopStanding s v || granted s 6)
  | n => openReg n || needs (BitVec.allOnes 64) 1

/-! The debug initiator (R654, R655). -/

/-- The request that `acc` describes may be issued: a read needs OBSERVE, a write the bits of its changes. (DEDUCED,
unsafe: log entry 55.) -/
def requestAllowed (s : State) (write : Bool) (a n : Nat) (data : W64) : Bool :=
  if !write then granted s 0
  else match place s a with
    | .dieReg _ | .pkgReg => (match regHit a n with | .reg r => writeAllowed s r.n r.ix data | _ => granted s 1)
    | _ => granted s 1

/-- A write of `acc` (R654): GO issues one request. -/
def accWrite (v : W64) (s : State) : State :=
  let s := (plainWrite .debugAcc [] v s).setFld .debugAcc [] F.debugAcc_GO 0
  if F.debugAcc_GO.get v = 0 ∨ s.bit .debugAcc [] F.debugAcc_BUSY = true then s
  else
    let a := F.debugAcc_ADDR.get v
    let n := 2 ^ F.debugAcc_SIZE.get v
    let wr := decide (F.debugAcc_WRITE.get v = 1)
    let data := (s.reg .debugData []).toNat % 256 ^ n
    if a % n ≠ 0 ∨ requestAllowed s wr a n (BitVec.ofNat 64 data) = false then
      s.setFld .debugAcc [] F.debugAcc_STATUS REFUSED
    else
      let r := { mkReq s .debug (if wr then .wr else .rd) a n (if wr then data else 0) with
        pri := F.debugAcc_PRI.get v, quiet := !wr && decide (F.debugAcc_NOQUIET.get v = 0) }
      openAccess .debug r (s.setFld .debugAcc [] F.debugAcc_BUSY 1)

/-- DEBUG_ACCESS: `acc` written with GO 1 (R654). -/
def execDebugAccess (v : W64) (s : State) : Host.Outcome State Fault Refusal :=
  .next (if s.pdomOn 3 && !debugLocked s then (accWrite (withBit F.debugAcc_GO v) s).answerWith OK 0 0
    else s.answerWith REFUSED 0 0)

/-! The four blocks of the port (R648, R649). -/

def portBase : Fin 4 → Nat
  | 0 => 0xB000400000
  | 1 => 0xB000500000
  | 2 => 0xB000600000
  | 3 => 0xB000300000

/-- A write of a register through the port. -/
def portPut (r : RegRef) (v : W64) (s : State) : Nat × State :=
  match r.n with
  | .debugAcc => (OK, accWrite v s)
  | .debugData => (OK, plainWrite .debugData [] v s)
  | .debugCtl => (OK, plainWrite .debugCtl [] v s)
  | .debugHreq => hreqWrite v s
  | .debugHstat => (OK, plainWrite .debugHstat [] v s)
  | .debugLoupe => (OK, plainWrite .debugLoupe r.ix v s)
  | _ => putReg .debug r v s

/-- An access through the port: STATUS, read data and the state after (R14 to R16, R652, R716). -/
def portAccess (a : Nat) (w64 write : Bool) (data : W64) (s : State) : Nat × W64 × State :=
  match regHit a (if w64 then 8 else 4) with
  | .bad => (REFUSED, 0, s)
  | .hole => (if debugLocked s || (!write && !granted s 0) then REFUSED else OK, 0, s)
  | .reg r =>
    let v := if w64 then data else data &&& 0xFFFFFFFF
    if debugLocked s && !openReg r.n then (REFUSED, 0, s)
    else if write then
      if debugLocked s || writeAllowed s r.n r.ix v then
        let o := portPut r v s
        (o.1, 0, o.2)
      else (REFUSED, 0, s)
    else if openReg r.n || granted s 0 then (OK, regView .debug r.n r.ix s, s)
    else (REFUSED, 0, s)

/-! The IEEE 1149.1 port (R649, R670 to R672). -/

def setTap (x : TapState) (s : State) : State := { s with tap := x }

/-- The instruction acts as BYPASS. -/
def tapBypass (s : State) : State := setTap { s.tap with ir := 0xFF } s

/-- DREG: one access (R649). -/
def dregAccess (blk : Fin 4) (off : BitVec 20) (w64 write : Bool) (data : W64) (s : State) : State :=
  if !s.pdomOn 3 then tapBypass s
  else
    let r := portAccess (portBase blk + off.toNat) w64 write data s
    let s := r.2.2
    let res := if r.1 = OK then 0 else if r.1 = REFUSED then 2 else 3
    let s := s.answerWith r.1 r.2.1 0
    if r.1 = OK ∧ write = false then setTap { s.tap with ir := 0x20, dr := r.2.1, res := res } s
    else (setTap { s.tap with ir := 0x20, dr := Config.dregOpen s.freeCtr, res := res } s).draw

def execDreg (blk : Fin 4) (off : BitVec 20) (w64 write : Bool) (data : W64) (s : State) :
    Host.Outcome State Fault Refusal := .next (dregAccess blk off w64 write data s)

/-- The endpoint exposes the debug window as BAR 4 (R650). -/
def windowExposed (s : State) (d : Fin 4) : Bool :=
  s.bit .pcieDbgwin [d] F.pcieDbgwin_EN && !s.bit .pcieCfg [d] F.pcieCfg_ROLE && s.bit .pcieStatus [d] F.pcieStatus_UP &&
    s.runs d 38

/-- DEBUG_WINDOW: a request to the debug BAR; the answer's STATUS is not 0 for a completion with UR (R647, R650). -/
def debugWindow (far : Bool) (off : BitVec 22) (w64 write : Bool) (data : W64) (s : State) : State :=
  if !windowExposed s (pcieDie far) then s
  else if !s.pdomOn 3 then s.answerWith REFUSED 0 0
  else
    let blk : Fin 4 := ⟨off.toNat / 2 ^ 20 % 4, by omega⟩
    let r := portAccess (portBase blk + off.toNat % 2 ^ 20) w64 write data s
    r.2.2.answerWith r.1 r.2.1 0

def execDebugWindow (far : Bool) (off : BitVec 22) (w64 write : Bool) (data : W64) (s : State) :
    Host.Outcome State Fault Refusal := .next (debugWindow far off w64 write data s)

/-- An instruction of the SCAN group takes effect, or acts as BYPASS and sets SCANREF (R652, R671). (DEDUCED, unsafe:
log entry 56.) -/
def scanInstr (op : Nat) (eff : TapState → TapState) (s : State) : State :=
  if !s.pdomOn 3 then tapBypass s
  else if granted s 4 && (decide (op = 2) || pinsFree s) then setTap (eff { s.tap with ir := op }) s
  else hstatFlag F.debugHstat_SCANREF (tapBypass s)

/-- The IDCODE value (R670, R706). -/
def tapIdcode (s : State) : Nat :=
  F.idIdcode_STEPPING.get (identityCode s) * 2 ^ 28 + 0x9440 * 2 ^ 12 + 0x1D3 * 2 + 1

def execIdcode (s : State) : Host.Outcome State Fault Refusal :=
  .next (if s.pdomOn 3 then setTap { s.tap with ir := 1, dr := BitVec.ofNat 64 (tapIdcode s) } s else tapBypass s)

/-- SAMPLE/PRELOAD: the pins are captured, and `bits` is loaded. -/
def execSamplePreload (pins bits : Nat) (s : State) : Host.Outcome State Fault Refusal :=
  .next (scanInstr 2 (fun t => { t with captured := pins, boundary := bits }) s)

/-- EXTEST, and its forms for the AC pins: the pins are driven from the boundary register and sensed. -/
def execExtest (pins bits : Nat) (s : State) : Host.Outcome State Fault Refusal :=
  .next (scanInstr 3 (fun t => { t with captured := pins, boundary := bits }) s)

def execExtestPulse (pins bits : Nat) (s : State) : Host.Outcome State Fault Refusal :=
  .next (scanInstr 4 (fun t => { t with captured := pins, boundary := bits }) s)

def execExtestTrain (pins bits : Nat) (s : State) : Host.Outcome State Fault Refusal :=
  .next (scanInstr 5 (fun t => { t with captured := pins, boundary := bits }) s)

/-- CLAMP: the outputs hold the boundary register. -/
def execClamp (s : State) : Host.Outcome State Fault Refusal := .next (scanInstr 6 id s)

/-- HIGHZ: the outputs are at high impedance. -/
def execHighz (s : State) : Host.Outcome State Fault Refusal := .next (scanInstr 7 id s)

def execBypass (s : State) : Host.Outcome State Fault Refusal := .next (tapBypass s)

end Sys2Proof.Machine
end

