-- ==== Sys2Proof/Machine/Dispatch.lean ====
section
/-! DEFINITION. The meaning of each command: one arm for each constructor of `Instr`. -/

namespace Sys2Proof.Machine
open Sys2Proof

def exec (i : Instr) (s : State) : Host.Outcome State Fault Refusal :=
  match i with
  | .registerWrite who addr bytes v => Sys2Proof.Machine.execRegisterWrite who addr bytes v s
  | .rcRead who addr bytes quiet => Sys2Proof.Machine.execRcRead who addr bytes quiet s
  | .add u r v => Sys2Proof.Machine.execAdd u r v s
  | .sub u r v => Sys2Proof.Machine.execSub u r v s
  | .and u r v => Sys2Proof.Machine.execAnd u r v s
  | .or u r v => Sys2Proof.Machine.execOr u r v s
  | .xor u r v => Sys2Proof.Machine.execXor u r v s
  | .andn u r v => Sys2Proof.Machine.execAndn u r v s
  | .shl u r v => Sys2Proof.Machine.execShl u r v s
  | .shr u r v => Sys2Proof.Machine.execShr u r v s
  | .sra u r v => Sys2Proof.Machine.execSra u r v s
  | .ror u r v => Sys2Proof.Machine.execRor u r v s
  | .slt u r v => Sys2Proof.Machine.execSlt u r v s
  | .sltu u r v => Sys2Proof.Machine.execSltu u r v s
  | .min u r v => Sys2Proof.Machine.execMin u r v s
  | .max u r v => Sys2Proof.Machine.execMax u r v s
  | .minu u r v => Sys2Proof.Machine.execMinu u r v s
  | .maxu u r v => Sys2Proof.Machine.execMaxu u r v s
  | .clz u r v => Sys2Proof.Machine.execClz u r v s
  | .ctz u r v => Sys2Proof.Machine.execCtz u r v s
  | .pop u r v => Sys2Proof.Machine.execPop u r v s
  | .ext u r v => Sys2Proof.Machine.execExt u r v s
  | .sel u r v => Sys2Proof.Machine.execSel u r v s
  | .mul u r v => Sys2Proof.Machine.execMul u r v s
  | .mulhs u r v => Sys2Proof.Machine.execMulhs u r v s
  | .mulhu u r v => Sys2Proof.Machine.execMulhu u r v s
  | .divs u r v => Sys2Proof.Machine.execDivs u r v s
  | .divu u r v => Sys2Proof.Machine.execDivu u r v s
  | .rems u r v => Sys2Proof.Machine.execRems u r v s
  | .remu u r v => Sys2Proof.Machine.execRemu u r v s
  | .addi u r v => Sys2Proof.Machine.execAddi u r v s
  | .andi u r v => Sys2Proof.Machine.execAndi u r v s
  | .ori u r v => Sys2Proof.Machine.execOri u r v s
  | .xori u r v => Sys2Proof.Machine.execXori u r v s
  | .slti u r v => Sys2Proof.Machine.execSlti u r v s
  | .sltui u r v => Sys2Proof.Machine.execSltui u r v s
  | .shi u r v => Sys2Proof.Machine.execShi u r v s
  | .mvz u r v => Sys2Proof.Machine.execMvz u r v s
  | .mvk u r v => Sys2Proof.Machine.execMvk u r v s
  | .mvn u r v => Sys2Proof.Machine.execMvn u r v s
  | .l u r v => Sys2Proof.Machine.execL u r v s
  | .s u r v => Sys2Proof.Machine.execS u r v s
  | .cl u r v => Sys2Proof.Machine.execCl u r v s
  | .cs u r v => Sys2Proof.Machine.execCs u r v s
  | .xl u r v => Sys2Proof.Machine.execXl u r v s
  | .xs u r v => Sys2Proof.Machine.execXs u r v s
  | .cat u r v => Sys2Proof.Machine.execCat u r v s
  | .xat u r v => Sys2Proof.Machine.execXat u r v s
  | .lkl u r v => Sys2Proof.Machine.execLkl u r v s
  | .stu u r v => Sys2Proof.Machine.execStu u r v s
  | .beq u r v => Sys2Proof.Machine.execBeq u r v s
  | .bne u r v => Sys2Proof.Machine.execBne u r v s
  | .blt u r v => Sys2Proof.Machine.execBlt u r v s
  | .bge u r v => Sys2Proof.Machine.execBge u r v s
  | .bltu u r v => Sys2Proof.Machine.execBltu u r v s
  | .bgeu u r v => Sys2Proof.Machine.execBgeu u r v s
  | .jl u r v => Sys2Proof.Machine.execJl u r v s
  | .jr u r v => Sys2Proof.Machine.execJr u r v s
  | .loop u r v => Sys2Proof.Machine.execLoop u r v s
  | .loopi u r v => Sys2Proof.Machine.execLoopi u r v s
  | .srd u r v => Sys2Proof.Machine.execSrd u r v s
  | .swr u r v => Sys2Proof.Machine.execSwr u r v s
  | .fence u r v => Sys2Proof.Machine.execFence u r v s
  | .sys u r v => Sys2Proof.Machine.execSys u r v s
  | .brk u r v => Sys2Proof.Machine.execBrk u r v s
  | .rte u r v => Sys2Proof.Machine.execRte u r v s
  | .halt u r v => Sys2Proof.Machine.execHalt u r v s
  | .wev u r v => Sys2Proof.Machine.execWev u r v s
  | .takeTrap u => Sys2Proof.Machine.execTakeTrap u s
  | .vnop u r x => Sys2Proof.Machine.execVnop u r x s
  | .vadd u r x => Sys2Proof.Machine.execVadd u r x s
  | .vsub u r x => Sys2Proof.Machine.execVsub u r x s
  | .vadds u r x => Sys2Proof.Machine.execVadds u r x s
  | .vsubs u r x => Sys2Proof.Machine.execVsubs u r x s
  | .vmin u r x => Sys2Proof.Machine.execVmin u r x s
  | .vmax u r x => Sys2Proof.Machine.execVmax u r x s
  | .vabs u r x => Sys2Proof.Machine.execVabs u r x s
  | .vneg u r x => Sys2Proof.Machine.execVneg u r x s
  | .vand u r x => Sys2Proof.Machine.execVand u r x s
  | .vor u r x => Sys2Proof.Machine.execVor u r x s
  | .vxor u r x => Sys2Proof.Machine.execVxor u r x s
  | .vsel u r x => Sys2Proof.Machine.execVsel u r x s
  | .vconj u r x => Sys2Proof.Machine.execVconj u r x s
  | .vperm u r x => Sys2Proof.Machine.execVperm u r x s
  | .vzipl u r x => Sys2Proof.Machine.execVzipl u r x s
  | .vziph u r x => Sys2Proof.Machine.execVziph u r x s
  | .vuzpe u r x => Sys2Proof.Machine.execVuzpe u r x s
  | .vuzpo u r x => Sys2Proof.Machine.execVuzpo u r x s
  | .vshl u r x => Sys2Proof.Machine.execVshl u r x s
  | .vshls u r x => Sys2Proof.Machine.execVshls u r x s
  | .vsra u r x => Sys2Proof.Machine.execVsra u r x s
  | .vsrar u r x => Sys2Proof.Machine.execVsrar u r x s
  | .vsrl u r x => Sys2Proof.Machine.execVsrl u r x s
  | .vsplat u r x => Sys2Proof.Machine.execVsplat u r x s
  | .vceq u r x => Sys2Proof.Machine.execVceq u r x s
  | .vclt u r x => Sys2Proof.Machine.execVclt u r x s
  | .vcle u r x => Sys2Proof.Machine.execVcle u r x s
  | .pand u r x => Sys2Proof.Machine.execPand u r x s
  | .por u r x => Sys2Proof.Machine.execPor u r x s
  | .pnot u r x => Sys2Proof.Machine.execPnot u r x s
  | .vbc u r x => Sys2Proof.Machine.execVbc u r x s
  | .vext u r x => Sys2Proof.Machine.execVext u r x s
  | .vins u r x => Sys2Proof.Machine.execVins u r x s
  | .pfromg u r x => Sys2Proof.Machine.execPfromg u r x s
  | .ptog u r x => Sys2Proof.Machine.execPtog u r x s
  | .vl u r x => Sys2Proof.Machine.execVl u r x s
  | .vl2 u r x => Sys2Proof.Machine.execVl2 u r x s
  | .vs u r x => Sys2Proof.Machine.execVs u r x s
  | .vmacH u r x => Sys2Proof.Machine.execVmacH u r x s
  | .vmacbH u r x => Sys2Proof.Machine.execVmacbH u r x s
  | .vmacB u r x => Sys2Proof.Machine.execVmacB u r x s
  | .vmacbB u r x => Sys2Proof.Machine.execVmacbB u r x s
  | .vcmac u r x => Sys2Proof.Machine.execVcmac u r x s
  | .vcmacb u r x => Sys2Proof.Machine.execVcmacb u r x s
  | .vcmacbj u r x => Sys2Proof.Machine.execVcmacbj u r x s
  | .vcmulr u r x => Sys2Proof.Machine.execVcmulr u r x s
  | .vbf4 u r x => Sys2Proof.Machine.execVbf4 u r x s
  | .voutH u r x => Sys2Proof.Machine.execVoutH u r x s
  | .voutW u r x => Sys2Proof.Machine.execVoutW u r x s
  | .vaget u r x => Sys2Proof.Machine.execVaget u r x s
  | .vaput u r x => Sys2Proof.Machine.execVaput u r x s
  | .vared u r x => Sys2Proof.Machine.execVared u r x s
  | .vfmaF u r x => Sys2Proof.Machine.execVfmaF u r x s
  | .vfmsF u r x => Sys2Proof.Machine.execVfmsF u r x s
  | .vfmaBf u r x => Sys2Proof.Machine.execVfmaBf u r x s
  | .vfmsBf u r x => Sys2Proof.Machine.execVfmsBf u r x s
  | .vfmawBf u r x => Sys2Proof.Machine.execVfmawBf u r x s
  | .vfaddF u r x => Sys2Proof.Machine.execVfaddF u r x s
  | .vfmulF u r x => Sys2Proof.Machine.execVfmulF u r x s
  | .vfcvtBf u r x => Sys2Proof.Machine.execVfcvtBf u r x s
  | .vmsa u r x => Sys2Proof.Machine.execVmsa u r x s
  | .vmsr u r x => Sys2Proof.Machine.execVmsr u r x s
  | .engineGo who d c sl v => Sys2Proof.Machine.execEngineGo who d c sl v s
  | .engineStop who d c sl v => Sys2Proof.Machine.execEngineStop who d c sl v s
  | .engineStopped d c p => Sys2Proof.Machine.execEngineStopped d c p s
  | .engineArm who d c sl v => Sys2Proof.Machine.execEngineArm who d c sl v s
  | .caseStart who d c v => Sys2Proof.Machine.execCaseStart who d c v s
  | .caseStartRelease d c => Sys2Proof.Machine.execCaseStartRelease d c s
  | .coreGo who d v => Sys2Proof.Machine.execCoreGo who d v s
  | .coreStop who d v => Sys2Proof.Machine.execCoreStop who d v s
  | .caseGrant d c => Sys2Proof.Machine.execCaseGrant d c s
  | .impSwapRequest who d c v => Sys2Proof.Machine.execImpSwapRequest who d c v s
  | .impSwap d c => Sys2Proof.Machine.execImpSwap d c s
  | .xportSwapRequest who d p v => Sys2Proof.Machine.execXportSwapRequest who d p v s
  | .xportSwap d p => Sys2Proof.Machine.execXportSwap d p s
  | .dmaRingWrite who d c k v => Sys2Proof.Machine.execDmaRingWrite who d c k v s
  | .dmaRun who d c k v => Sys2Proof.Machine.execDmaRun who d c k v s
  | .dmaStop who d c k v => Sys2Proof.Machine.execDmaStop who d c k v s
  | .dmaPiece d c => Sys2Proof.Machine.execDmaPiece d c s
  | .descriptorComplete d c k => Sys2Proof.Machine.execDescriptorComplete d c k s
  | .residueMismatch d c p chk vslot t replay => Sys2Proof.Machine.execResidueMismatch d c p chk vslot t replay s
  | .migrate who d c v => Sys2Proof.Machine.execMigrate who d c v s
  | .migration d c ph => Sys2Proof.Machine.execMigration d c ph s
  | .returnUnnumbered who d c v => Sys2Proof.Machine.execReturnUnnumbered who d c v s
  | .retire who d c v => Sys2Proof.Machine.execRetire who d c v s
  | .upllCfg who d g k v => Sys2Proof.Machine.execUpllCfg who d g k v s
  | .upllLock d k => Sys2Proof.Machine.execUpllLock d k s
  | .upllLossOfLock d k => Sys2Proof.Machine.execUpllLossOfLock d k s
  | .clockSourceChange d g n => Sys2Proof.Machine.execClockSourceChange d g n s
  | .forceClock who d g n v => Sys2Proof.Machine.execForceClock who d g n v s
  | .queueWrite d g b data late => Sys2Proof.Machine.execQueueWrite d g b data late s
  | .queueRead d g b late => Sys2Proof.Machine.execQueueRead d g b late s
  | .clrerr d g e => Sys2Proof.Machine.execClrerr d g e s
  | .queueRst d g b => Sys2Proof.Machine.execQueueRst d g b s
  | .blockRamAccess d g b pa pb => Sys2Proof.Machine.execBlockRamAccess d g b pa pb s
  | .bankPgFall d b vcco => Sys2Proof.Machine.execBankPgFall d b vcco s
  | .bankPgRise d b vcco => Sys2Proof.Machine.execBankPgRise d b vcco s
  | .qpinDly who d m v => Sys2Proof.Machine.execQpinDly who d m v s
  | .delayLineArrive d m => Sys2Proof.Machine.execDelayLineArrive d m s
  | .inject who offer marks => Sys2Proof.Machine.execInject who offer marks s
  | .rdReq who tag gen reply => Sys2Proof.Machine.execRdReq who tag gen reply s
  | .wrReq who tag gen reply => Sys2Proof.Machine.execWrReq who tag gen reply s
  | .atReq who tag gen reply => Sys2Proof.Machine.execAtReq who tag gen reply s
  | .rdr who tag gen => Sys2Proof.Machine.execRdr who tag gen s
  | .wrr who tag gen => Sys2Proof.Machine.execWrr who tag gen s
  | .atr who tag gen => Sys2Proof.Machine.execAtr who tag gen s
  | .timeout who tag => Sys2Proof.Machine.execTimeout who tag s
  | .sequencedFrame d p send crd noise => Sys2Proof.Machine.execSequencedFrame d p send crd noise s
  | .nak d p noise => Sys2Proof.Machine.execNak d p noise s
  | .retryTimeout d p => Sys2Proof.Machine.execRetryTimeout d p s
  | .frameHandover d p net q => Sys2Proof.Machine.execFrameHandover d p net q s
  | .heartbeat d p => Sys2Proof.Machine.execHeartbeat d p s
  | .heartbeatSend d p => Sys2Proof.Machine.execHeartbeatSend d p s
  | .probeWindowEnd d p lanes hi => Sys2Proof.Machine.execProbeWindowEnd d p lanes hi s
  | .propose d m => Sys2Proof.Machine.execPropose d m s
  | .confirm d m => Sys2Proof.Machine.execConfirm d m s
  | .commit d m => Sys2Proof.Machine.execCommit d m s
  | .trainingTimeout d p => Sys2Proof.Machine.execTrainingTimeout d p s
  | .deadline d p => Sys2Proof.Machine.execDeadline d p s
  | .carrierSwitch d p => Sys2Proof.Machine.execCarrierSwitch d p s
  | .holdExpiry d p => Sys2Proof.Machine.execHoldExpiry d p s
  | .lossOfSignal d p lane => Sys2Proof.Machine.execLossOfSignal d p lane s
  | .noGoodFrame d p => Sys2Proof.Machine.execNoGoodFrame d p s
  | .linkRetrain who d p v => Sys2Proof.Machine.execLinkRetrain who d p v s
  | .disable who d p v => Sys2Proof.Machine.execDisable who d p v s
  | .carrierReturn who d p v => Sys2Proof.Machine.execCarrierReturn who d p v s
  | .ringLock d p rx k => Sys2Proof.Machine.execRingLock d p rx k s
  | .ringLossOfLock d p rx k => Sys2Proof.Machine.execRingLossOfLock d p rx k s
  | .ringRetry d p rx k ok => Sys2Proof.Machine.execRingRetry d p rx k ok s
  | .lineLoss b k => Sys2Proof.Machine.execLineLoss b k s
  | .inputOk b power => Sys2Proof.Machine.execInputOk b power s
  | .laserSel who v => Sys2Proof.Machine.execLaserSel who v s
  | .cmapClear who d k v => Sys2Proof.Machine.execCmapClear who d k v s
  | .cmapClearDone d k => Sys2Proof.Machine.execCmapClearDone d k s
  | .granuleFill d k granule => Sys2Proof.Machine.execGranuleFill d k granule s
  | .scrubStart who d v => Sys2Proof.Machine.execScrubStart who d v s
  | .scrubRead d => Sys2Proof.Machine.execScrubRead d s
  | .scrubStop who d v => Sys2Proof.Machine.execScrubStop who d v s
  | .scrubPassEnd d us => Sys2Proof.Machine.execScrubPassEnd d us s
  | .patrolRead d => Sys2Proof.Machine.execPatrolRead d s
  | .init who d k v ok => Sys2Proof.Machine.execInit who d k v ok s
  | .ddrRetrain who d k v => Sys2Proof.Machine.execDdrRetrain who d k v s
  | .centringPass d k rank => Sys2Proof.Machine.execCentringPass d k rank s
  | .zqCalibration d k rank => Sys2Proof.Machine.execZqCalibration d k rank s
  | .dramCommand d k ok ref => Sys2Proof.Machine.execDramCommand d k ok ref s
  | .refreshInterval d k rank => Sys2Proof.Machine.execRefreshInterval d k rank s
  | .prechargePowerDown d k rank => Sys2Proof.Machine.execPrechargePowerDown d k rank s
  | .panic d g j on => Sys2Proof.Machine.execPanic d g j on s
  | .lanePllLock d j a => Sys2Proof.Machine.execLanePllLock d j a s
  | .lanePllLossOfLock d j a => Sys2Proof.Machine.execLanePllLossOfLock d j a s
  | .ownerChange who d j n v => Sys2Proof.Machine.execOwnerChange who d j n v s
  | .ownerSettle d j n => Sys2Proof.Machine.execOwnerSettle d j n s
  | .txeq who d j n v => Sys2Proof.Machine.execTxeq who d j n v s
  | .adapted d j n ctle dfe ffe => Sys2Proof.Machine.execAdapted d j n ctle dfe ffe s
  | .cdrLossOfLock d j n los => Sys2Proof.Machine.execCdrLossOfLock d j n los s
  | .histogramRun who d j n v => Sys2Proof.Machine.execHistogramRun who d j n v s
  | .histogramDone d j n counts => Sys2Proof.Machine.execHistogramDone d j n counts s
  | .ethPortEnable who d m q v => Sys2Proof.Machine.execEthPortEnable who d m q v s
  | .ethFrameReceive d m q f sub => Sys2Proof.Machine.execEthFrameReceive d m q f sub s
  | .ethFrameTransmit d m q r sub => Sys2Proof.Machine.execEthFrameTransmit d m q r sub s
  | .linkChange d m q up cal eq => Sys2Proof.Machine.execLinkChange d m q up cal eq s
  | .saload who d m v => Sys2Proof.Machine.execSaload who d m v s
  | .pcieInboundTlp far op bar addr len data cmp afn ord tc => Sys2Proof.Machine.execPcieInboundTlp far op bar addr len data cmp afn ord tc s
  | .pcieCompletion far n ok poisoned data => Sys2Proof.Machine.execPcieCompletion far n ok poisoned data s
  | .pcieLinkChange far up rev gen lanes ltssm eq => Sys2Proof.Machine.execPcieLinkChange far up rev gen lanes ltssm eq s
  | .jesdLinkEnable who d j l v sync => Sys2Proof.Machine.execJesdLinkEnable who d j l v sync s
  | .sysrefEdge d j l src off => Sys2Proof.Machine.execSysrefEdge d j l src off s
  | .evaluation e => Sys2Proof.Machine.execEvaluation e s
  | .ppsIn sub => Sys2Proof.Machine.execPpsIn sub s
  | .meas who n v => Sys2Proof.Machine.execMeas who n v s
  | .step who v => Sys2Proof.Machine.execStep who v s
  | .stepApply => Sys2Proof.Machine.execStepApply s
  | .hold who v => Sys2Proof.Machine.execHold who v s
  | .servoEn who v => Sys2Proof.Machine.execServoEn who v s
  | .timeFrame reach => Sys2Proof.Machine.execTimeFrame reach s
  | .echoExchange d p e => Sys2Proof.Machine.execEchoExchange d p e s
  | .followerGap d => Sys2Proof.Machine.execFollowerGap d s
  | .sensorRead raw => Sys2Proof.Machine.execSensorRead raw s
  | .tuningFrame => Sys2Proof.Machine.execTuningFrame s
  | .modelAlign => Sys2Proof.Machine.execModelAlign s
  | .xoLoss => Sys2Proof.Machine.execXoLoss s
  | .ppsOut rise => Sys2Proof.Machine.execPpsOut rise s
  | .sysrefOut off => Sys2Proof.Machine.execSysrefOut off s
  | .uartReceive b => Sys2Proof.Machine.execUartReceive b s
  | .uartTransmit who v => Sys2Proof.Machine.execUartTransmit who v s
  | .authload who v => Sys2Proof.Machine.execAuthload who v s
  | .reselect who v => Sys2Proof.Machine.execReselect who v s
  | .darkHoldRetry => Sys2Proof.Machine.execDarkHoldRetry s
  | .chunkRelease => Sys2Proof.Machine.execChunkRelease s
  | .wreg d => Sys2Proof.Machine.execWreg d s
  | .wmem d => Sys2Proof.Machine.execWmem d s
  | .frameInstr d => Sys2Proof.Machine.execFrameInstr d s
  | .rbc d => Sys2Proof.Machine.execRbc d s
  | .poll d => Sys2Proof.Machine.execPoll d s
  | .pollLimit d => Sys2Proof.Machine.execPollLimit d s
  | .callProg d => Sys2Proof.Machine.execCallProg d s
  | .callLimit d => Sys2Proof.Machine.execCallLimit d s
  | .sync d => Sys2Proof.Machine.execSync d s
  | .endSeg d => Sys2Proof.Machine.execEndSeg d s
  | .pload who v => Sys2Proof.Machine.execPload who v s
  | .ploadEnd => Sys2Proof.Machine.execPloadEnd s
  | .fopRead fail => Sys2Proof.Machine.execFopRead fail s
  | .fopProgram fail => Sys2Proof.Machine.execFopProgram fail s
  | .fopErase fail => Sys2Proof.Machine.execFopErase fail s
  | .fopDone => Sys2Proof.Machine.execFopDone s
  | .clone who d g v => Sys2Proof.Machine.execClone who d g v s
  | .cloneDone d g => Sys2Proof.Machine.execCloneDone d g s
  | .quoinClose who d g v => Sys2Proof.Machine.execQuoinClose who d g v s
  | .quoinOpen who d g v => Sys2Proof.Machine.execQuoinOpen who d g v s
  | .caseQuoinClose who d c v => Sys2Proof.Machine.execCaseQuoinClose who d c v s
  | .quiesce who d g v => Sys2Proof.Machine.execQuiesce who d g v s
  | .dexp d g => Sys2Proof.Machine.execDexp d g s
  | .xswapGo who d v => Sys2Proof.Machine.execXswapGo who d v s
  | .xswapTrigger e d => Sys2Proof.Machine.execXswapTrigger e d s
  | .xswapCheck d => Sys2Proof.Machine.execXswapCheck d s
  | .addkey weak => Sys2Proof.Machine.execAddkey weak s
  | .revoke weak => Sys2Proof.Machine.execRevoke weak s
  | .floorCmd weak => Sys2Proof.Machine.execFloorCmd weak s
  | .sfloor weak => Sys2Proof.Machine.execSfloor weak s
  | .setfk weak => Sys2Proof.Machine.execSetfk weak s
  | .policyCmd weak => Sys2Proof.Machine.execPolicyCmd weak s
  | .encreq weak => Sys2Proof.Machine.execEncreq weak s
  | .debugBurn weak => Sys2Proof.Machine.execDebugBurn weak s
  | .attest => Sys2Proof.Machine.execAttest s
  | .unlockAttempt secs => Sys2Proof.Machine.execUnlockAttempt secs s
  | .dlock who v => Sys2Proof.Machine.execDlock who v s
  | .unlockExpiry => Sys2Proof.Machine.execUnlockExpiry s
  | .provingWindow count => Sys2Proof.Machine.execProvingWindow count s
  | .handOver => Sys2Proof.Machine.execHandOver s
  | .referenceNotProven => Sys2Proof.Machine.execReferenceNotProven s
  | .sourceFailure root => Sys2Proof.Machine.execSourceFailure root s
  | .sourceReturn => Sys2Proof.Machine.execSourceReturn s
  | .rootRelockTry d ok => Sys2Proof.Machine.execRootRelockTry d ok s
  | .waitLimit => Sys2Proof.Machine.execWaitLimit s
  | .domainOff who r v => Sys2Proof.Machine.execDomainOff who r v s
  | .domainOn who r v => Sys2Proof.Machine.execDomainOn who r v s
  | .switchOpen r => Sys2Proof.Machine.execSwitchOpen r s
  | .domainPowered r => Sys2Proof.Machine.execDomainPowered r s
  | .domainReset who r v => Sys2Proof.Machine.execDomainReset who r v s
  | .dieOff who d v => Sys2Proof.Machine.execDieOff who d v s
  | .dieOn who d v => Sys2Proof.Machine.execDieOn who d v s
  | .dieReset who d v => Sys2Proof.Machine.execDieReset who d v s
  | .supfail d => Sys2Proof.Machine.execSupfail d s
  | .powerOnReset => Sys2Proof.Machine.execPowerOnReset s
  | .pornRise board puf => Sys2Proof.Machine.execPornRise board puf s
  | .guardReset puf => Sys2Proof.Machine.execGuardReset puf s
  | .debugReset => Sys2Proof.Machine.execDebugReset s
  | .temperatureRead d raw => Sys2Proof.Machine.execTemperatureRead d raw s
  | .galleyTest who d v => Sys2Proof.Machine.execGalleyTest who d v s
  | .positionTest who d v => Sys2Proof.Machine.execPositionTest who d v s
  | .caseTest who d v => Sys2Proof.Machine.execCaseTest who d v s
  | .logicSelfTestDone d sig golden => Sys2Proof.Machine.execLogicSelfTestDone d sig golden s
  | .memorySelfTestDone d fails => Sys2Proof.Machine.execMemorySelfTestDone d fails s
  | .finishingDone d => Sys2Proof.Machine.execFinishingDone d s
  | .testStop who d v => Sys2Proof.Machine.execTestStop who d v s
  | .idcode => Sys2Proof.Machine.execIdcode s
  | .samplePreload pins bits => Sys2Proof.Machine.execSamplePreload pins bits s
  | .extest pins bits => Sys2Proof.Machine.execExtest pins bits s
  | .extestPulse pins bits => Sys2Proof.Machine.execExtestPulse pins bits s
  | .extestTrain pins bits => Sys2Proof.Machine.execExtestTrain pins bits s
  | .clamp => Sys2Proof.Machine.execClamp s
  | .highz => Sys2Proof.Machine.execHighz s
  | .bypass => Sys2Proof.Machine.execBypass s
  | .dreg blk off w64 write data => Sys2Proof.Machine.execDreg blk off w64 write data s
  | .debugWindow far off w64 write data => Sys2Proof.Machine.execDebugWindow far off w64 write data s
  | .debugAccess v => Sys2Proof.Machine.execDebugAccess v s
  | .debugHalt v => Sys2Proof.Machine.execDebugHalt v s
  | .debugResume v => Sys2Proof.Machine.execDebugResume v s
  | .debugStep v => Sys2Proof.Machine.execDebugStep v s
  | .watchdogExpiry u => Sys2Proof.Machine.execWatchdogExpiry u s
  | .raiseEvent who d v => Sys2Proof.Machine.execRaiseEvent who d v s
  | .pendClear who d w v => Sys2Proof.Machine.execPendClear who d w v s
  | .fabricEvent d g k => Sys2Proof.Machine.execFabricEvent d g k s
  | .eventDelivery d n => Sys2Proof.Machine.execEventDelivery d n s
  | .cdrLock d j n => Sys2Proof.Machine.execCdrLock d j n s
  | .checkerLock d j n => Sys2Proof.Machine.execCheckerLock d j n s
  | .checkerUnlock d j n bits wrong syms => Sys2Proof.Machine.execCheckerUnlock d j n bits wrong syms s
  | .prbs31Received d p => Sys2Proof.Machine.execPrbs31Received d p s
  | .rawTransmitWord d j n offer take => Sys2Proof.Machine.execRawTransmitWord d j n offer take s
  | .jesdSyncLoss d j l => Sys2Proof.Machine.execJesdSyncLoss d j l s
  | .jesdCrcError d j l => Sys2Proof.Machine.execJesdCrcError d j l s
  | .railWindowChange rail inside => Sys2Proof.Machine.execRailWindowChange rail inside s

end Sys2Proof.Machine
end

