-- ==== Sys2Proof/Machine/Tick.lean ====
section
/-! DEFINITION. What the clocks do when no command waits: one cycle of the packet network, with the edges of the user clocks and
of the control clocks that fall into it. (DESIGN CHOICE, safe: log entry 2.) -/

namespace Sys2Proof.Machine
open Sys2Proof

/-- A `ctl` edge falls into a `noc` cycle: the root divided by 10 and by 7 (R592, R594). -/
def ctlEdge (t : Nat) : Bool := decide (7 * t / 10 ≠ 7 * (t + 1) / 10)

/-- One `ctl` cycle of a control core: CYCLE, and REMAIN of its watchdog while it is Running (R125, R665). -/
def coreCycle (s : State) (d : Fin 4) : State :=
  if s.runs d 32 then
    let s := s.setHv .ctlCycle [d] (s.hv .ctlCycle [d] + 1)
    if (s.unit (.core d)).st = .running then
      s.setFld .ctlWdog [d] F.caseEngWdog_REMAIN (s.fld .ctlWdog [d] F.caseEngWdog_REMAIN - 1)
    else s
  else s

/-- The cycles of the control cores and CYCLE of the guard core (R125): that core has no `ctl` clock (R592), and its CYCLE
counts the edges of its own, whose times are free. (DESIGN CHOICE, safe: log entry 2.) -/
def cycleCounts (s : State) : State :=
  let s := if decide (s.hv .guardUp [] = 1) && Config.edge s.freeCtr 0 then s.setHv .ctlCycle [] (s.hv .ctlCycle [] + 1) else s
  if ctlEdge (s.hv .nocCycle []) && decide (s.hv .clkWait [] = 0) then
    [0, 1, 2, 3].foldl coreCycle s
  else s

/-- The pauses of the Ethernet ports (R463). -/
def pausesCycle (s : State) : State := (List.range 16).foldl (fun t n => pauseCycle (n / 4) (n % 4) t) s

/-- One `noc` cycle. Times that no register counts and no rule decides by are left out. (DESIGN CHOICE, safe: log entry 59.) -/
def tick (s : State) : State := (nocCycle (pausesCycle (timeCycle (laneCycle (designCycle (cycleCounts s)))))).draw

end Sys2Proof.Machine
end

