-- ==== Sys2Proof/Safety.lean ====
section
/-! DEFINITION. What holds of a state throughout a run, in the terms that the statements use. -/

namespace Sys2Proof.Machine
open Sys2Proof

/-- The memories are in canonical form. -/
def State.MemOk (s : State) : Prop := s.mem.wf = true

/-- A processor's hard-wired registers hold nothing: a read of g0 and p0 never sees what is stored for them
(R85, R129). -/
def UnitState.HardWired (x : UnitState) : Prop := x.getG 0 = 0 ∧ x.getP 0 = BitVec.allOnes 32

/-- A safe outcome: the machine goes on. -/
def Goes (o : Host.Outcome State Fault Refusal) : Prop := ∃ t, o = .next t

end Sys2Proof.Machine
end

