-- ==== Sys2Proof/WellFormed.lean ====
section
/-! DEFINITION. The well-formed commands: the bounds on operands that their types do not give. -/

namespace Sys2Proof
open Sys2Proof.Machine

/-- A word that stands for an instruction is not given as an illegal one (R47). -/
def SInstr.wf : SInstr → Bool
  | .illegal w => decide (decodeScalar w = .illegal w)
  | _ => true

def VInstr.wf : VInstr → Bool
  | .illegal w => decide (decodeVector w = .illegal w)
  | _ => true

/-- An access of 1 to 8 bytes below 2^48 (R12, R14). -/
def regForm (addr bytes : Nat) : Bool := decide (1 ≤ bytes) && decide (bytes ≤ 8) && decide (addr + bytes ≤ 2 ^ 48)

/-- A tag, and a generation; 4 is that of a request from before a reset of its initiator (R306, R328). -/
def tagForm (tag gen : Nat) : Bool := decide (tag < 1024) && decide (gen ≤ 4)

/-- A reply of a design has at most 256 bytes (R308). -/
def replyForm : Option FabricReply → Bool
  | some o => decide (o.data < 256 ^ 256)
  | none => true

/-- An atomic has 4 or 8 aligned bytes; a write that marks poison lies in one block; the data fit (R309, R311). -/
def Offer.wf (o : Offer) : Bool :=
  decide (1 ≤ o.len) && decide (o.len ≤ 4096) && decide (o.addr + o.len ≤ 2 ^ 48) && decide (o.data < 256 ^ o.len) &&
    (match o.op with
      | .at_ => (decide (o.len = 4) || decide (o.len = 8)) && decide (o.addr % o.len = 0)
      | _ => true) &&
    (decide (o.pmask = 0) || decide (o.addr / 256 = (o.addr + o.len - 1) / 256))

/-- A pair that issues again has no word of an instruction as an illegal one (R207). -/
def pairForm (x : SInstr × VInstr) : Bool := x.1.wf && x.2.wf

/-- The bytes of a frame are its length (R464). -/
def FrameIn.wf (f : FrameIn) : Bool := decide (f.data < 256 ^ f.len)

/-- The data of an inbound request are its length (R472). -/
def tlpForm (op : ReqOp) (addr len data : Nat) : Bool :=
  decide (1 ≤ len) && decide (len ≤ 4096) && decide (addr < 2 ^ 64) && decide (data < 256 ^ len) &&
    (match op with | .at_ => decide (len = 4) || decide (len = 8) | _ => true)

/-- Four flash ports (R511). -/
def Board.wf (b : Board) : Bool := decide (b.flash.length = 4)

/-- One frequency for each source slot (R491). -/
def EvalIn.wf (e : EvalIn) : Bool := decide (e.freqs.length ≤ 4)

/-- A command is well-formed. -/
def Instr.wf : Instr → Bool
  | .registerWrite _ addr bytes v => regForm addr bytes && decide (v.toNat < 256 ^ bytes)
  | .rcRead _ addr bytes _ => regForm addr bytes
  | .add _ _ v => v.wf
  | .sub _ _ v => v.wf
  | .and _ _ v => v.wf
  | .or _ _ v => v.wf
  | .xor _ _ v => v.wf
  | .andn _ _ v => v.wf
  | .shl _ _ v => v.wf
  | .shr _ _ v => v.wf
  | .sra _ _ v => v.wf
  | .ror _ _ v => v.wf
  | .slt _ _ v => v.wf
  | .sltu _ _ v => v.wf
  | .min _ _ v => v.wf
  | .max _ _ v => v.wf
  | .minu _ _ v => v.wf
  | .maxu _ _ v => v.wf
  | .clz _ _ v => v.wf
  | .ctz _ _ v => v.wf
  | .pop _ _ v => v.wf
  | .ext _ _ v => v.wf
  | .sel _ _ v => v.wf
  | .mul _ _ v => v.wf
  | .mulhs _ _ v => v.wf
  | .mulhu _ _ v => v.wf
  | .divs _ _ v => v.wf
  | .divu _ _ v => v.wf
  | .rems _ _ v => v.wf
  | .remu _ _ v => v.wf
  | .addi _ _ v => v.wf
  | .andi _ _ v => v.wf
  | .ori _ _ v => v.wf
  | .xori _ _ v => v.wf
  | .slti _ _ v => v.wf
  | .sltui _ _ v => v.wf
  | .shi _ _ v => v.wf
  | .mvz _ _ v => v.wf
  | .mvk _ _ v => v.wf
  | .mvn _ _ v => v.wf
  | .l _ _ v => v.wf
  | .s _ _ v => v.wf
  | .cl _ _ v => v.wf
  | .cs _ _ v => v.wf
  | .xl _ _ v => v.wf
  | .xs _ _ v => v.wf
  | .cat _ _ v => v.wf
  | .xat _ _ v => v.wf
  | .lkl _ _ v => v.wf
  | .stu _ _ v => v.wf
  | .beq _ _ v => v.wf
  | .bne _ _ v => v.wf
  | .blt _ _ v => v.wf
  | .bge _ _ v => v.wf
  | .bltu _ _ v => v.wf
  | .bgeu _ _ v => v.wf
  | .jl _ _ v => v.wf
  | .jr _ _ v => v.wf
  | .loop _ _ v => v.wf
  | .loopi _ _ v => v.wf
  | .srd _ _ v => v.wf
  | .swr _ _ v => v.wf
  | .fence _ _ v => v.wf
  | .sys _ _ v => v.wf
  | .brk _ _ v => v.wf
  | .rte _ _ v => v.wf
  | .halt _ _ v => v.wf
  | .wev _ _ v => v.wf
  | .takeTrap _ => true
  | .vnop _ _ x => x.wf
  | .vadd _ _ x => x.wf
  | .vsub _ _ x => x.wf
  | .vadds _ _ x => x.wf
  | .vsubs _ _ x => x.wf
  | .vmin _ _ x => x.wf
  | .vmax _ _ x => x.wf
  | .vabs _ _ x => x.wf
  | .vneg _ _ x => x.wf
  | .vand _ _ x => x.wf
  | .vor _ _ x => x.wf
  | .vxor _ _ x => x.wf
  | .vsel _ _ x => x.wf
  | .vconj _ _ x => x.wf
  | .vperm _ _ x => x.wf
  | .vzipl _ _ x => x.wf
  | .vziph _ _ x => x.wf
  | .vuzpe _ _ x => x.wf
  | .vuzpo _ _ x => x.wf
  | .vshl _ _ x => x.wf
  | .vshls _ _ x => x.wf
  | .vsra _ _ x => x.wf
  | .vsrar _ _ x => x.wf
  | .vsrl _ _ x => x.wf
  | .vsplat _ _ x => x.wf
  | .vceq _ _ x => x.wf
  | .vclt _ _ x => x.wf
  | .vcle _ _ x => x.wf
  | .pand _ _ x => x.wf
  | .por _ _ x => x.wf
  | .pnot _ _ x => x.wf
  | .vbc _ _ x => x.wf
  | .vext _ _ x => x.wf
  | .vins _ _ x => x.wf
  | .pfromg _ _ x => x.wf
  | .ptog _ _ x => x.wf
  | .vl _ _ x => x.wf
  | .vl2 _ _ x => x.wf
  | .vs _ _ x => x.wf
  | .vmacH _ _ x => x.wf
  | .vmacbH _ _ x => x.wf
  | .vmacB _ _ x => x.wf
  | .vmacbB _ _ x => x.wf
  | .vcmac _ _ x => x.wf
  | .vcmacb _ _ x => x.wf
  | .vcmacbj _ _ x => x.wf
  | .vcmulr _ _ x => x.wf
  | .vbf4 _ _ x => x.wf
  | .voutH _ _ x => x.wf
  | .voutW _ _ x => x.wf
  | .vaget _ _ x => x.wf
  | .vaput _ _ x => x.wf
  | .vared _ _ x => x.wf
  | .vfmaF _ _ x => x.wf
  | .vfmsF _ _ x => x.wf
  | .vfmaBf _ _ x => x.wf
  | .vfmsBf _ _ x => x.wf
  | .vfmawBf _ _ x => x.wf
  | .vfaddF _ _ x => x.wf
  | .vfmulF _ _ x => x.wf
  | .vfcvtBf _ _ x => x.wf
  | .vmsa _ _ x => x.wf
  | .vmsr _ _ x => x.wf
  | .engineGo _ _ _ _ _ => true
  | .engineStop _ _ _ _ _ => true
  | .engineStopped _ _ _ => true
  | .engineArm _ _ _ _ _ => true
  | .caseStart _ _ _ _ => true
  | .caseStartRelease _ _ => true
  | .coreGo _ _ _ => true
  | .coreStop _ _ _ => true
  | .caseGrant _ _ => true
  | .impSwapRequest _ _ _ _ => true
  | .impSwap _ _ => true
  | .xportSwapRequest _ _ _ _ => true
  | .xportSwap _ _ => true
  | .dmaRingWrite _ _ _ _ _ => true
  | .dmaRun _ _ _ _ _ => true
  | .dmaStop _ _ _ _ _ => true
  | .dmaPiece _ _ => true
  | .descriptorComplete _ _ _ => true
  | .residueMismatch _ _ _ _ _ _ replay => replay.pairs.all pairForm
  | .migrate _ _ _ _ => true
  | .migration _ _ _ => true
  | .returnUnnumbered _ _ _ _ => true
  | .retire _ _ _ _ => true
  | .upllCfg _ _ _ _ _ => true
  | .upllLock _ _ => true
  | .upllLossOfLock _ _ => true
  | .clockSourceChange _ _ _ => true
  | .forceClock _ _ _ _ _ => true
  | .queueWrite _ _ _ _ _ => true
  | .queueRead _ _ _ _ => true
  | .clrerr _ _ _ => true
  | .queueRst _ _ _ => true
  | .blockRamAccess _ _ _ _ _ => true
  | .bankPgFall _ _ _ => true
  | .bankPgRise _ _ _ => true
  | .qpinDly _ _ _ _ => true
  | .delayLineArrive _ _ => true
  | .inject _ offer _ => match offer with | some o => o.wf | none => true
  | .rdReq _ tag gen reply => tagForm tag gen && replyForm reply
  | .wrReq _ tag gen reply => tagForm tag gen && replyForm reply
  | .atReq _ tag gen reply => tagForm tag gen && replyForm reply
  | .rdr _ tag gen => tagForm tag gen
  | .wrr _ tag gen => tagForm tag gen
  | .atr _ tag gen => tagForm tag gen
  | .timeout _ tag => tagForm tag 0
  | .sequencedFrame _ _ _ _ _ => true
  | .nak _ _ _ => true
  | .retryTimeout _ _ => true
  | .frameHandover _ _ _ _ => true
  | .heartbeat _ _ => true
  | .heartbeatSend _ _ => true
  | .probeWindowEnd _ _ _ _ => true
  | .propose _ _ => true
  | .confirm _ _ => true
  | .commit _ _ => true
  | .trainingTimeout _ _ => true
  | .deadline _ _ => true
  | .carrierSwitch _ _ => true
  | .holdExpiry _ _ => true
  | .lossOfSignal _ _ _ => true
  | .noGoodFrame _ _ => true
  | .linkRetrain _ _ _ _ => true
  | .disable _ _ _ _ => true
  | .carrierReturn _ _ _ _ => true
  | .ringLock _ _ _ _ => true
  | .ringLossOfLock _ _ _ _ => true
  | .ringRetry _ _ _ _ _ => true
  | .lineLoss _ _ => true
  | .inputOk _ _ => true
  | .laserSel _ _ => true
  | .cmapClear _ _ _ _ => true
  | .cmapClearDone _ _ => true
  | .granuleFill _ _ _ => true
  | .scrubStart _ _ _ => true
  | .scrubRead _ => true
  | .scrubStop _ _ _ => true
  | .scrubPassEnd _ _ => true
  | .patrolRead _ => true
  | .init _ _ _ _ _ => true
  | .ddrRetrain _ _ _ _ => true
  | .centringPass _ _ _ => true
  | .zqCalibration _ _ _ => true
  | .dramCommand _ _ _ _ => true
  | .refreshInterval _ _ _ => true
  | .prechargePowerDown _ _ _ => true
  | .panic _ _ _ _ => true
  | .lanePllLock _ _ _ => true
  | .lanePllLossOfLock _ _ _ => true
  | .ownerChange _ _ _ _ _ => true
  | .ownerSettle _ _ _ => true
  | .txeq _ _ _ _ _ => true
  | .adapted _ _ _ _ _ ffe => decide (ffe.length = 24)
  | .cdrLossOfLock _ _ _ _ => true
  | .histogramRun _ _ _ _ _ => true
  | .histogramDone _ _ _ _ => true
  | .ethPortEnable _ _ _ _ _ => true
  | .ethFrameReceive _ _ _ f _ => f.wf
  | .ethFrameTransmit _ _ _ _ _ => true
  | .linkChange _ _ _ _ _ _ => true
  | .saload _ _ _ _ => true
  | .pcieInboundTlp _ op _ addr len data _ _ _ _ => tlpForm op addr len data
  | .pcieCompletion _ _ _ _ _ => true
  | .pcieLinkChange _ _ _ _ _ _ _ => true
  | .jesdLinkEnable _ _ _ _ _ _ => true
  | .sysrefEdge _ _ _ _ _ => true
  | .evaluation e => e.wf
  | .ppsIn _ => true
  | .meas _ _ _ => true
  | .step _ _ => true
  | .stepApply => true
  | .hold _ _ => true
  | .servoEn _ _ => true
  | .timeFrame _ => true
  | .echoExchange _ _ _ => true
  | .followerGap _ => true
  | .sensorRead _ => true
  | .tuningFrame => true
  | .modelAlign => true
  | .xoLoss => true
  | .ppsOut _ => true
  | .sysrefOut _ => true
  | .uartReceive _ => true
  | .uartTransmit _ _ => true
  | .authload _ _ => true
  | .reselect _ _ => true
  | .darkHoldRetry => true
  | .chunkRelease => true
  | .wreg _ => true
  | .wmem _ => true
  | .frameInstr _ => true
  | .rbc _ => true
  | .poll _ => true
  | .pollLimit _ => true
  | .callProg _ => true
  | .callLimit _ => true
  | .sync _ => true
  | .endSeg _ => true
  | .pload _ _ => true
  | .ploadEnd => true
  | .fopRead _ => true
  | .fopProgram _ => true
  | .fopErase _ => true
  | .fopDone => true
  | .clone _ _ _ _ => true
  | .cloneDone _ _ => true
  | .quoinClose _ _ _ _ => true
  | .quoinOpen _ _ _ _ => true
  | .caseQuoinClose _ _ _ _ => true
  | .quiesce _ _ _ _ => true
  | .dexp _ _ => true
  | .xswapGo _ _ _ => true
  | .xswapTrigger _ _ => true
  | .xswapCheck _ => true
  | .addkey _ => true
  | .revoke _ => true
  | .floorCmd _ => true
  | .sfloor _ => true
  | .setfk _ => true
  | .policyCmd _ => true
  | .encreq _ => true
  | .debugBurn _ => true
  | .attest => true
  | .unlockAttempt _ => true
  | .dlock _ _ => true
  | .unlockExpiry => true
  | .provingWindow _ => true
  | .handOver => true
  | .referenceNotProven => true
  | .sourceFailure _ => true
  | .sourceReturn => true
  | .rootRelockTry _ _ => true
  | .waitLimit => true
  | .domainOff _ _ _ => true
  | .domainOn _ _ _ => true
  | .switchOpen _ => true
  | .domainPowered _ => true
  | .domainReset _ _ _ => true
  | .dieOff _ _ _ => true
  | .dieOn _ _ _ => true
  | .dieReset _ _ _ => true
  | .supfail _ => true
  | .powerOnReset => true
  | .pornRise board _ => board.wf
  | .guardReset _ => true
  | .debugReset => true
  | .temperatureRead _ _ => true
  | .galleyTest _ _ _ => true
  | .positionTest _ _ _ => true
  | .caseTest _ _ _ => true
  | .logicSelfTestDone _ _ _ => true
  | .memorySelfTestDone _ _ => true
  | .finishingDone _ => true
  | .testStop _ _ _ => true
  | .idcode => true
  | .samplePreload _ _ => true
  | .extest _ _ => true
  | .extestPulse _ _ => true
  | .extestTrain _ _ => true
  | .clamp => true
  | .highz => true
  | .bypass => true
  | .dreg _ _ _ _ _ => true
  | .debugWindow _ _ _ _ _ => true
  | .debugAccess _ => true
  | .debugHalt _ => true
  | .debugResume _ => true
  | .debugStep _ => true
  | .watchdogExpiry _ => true
  | .raiseEvent _ _ _ => true
  | .pendClear _ _ _ _ => true
  | .fabricEvent _ _ _ => true
  | .eventDelivery _ _ => true
  | .cdrLock _ _ _ => true
  | .checkerLock _ _ _ => true
  | .checkerUnlock _ _ _ bits wrong syms => decide (wrong ≤ bits) && decide (syms ≤ wrong)
  | .prbs31Received _ _ => true
  | .rawTransmitWord _ _ _ _ _ => true
  | .jesdSyncLoss _ _ _ => true
  | .jesdCrcError _ _ _ => true
  | .railWindowChange _ _ => true

end Sys2Proof
end

