-- ==== Sys2Proof/Certificates/Slice0/Obligations.lean ====
section
/-! DEFINITION. The statements for the provers. The definitions of `Sys2Proof.Claims` say, from the rules alone, what the
statements below them hold the machine to. -/

namespace Sys2Proof.Claims
open Sys2Proof Sys2Proof.Machine

/-- The machine answers a next state that meets P. -/
def Gives (o : Host.Outcome State Fault Refusal) (P : State → Prop) : Prop := ∃ t, o = .next t ∧ P t

/-! The pairs of Rolran. -/

/-- The vector no-operation (R146). -/
def noVec : VInstr := .vnop { vd := 0, va := 0, vb := 0, pg := 0, t := 0 }

/-- A scalar instruction whose only result is discarded (R85). -/
def noSc : SInstr := .addi { rd := 0, ra := 0, imm := 0 }

/-- The command of a scalar instruction: the row of the table that carries it. -/
def scRow (u : UnitId) (v : VInstr) : SInstr → Option Instr
  | .add r => some (.add u r v) | .sub r => some (.sub u r v) | .and r => some (.and u r v) | .or r => some (.or u r v)
  | .xor r => some (.xor u r v) | .andn r => some (.andn u r v) | .shl r => some (.shl u r v) | .shr r => some (.shr u r v)
  | .sra r => some (.sra u r v) | .ror r => some (.ror u r v) | .slt r => some (.slt u r v)
  | .sltu r => some (.sltu u r v) | .min r => some (.min u r v) | .max r => some (.max u r v)
  | .minu r => some (.minu u r v) | .maxu r => some (.maxu u r v) | .clz r => some (.clz u r v)
  | .ctz r => some (.ctz u r v) | .pop r => some (.pop u r v) | .ext r => some (.ext u r v) | .sel r => some (.sel u r v)
  | .mul r => some (.mul u r v) | .mulhs r => some (.mulhs u r v) | .mulhu r => some (.mulhu u r v)
  | .divs r => some (.divs u r v) | .divu r => some (.divu u r v) | .rems r => some (.rems u r v)
  | .remu r => some (.remu u r v) | .addi r => some (.addi u r v) | .andi r => some (.andi u r v)
  | .ori r => some (.ori u r v) | .xori r => some (.xori u r v) | .slti r => some (.slti u r v)
  | .sltui r => some (.sltui u r v) | .shi r => some (.shi u r v) | .mvz r => some (.mvz u r v)
  | .mvk r => some (.mvk u r v) | .mvn r => some (.mvn u r v) | .l r => some (.l u r v) | .s r => some (.s u r v)
  | .cl r => some (.cl u r v) | .cs r => some (.cs u r v) | .xl r => some (.xl u r v) | .xs r => some (.xs u r v)
  | .cat r => some (.cat u r v) | .xat r => some (.xat u r v) | .lkl r => some (.lkl u r v) | .stu r => some (.stu u r v)
  | .beq r => some (.beq u r v) | .bne r => some (.bne u r v) | .blt r => some (.blt u r v) | .bge r => some (.bge u r v)
  | .bltu r => some (.bltu u r v) | .bgeu r => some (.bgeu u r v) | .jl r => some (.jl u r v) | .jr r => some (.jr u r v)
  | .loop r => some (.loop u r v) | .loopi r => some (.loopi u r v) | .srd r => some (.srd u r v)
  | .swr r => some (.swr u r v) | .fence r => some (.fence u r v) | .sys r => some (.sys u r v)
  | .brk r => some (.brk u r v) | .rte r => some (.rte u r v) | .halt r => some (.halt u r v)
  | .wev r => some (.wev u r v) | .illegal _ => none

/-- The command of a vector instruction. -/
def vcRow (u : UnitId) (x : SInstr) : VInstr → Option Instr
  | .vnop r => some (.vnop u r x) | .vadd r => some (.vadd u r x) | .vsub r => some (.vsub u r x)
  | .vadds r => some (.vadds u r x) | .vsubs r => some (.vsubs u r x) | .vmin r => some (.vmin u r x)
  | .vmax r => some (.vmax u r x) | .vabs r => some (.vabs u r x) | .vneg r => some (.vneg u r x)
  | .vand r => some (.vand u r x) | .vor r => some (.vor u r x) | .vxor r => some (.vxor u r x)
  | .vsel r => some (.vsel u r x) | .vconj r => some (.vconj u r x) | .vperm r => some (.vperm u r x)
  | .vzipl r => some (.vzipl u r x) | .vziph r => some (.vziph u r x) | .vuzpe r => some (.vuzpe u r x)
  | .vuzpo r => some (.vuzpo u r x) | .vshl r => some (.vshl u r x) | .vshls r => some (.vshls u r x)
  | .vsra r => some (.vsra u r x) | .vsrar r => some (.vsrar u r x) | .vsrl r => some (.vsrl u r x)
  | .vsplat r => some (.vsplat u r x) | .vceq r => some (.vceq u r x) | .vclt r => some (.vclt u r x)
  | .vcle r => some (.vcle u r x) | .pand r => some (.pand u r x) | .por r => some (.por u r x)
  | .pnot r => some (.pnot u r x) | .vbc r => some (.vbc u r x) | .vext r => some (.vext u r x)
  | .vins r => some (.vins u r x) | .pfromg r => some (.pfromg u r x) | .ptog r => some (.ptog u r x)
  | .vl r => some (.vl u r x) | .vl2 r => some (.vl2 u r x) | .vs r => some (.vs u r x)
  | .vmacH r => some (.vmacH u r x) | .vmacbH r => some (.vmacbH u r x) | .vmacB r => some (.vmacB u r x)
  | .vmacbB r => some (.vmacbB u r x) | .vcmac r => some (.vcmac u r x) | .vcmacb r => some (.vcmacb u r x)
  | .vcmacbj r => some (.vcmacbj u r x) | .vcmulr r => some (.vcmulr u r x) | .vbf4 r => some (.vbf4 u r x)
  | .voutH r => some (.voutH u r x) | .voutW r => some (.voutW u r x) | .vaget r => some (.vaget u r x)
  | .vaput r => some (.vaput u r x) | .vared r => some (.vared u r x) | .vfmaF r => some (.vfmaF u r x)
  | .vfmsF r => some (.vfmsF u r x) | .vfmaBf r => some (.vfmaBf u r x) | .vfmsBf r => some (.vfmsBf u r x)
  | .vfmawBf r => some (.vfmawBf u r x) | .vfaddF r => some (.vfaddF u r x) | .vfmulF r => some (.vfmulF u r x)
  | .vfcvtBf r => some (.vfcvtBf u r x) | .vmsa r => some (.vmsa u r x) | .vmsr r => some (.vmsr u r x)
  | .illegal _ => none

/-- The pair x, v issues at unit u and takes effect: the unit runs and no STOP is pending, its pair and the registers that it
reads are read without an error, every register and access that it waits for is free, it raises no trap, no asynchronous cause
is taken before it, no request of it has left before and no return is held for it, and no debug step or halt ends with it. -/
structure Issues (s : State) (u : UnitId) (x : SInstr) (v : VInstr) : Prop where
  runs : mayRun s u = true
  there : fetchDone s u (s.unit u).pc = true
  unsent : (s.unit u).sent = []
  fetch : fetchTraps s u (s.unit u).pc = []
  clean : pairAcct u (scalarSlot (scCtx s u x) x) (otherVec s u v) s = s
  scFree : pendWait (scCtx s u x) (scalarSlot (scCtx s u x) x) = 0 ∧ (scalarSlot (scCtx s u x) x).wait = 0
  vcFree : pendWait (scCtx s u x) (otherVec s u v) = 0 ∧ (otherVec s u v).wait = 0
  noTrap : pairTraps (scCtx s u x) (scalarSlot (scCtx s u x) x) (otherVec s u v) = []
  noAsync : asyncCause s u = none
  free : (s.unit u).stepping = false ∧ (s.unit u).resume = 0 ∧ (s.unit u).haltDue = false
  noneHeld : (s.unit u).held = []
  goesOn : (s.unit u).stopping = false

/-- The unit after a pair that does not branch: hardware loops count (R113, R115), fetch goes on, and the wait at issue
and the rule of locked sequences (R110) are brought up to date. -/
def moved (s : State) (u : UnitId) (lock : Nat) : UnitState :=
  let x := s.unit u
  let y := if isEng u then loopEnd x x.pc else (x, none)
  { y.1 with stall := 0, wev := none, mismRun := 0, sent := [], fetched := none, lkSeq := nextSeq x.lkSeq lock false,
             pc := y.2.getD (x.pc + BitVec.ofNat 64 (unitBytes u)) }

/-- The unit after a pair that sends fetch to t. -/
def jumped (s : State) (u : UnitId) (t : W64) : UnitState :=
  { s.unit u with stall := 0, wev := none, mismRun := 0, sent := [], fetched := none, lkSeq := nextSeq (s.unit u).lkSeq 0 true, pc := t }

/-- The result of a scalar instruction that only reads general registers and writes one: its destination and its value
(R85, R95 to R97). `g` reads a general register, and division is that of Rolran-C (R84, R96). -/
def scalarResult (g : BitVec 5 → W64) : SInstr → Option (BitVec 5 × W64)
  | .add r => some (r.rd, g r.ra + g r.rb)
  | .sub r => some (r.rd, g r.ra - g r.rb)
  | .and r => some (r.rd, g r.ra &&& g r.rb)
  | .or r => some (r.rd, g r.ra ||| g r.rb)
  | .xor r => some (r.rd, g r.ra ^^^ g r.rb)
  | .andn r => some (r.rd, g r.ra &&& ~~~ g r.rb)
  | .shl r => some (r.rd, g r.ra <<< (g r.rb).extractLsb' 0 6)
  | .shr r => some (r.rd, g r.ra >>> (g r.rb).extractLsb' 0 6)
  | .sra r => some (r.rd, (g r.ra).sshiftRight ((g r.rb).extractLsb' 0 6).toNat)
  | .ror r => some (r.rd, (g r.ra).rotateRight ((g r.rb).extractLsb' 0 6).toNat)
  | .slt r => some (r.rd, if (g r.ra).toInt < (g r.rb).toInt then 1 else 0)
  | .sltu r => some (r.rd, if (g r.ra).toNat < (g r.rb).toNat then 1 else 0)
  | .min r => some (r.rd, BitVec.ofInt 64 (min (g r.ra).toInt (g r.rb).toInt))
  | .max r => some (r.rd, BitVec.ofInt 64 (max (g r.ra).toInt (g r.rb).toInt))
  | .minu r => some (r.rd, BitVec.ofNat 64 (min (g r.ra).toNat (g r.rb).toNat))
  | .maxu r => some (r.rd, BitVec.ofNat 64 (max (g r.ra).toNat (g r.rb).toNat))
  | .ext r =>
    match r.rc with
    | 0#5 => some (r.rd, ((g r.ra).setWidth 8).signExtend 64)
    | 1#5 => some (r.rd, ((g r.ra).setWidth 16).signExtend 64)
    | 2#5 => some (r.rd, ((g r.ra).setWidth 32).signExtend 64)
    | 3#5 => some (r.rd, ((g r.ra).setWidth 32).setWidth 64)
    | _ => none
  | .sel r => some (r.rd, if g r.rc = 0 then g r.rb else g r.ra)
  | .mul r => some (r.rd, BitVec.ofNat 64 ((g r.ra).toNat * (g r.rb).toNat))
  | .mulhs r => some (r.rd, BitVec.ofInt 64 ((g r.ra).toInt * (g r.rb).toInt / 2 ^ 64))
  | .mulhu r => some (r.rd, BitVec.ofNat 64 ((g r.ra).toNat * (g r.rb).toNat / 2 ^ 64))
  | .divs r => some (r.rd, if g r.rb = 0 then BitVec.allOnes 64 else BitVec.ofInt 64 ((g r.ra).toInt.tdiv (g r.rb).toInt))
  | .divu r => some (r.rd, if g r.rb = 0 then BitVec.allOnes 64 else BitVec.ofNat 64 ((g r.ra).toNat / (g r.rb).toNat))
  | .rems r => some (r.rd, if g r.rb = 0 then g r.ra else BitVec.ofInt 64 ((g r.ra).toInt.tmod (g r.rb).toInt))
  | .remu r => some (r.rd, if g r.rb = 0 then g r.ra else BitVec.ofNat 64 ((g r.ra).toNat % (g r.rb).toNat))
  | .addi r => some (r.rd, g r.ra + r.imm.signExtend 64)
  | .andi r => some (r.rd, g r.ra &&& r.imm.setWidth 64)
  | .ori r => some (r.rd, g r.ra ||| r.imm.setWidth 64)
  | .xori r => some (r.rd, g r.ra ^^^ r.imm.setWidth 64)
  | .slti r => some (r.rd, if (g r.ra).toInt < r.imm.toInt then 1 else 0)
  | .sltui r => some (r.rd, if (g r.ra).toNat < (r.imm.signExtend 64).toNat then 1 else 0)
  | .shi r =>
    let n := (r.imm.extractLsb' 0 6).toNat
    match r.imm.extractLsb' 14 2 with
    | 0#2 => some (r.rd, g r.ra <<< n)
    | 1#2 => some (r.rd, g r.ra >>> n)
    | 2#2 => some (r.rd, (g r.ra).sshiftRight n)
    | _ => some (r.rd, (g r.ra).rotateRight n)
  | .mvz r => some (r.rd, r.imm.setWidth 64 <<< (16 * r.q.toNat))
  | .mvn r => some (r.rd, ~~~(r.imm.setWidth 64 <<< (16 * r.q.toNat)))
  | .mvk r => some (r.rd, (g r.rd &&& ~~~(0xFFFF#64 <<< (16 * r.q.toNat))) ||| (r.imm.setWidth 64 <<< (16 * r.q.toNat)))
  | _ => none

/-- A count of the zeros above the highest one bit, of the zeros below the lowest one bit, or of the one bits (R95). -/
def CountOf (a : W64) (n : Nat) : SInstr → Prop
  | .clz _ => n ≤ 64 ∧ a.toNat < 2 ^ (64 - n) ∧ (n < 64 → 2 ^ (63 - n) ≤ a.toNat)
  | .ctz _ => n ≤ 64 ∧ (∀ k, k < n → a.getLsbD k = false) ∧ (n < 64 → a.getLsbD n = true)
  | .pop _ => n = ((List.range 64).filter (fun k => a.getLsbD k)).length
  | _ => False

end Sys2Proof.Claims

open Sys2Proof Sys2Proof.Machine Sys2Proof.Claims

/-- R85, R95 to R97: a scalar instruction that only reads general registers gives its destination the stated value
(g0 discards it) and clears its mark; fetch moves on, and nothing else changes. The vector slot beside it is empty. -/
def Obligations.ScalarRegisterResult : Prop :=
  ∀ (s : State) (u : UnitId) (x : SInstr) (i : Instr) (rd : BitVec 5) (w : W64),
    scRow u noVec x = some i → Issues s u x noVec → scalarResult (fun r => (s.unit u).getG r.toNat) x = some (rd, w) →
    exec i s = .next (s.setUnit u ((moved s u 0).setG rd.toNat w))

/-- R95: CLZ, CTZ and POP give the destination the count that the rule names, and nothing else changes. -/
def Obligations.ScalarCounts : Prop :=
  ∀ (s : State) (u : UnitId) (r : FmtR) (x : SInstr) (i : Instr), x ∈ [.clz r, .ctz r, .pop r] →
    scRow u noVec x = some i → Issues s u x noVec →
    ∃ n, CountOf ((s.unit u).getG r.ra.toNat) n x ∧
      exec i s = .next (s.setUnit u ((moved s u 0).setG r.rd.toNat (BitVec.ofNat 64 n)))

namespace Sys2Proof.Claims

/-- Byte n of memory reads in t as in s, for every n outside the bytes [a, a + len). -/
def SameOutside (s t : State) (a len : Nat) : Prop := ∀ n, ¬ (a ≤ n ∧ n < a + len) → t.mem.read n = s.mem.read n

/-- The local data memory of an engine, the SRAM of a die control core or a memory of the guard core: where an access of n
bytes at package or local address a lies (R35, R37, R58, R378), when it does. -/
def ownMemory (u : UnitId) (a n : Nat) : Option Nat :=
  match u with
  | .eng d c p => if a + n ≤ 0x20000 then some (lmemBase d c p + a) else none
  | .core d => if sramBase d ≤ a ∧ a + n ≤ sramBase d + 0x80000 then some a else none
  | .guard =>
    match Config.guardMem a with
    | some o => if Config.guardMem (a + n - 1) = some (o + n - 1) then some (guardBase + o) else none
    | none => none

/-- The case access that an instruction of an engine makes (R98, R103 to R106): its offset, bytes, operation and
destination, and its part in a locked sequence. `g` reads a general register. -/
def caseAccess (g : BitVec 5 → W64) : SInstr → Option (W64 × Nat × BankOp × Dest × Nat)
  | .cl r => some (g r.ra + r.imm.signExtend 64, szBytes r.sz, .read, .load r.rd.toNat r.sz, 3)
  | .cs r => some (g r.ra + r.imm.signExtend 64, szBytes r.sz, .write ((g r.rd).toNat % 256 ^ szBytes r.sz) 0, .store, 3)
  | .cat r => some (g r.ra, dwBytes r.dw, .atomic r.afn r.dw (g r.rb) (g r.rc), .atomic r.rd.toNat r.dw, 3)
  | .lkl r => some (g r.ra, dwBytes r.dw, .read, .lkl r.rd.toNat r.dw, 1)
  | .stu r =>
    some (g r.ra, dwBytes r.dw, .stu (BitVec.ofNat 64 ((g r.rb).toNat % 256 ^ dwBytes r.dw)), .stu r.rd.toNat, 2)
  | _ => none

/-- An access of n bytes at a lies in the SRAM of the die control core that makes it (R37). -/
def ownSramAt (u : UnitId) (a n : Nat) : Bool := !isEng u && (ownMemory u a n).isSome

/-- The remote access that an instruction makes (R98, R100, R104): address, bytes, operation, data, and destination. A load of a
core from the DRAM window is not among them: it passes through the data cache. -/
def remoteAccess (u : UnitId) (g : BitVec 5 → W64) : SInstr → Option (W64 × Nat × ReqOp × Nat × Dest)
  | .xl r =>
    let a := g r.ra + r.imm.signExtend 64
    if ownSramAt u a.toNat (szBytes r.sz) then none else some (a, szBytes r.sz, .rd, 0, .load r.rd.toNat r.sz)
  | .xs r =>
    let a := g r.ra + r.imm.signExtend 64
    if ownSramAt u a.toNat (szBytes r.sz) then none
    else some (a, szBytes r.sz, .wr, (g r.rd).toNat % 256 ^ szBytes r.sz, .store)
  | .xat r => some (g r.ra, dwBytes r.dw, .at_, (g r.rb).toNat, .atomic r.rd.toNat r.dw)
  | .l r =>
    let a := g r.ra + r.imm.signExtend 64
    if isEng u ∨ (ownMemory u a.toNat (szBytes r.sz)).isSome ∨ a.toNat + szBytes r.sz ≤ 2 ^ 39 then none
    else some (a, szBytes r.sz, .rd, 0, .load r.rd.toNat r.sz)
  | .s r =>
    let a := g r.ra + r.imm.signExtend 64
    if isEng u ∨ (ownMemory u a.toNat (szBytes r.sz)).isSome then none
    else some (a, szBytes r.sz, .wr, (g r.rd).toNat % 256 ^ szBytes r.sz, .store)
  | _ => none

/-- The initiator that a processor is (R42, R307). -/
def initiator (s : State) : UnitId → Who
  | .eng d c p => .engine d c ⟨min (s.slotOf d c p) 8, by omega⟩
  | .core d => .core d
  | .guard => .guard

/-- The target of a B-format branch and whether it is taken (R111). -/
def branchOf (pc : W64) (unit : Nat) (g : BitVec 5 → W64) : SInstr → Option (Bool × W64)
  | .beq r => some (decide (g r.ra = g r.rb), pc + r.off.signExtend 64 * BitVec.ofNat 64 unit)
  | .bne r => some (decide (g r.ra ≠ g r.rb), pc + r.off.signExtend 64 * BitVec.ofNat 64 unit)
  | .blt r => some (decide ((g r.ra).toInt < (g r.rb).toInt), pc + r.off.signExtend 64 * BitVec.ofNat 64 unit)
  | .bge r => some (decide ((g r.rb).toInt ≤ (g r.ra).toInt), pc + r.off.signExtend 64 * BitVec.ofNat 64 unit)
  | .bltu r => some (decide ((g r.ra).toNat < (g r.rb).toNat), pc + r.off.signExtend 64 * BitVec.ofNat 64 unit)
  | .bgeu r => some (decide ((g r.rb).toNat ≤ (g r.ra).toNat), pc + r.off.signExtend 64 * BitVec.ofNat 64 unit)
  | _ => none

/-- The target and link register of JL and JR (R111, R112). -/
def jumpOf (pc : W64) (unit : Nat) (g : BitVec 5 → W64) : SInstr → Option (BitVec 5 × W64)
  | .jl r => some (r.rd, pc + r.off.signExtend 64 * BitVec.ofNat 64 unit)
  | .jr r => some (r.rd, g r.ra + r.imm.signExtend 64)
  | _ => none

/-- The level, count and end of LOOP and LOOPI (R113). -/
def loopOf (pc : W64) (g : BitVec 5 → W64) : SInstr → Option (Bool × W64 × W64)
  | .loop r => some (r.lvl, g r.ra, pc + r.end12.setWidth 64 * 8)
  | .loopi r => some (r.lvl, r.count.setWidth 64, pc + r.end12.setWidth 64 * 8)
  | _ => none

/-- The unit with the loop registers of a level set (R113). -/
def withLoop (x : UnitState) (lvl : Bool) (start last count : W64) : UnitState :=
  ((x.setSys (LS lvl) start).setSys (LE lvl) last).setSys (LC lvl) count

/-- Level l of the hardware loops ends at the pair at pc. -/
def EndsAt (x : UnitState) (l : Bool) : Prop := x.getSys (LE l) = x.pc ∧ x.getSys (LC l) ≠ 0

/-- The state that taking a trap leaves a unit in when no handler runs (R124). -/
def Trapped (x y : UnitState) (u : UnitId) (cause : Nat) (tval epc : W64) : Prop :=
  y.getSys EPC = epc ∧ y.getSys CAUSE = BitVec.ofNat 64 cause ∧ y.getSys TVAL = tval ∧
  y.st_ fPPRIV = x.st_ fPRIV ∧ y.st_ fPEIE = x.st_ fEIE ∧ y.st_ fPRIV = trapLevel u ∧ y.st_ fEIE = 0 ∧
  y.st_ fINTRAP = 1 ∧ y.resv = none ∧ y.pc = x.getSys TVEC ∧
  (∀ n, y.getG n = x.getG n ∧ y.markG n = x.markG n) ∧
  (∀ n, n ≠ STATUS → n ≠ EPC → n ≠ CAUSE → n ≠ TVAL → y.getSys n = x.getSys n) ∧
  (∀ n, y.getV n = x.getV n ∧ y.getA n = x.getA n ∧ y.getP n = x.getP n)

/-- The pair x, v raises a synchronous cause at unit u, and may issue: the unit runs, its pair and the registers that it reads
are read without an error, it waits for nothing, and no debug step or halt ends with it. -/
structure Raises (s : State) (u : UnitId) (x : SInstr) (v : VInstr) : Prop where
  runs : mayRun s u = true
  there : fetchDone s u (s.unit u).pc = true
  unsent : (s.unit u).sent = []
  fetch : fetchTraps s u (s.unit u).pc = []
  clean : pairAcct u (scalarSlot (scCtx s u x) x) (otherVec s u v) s = s
  scFree : pendWait (scCtx s u x) (scalarSlot (scCtx s u x) x) = 0 ∧ (scalarSlot (scCtx s u x) x).wait = 0
  vcFree : pendWait (scCtx s u x) (otherVec s u v) = 0 ∧ (otherVec s u v).wait = 0
  free : (s.unit u).stepping = false ∧ (s.unit u).resume = 0 ∧ (s.unit u).haltDue = false
  noneHeld : (s.unit u).held = []

/-- The synchronous causes of the pair. -/
def causes (s : State) (u : UnitId) (x : SInstr) (v : VInstr) : List (Nat × W64) :=
  pairTraps (scCtx s u x) (scalarSlot (scCtx s u x) x) (otherVec s u v)

end Sys2Proof.Claims

/-- R37, R56, R58, R98, R100: L and S reach the local data memory of an engine, and L, S, XL and XS the SRAM of the die control
core that executes them; the load gives its destination the extended value, the store writes its low bytes, and no byte outside
them changes. -/
def Obligations.OwnMemoryLoadAndStore : Prop :=
  ∀ (s : State) (u : UnitId) (r : FmtM) (a : W64) (m n : Nat),
    a = (s.unit u).getG r.ra.toNat + r.imm.signExtend 64 → n = szBytes r.sz → ownMemory u a.toNat n = some m →
    (∀ x i, x = .l r ∨ (isEng u = false ∧ x = .xl r) → scRow u noVec x = some i → Issues s u x noVec →
      s.mem.badN m n = 0 → s.mem.corrN m n = 0 →
      exec i s = .next (s.setUnit u ((moved s u 0).setG r.rd.toNat (extendSz r.sz (s.mem.readN m n))))) ∧
    (∀ x i, x = .s r ∨ (isEng u = false ∧ x = .xs r) → scRow u noVec x = some i → Issues s u x noVec →
      Gives (exec i s) fun t =>
      t = { s.setUnit u (moved s u 0) with mem := t.mem } ∧
      t.mem.readN m n = ((s.unit u).getG r.rd.toNat).toNat % 256 ^ n ∧ SameOutside s t m n)

/-- R87, R133, R380, R385, R386: a load that meets an uncorrectable byte leaves the poison mark with its address on the
destination, counts the error and raises the event of uncorrectable memory errors. -/
def Obligations.PoisonedLoad : Prop :=
  ∀ (s : State) (d : Fin 4) (c : Fin 16) (p : Fin 9) (r : FmtM) (a : W64) (m n : Nat),
    a = (s.unit (.eng d c p)).getG r.ra.toNat + r.imm.signExtend 64 → n = szBytes r.sz →
    ownMemory (.eng d c p) a.toNat n = some m → Issues s (.eng d c p) (.l r) noVec → s.mem.badN m n ≠ 0 →
    r.rd ≠ 0 → Gives (exec (.l (.eng d c p) r noVec) s) fun t =>
      (t.unit (.eng d c p)).markG r.rd.toNat = .poison a ∧
      (t.unit (.eng d c p)).getG r.rd.toNat = extendSz r.sz (s.mem.readN m n) ∧
      t.bit .integEflags [d] F.integEflags_UE = true ∧ (t.reg .eventPend [d, 5]).getLsbD 6 = true ∧ t.mem = s.mem

/-- R98, R100, R103, R105, R106, R110: CL, CS, CAT, LKL and STU of an engine put one request on its wire to the bank and
are outstanding until it is granted; LKL drops the reservation that the engine held. Nothing else changes. -/
def Obligations.CaseAccessSent : Prop :=
  ∀ (s : State) (d : Fin 4) (c : Fin 16) (p : Fin 9) (x : SInstr) (i : Instr) (a : W64) (n : Nat) (op : BankOp)
    (goesTo : Dest) (lock : Nat) (y : UnitState),
    scRow (.eng d c p) noVec x = some i → Issues s (.eng d c p) x noVec →
    caseAccess (fun r => (s.unit (.eng d c p)).getG r.toNat) x = some (a, n, op, goesTo, lock) →
    (s.unit (.eng d c p)).lkSeq ≠ 18 →
    y = (if lock = 1 then UnitState.dropResv (moved s (.eng d c p) lock)
      else if lock = 2 then
        { moved s (.eng d c p) lock with outs := (s.unit (.eng d c p)).outs.map (Pend.failsStu a.toNat n) }
      else moved s (.eng d c p) lock) →
    exec i s = .next
      ((s.setUnit (.eng d c p)
        { y with
          outs := y.outs ++ [{ id := y.nextId, remote := false, addr := a.toNat, len := n, dest := goesTo }],
          nextId := y.nextId + 1 }).setCase d c
        { s.case d c with
          waiting := (s.case d c).waiting ++
            [{ who := .eng p, off := a.toNat, len := n, op := op, use := .eng y.nextId, pri := 0, age := 0 }] })

/-- R98, R100, R104, R309, R317: XL, XS and XAT, S of a die control core or the guard core, and its L outside the DRAM window,
each outside its own SRAM, leave one request at the end of the queue of the processor's interface and an outstanding access at
the processor; the request carries the priority and order of the processor's tmo_cfg. R100, R102: a load of a core from the
DRAM window gives its destination the extended value when its data cache holds the line, and otherwise reads the whole line
over the network. The choice is the model's where log entry 66 says so. -/
def Obligations.RemoteAccessSent : Prop :=
  (∀ (s : State) (u : UnitId) (x : SInstr) (i : Instr) (a : W64) (n data : Nat) (op : ReqOp) (goesTo : Dest),
      scRow u noVec x = some i → Issues s u x noVec → n ∣ a.toNat →
      remoteAccess u (fun r => (s.unit u).getG r.toNat) x = some (a, n, op, data, goesTo) →
      Gives (exec i s) fun t =>
        (t.unit u).outs =
          (if op = .rd ∨ isEng u = true ∨ 2 ^ 39 < a.toNat + n then (s.unit u).outs
           else (s.unit u).outs.map (Pend.noKeep (a.toNat / 64))) ++
          [{ id := (s.unit u).nextId, remote := true, addr := a.toNat, len := n, dest := goesTo }] ∧
        (∃ q, (t.init (initiator s u)).queue = (s.init (initiator s u)).queue ++ [q] ∧ q.who = initiator s u ∧ q.op = op ∧
          q.addr = a.toNat ∧ q.len = n ∧ q.data = data ∧ q.lock = false ∧
          q.pri = tmoFld s (initiator s u) F.nocTmoCfg_PRI ∧
          q.ord = decide (tmoFld s (initiator s u) F.nocTmoCfg_ORD = 1)) ∧
        (∀ k, (t.unit u).getG k = (s.unit u).getG k) ∧ t.mem = s.mem ∧ t.regs = s.regs ∧ t.flight = s.flight) ∧
  (∀ (s : State) (u : UnitId) (r : FmtM) (a : W64) (n : Nat), isEng u = false →
      a = (s.unit u).getG r.ra.toNat + r.imm.signExtend 64 → n = szBytes r.sz → n ∣ a.toNat → a.toNat + n ≤ 2 ^ 39 →
      ownMemory u a.toNat n = none → Issues s u (.l r) noVec →
      (∀ w, (s.unit u).cached a.toNat = some w → (s.unit u).cacheBits false a.toNat n 1 = 0 →
        (s.unit u).cacheBits false a.toNat n 2 = 0 → exec (.l u r noVec) s = .next (s.setUnit u
        ((moved s u 0).setG r.rd.toNat (extendSz r.sz (w.toNat / 256 ^ (a.toNat % 64) % 256 ^ n))))) ∧
      ((s.unit u).cached a.toNat = none → Gives (exec (.l u r noVec) s) fun t =>
        (t.unit u).outs = (s.unit u).outs ++
          [{ id := (s.unit u).nextId, remote := true, addr := a.toNat, len := n, dest := .line r.rd.toNat r.sz true }] ∧
        (∃ q, (t.init (initiator s u)).queue = (s.init (initiator s u)).queue ++ [q] ∧ q.op = .rd ∧
          q.addr = a.toNat / 64 * 64 ∧ q.len = 64) ∧
        (∀ k, (t.unit u).getG k = (s.unit u).getG k) ∧ t.mem = s.mem ∧ t.regs = s.regs))

/-- R107, R108, R312: on a core, LKL sends a locked read and drops the reservation that it held; STU sends a locked write
while it holds a reservation of the same granule and size, and otherwise writes 1 to rd without a request; either way it
holds no reservation after it. -/
def Obligations.CoreLockedAccess : Prop :=
  ∀ (s : State) (u : UnitId) (r : FmtA), isEng u = false → (s.unit u).lkSeq ≠ 18 →
    (Issues s u (.lkl r) noVec → Gives (exec (.lkl u r noVec) s) fun t =>
      (t.unit u).resv = none ∧ ∃ q, (t.init (initiator s u)).queue = (s.init (initiator s u)).queue ++ [q] ∧
        q.lock = true ∧ q.op = .rd ∧ q.addr = ((s.unit u).getG r.ra.toNat).toNat ∧ q.len = dwBytes r.dw) ∧
    (Issues s u (.stu r) noVec → Gives (exec (.stu u r noVec) s) fun t =>
      (t.unit u).resv = none ∧
      (if ∃ v, (s.unit u).resv = some v ∧ v.granule = ((s.unit u).getG r.ra.toNat).toNat / 64 ∧ v.size = dwBytes r.dw then
        ∃ q, (t.init (initiator s u)).queue = (s.init (initiator s u)).queue ++ [q] ∧ q.lock = true ∧ q.op = .wr ∧
          q.addr = ((s.unit u).getG r.ra.toNat).toNat ∧ q.len = dwBytes r.dw ∧
          q.data = ((s.unit u).getG r.rb.toNat).toNat % 256 ^ dwBytes r.dw
      else (t.unit u).getG r.rd.toNat = (if r.rd = 0 then 0 else 1) ∧ t.inits = s.inits))

/-- R111, R112, R115: a branch that is taken sends fetch to its target and leaves the loop registers; one that is not goes
on; JL and JR also give rd the address of the next fetch unit. Nothing else changes. -/
def Obligations.BranchesAndJumps : Prop :=
  ∀ (s : State) (u : UnitId) (x : SInstr) (i : Instr), scRow u noVec x = some i → Issues s u x noVec →
    (∀ taken t, branchOf (s.unit u).pc (unitBytes u) (fun r => (s.unit u).getG r.toNat) x = some (taken, t) →
      exec i s = .next (s.setUnit u (if taken then jumped s u t else moved s u 0))) ∧
    (∀ rd t, jumpOf (s.unit u).pc (unitBytes u) (fun r => (s.unit u).getG r.toNat) x = some (rd, t) →
      exec i s = .next (s.setUnit u
        ((jumped s u t).setG rd.toNat ((s.unit u).pc + BitVec.ofNat 64 (unitBytes u)))))

/-- R113: LOOP and LOOPI set the start, end and count of their level; a count of 0 sends fetch past the end. -/
def Obligations.LoopSetup : Prop :=
  ∀ (s : State) (u : UnitId) (x : SInstr) (i : Instr) (lvl : Bool) (count last : W64),
    scRow u noVec x = some i → Issues s u x noVec →
    loopOf (s.unit u).pc (fun r => (s.unit u).getG r.toNat) x = some (lvl, count, last) →
    exec i s = .next (s.setUnit u
      (withLoop (if count = 0 then jumped s u (last + 8) else moved s u 0) lvl ((s.unit u).pc + 8) last count))

/-- R113, R115: at the end of a hardware loop an engine's pair that does not branch goes back while the count is above 1 and
falls through at 1; level 1 is tested first, and level 0 only when level 1 falls through. -/
def Obligations.LoopEnd : Prop :=
  ∀ (s : State) (d : Fin 4) (c : Fin 16) (p : Fin 9) (x : SInstr) (i : Instr) (rd : BitVec 5) (w : W64) (u : UnitId)
    (y : UnitState), u = .eng d c p → y = s.unit u →
    scRow u noVec x = some i → Issues s u x noVec → scalarResult (fun r => y.getG r.toNat) x = some (rd, w) →
    Gives (exec i s) fun t =>
      (EndsAt y true → 1 < (y.getSys (LC true)).toNat →
        (t.unit u).pc = y.getSys (LS true) ∧ (t.unit u).getSys (LC true) = y.getSys (LC true) - 1 ∧
        (t.unit u).getSys (LC false) = y.getSys (LC false)) ∧
      ((EndsAt y true → (y.getSys (LC true)).toNat = 1) → EndsAt y false → 1 < (y.getSys (LC false)).toNat →
        (t.unit u).pc = y.getSys (LS false) ∧ (t.unit u).getSys (LC false) = y.getSys (LC false) - 1) ∧
      (EndsAt y true → (y.getSys (LC true)).toNat = 1 → (t.unit u).getSys (LC true) = 0) ∧
      ((EndsAt y true → (y.getSys (LC true)).toNat = 1) → (EndsAt y false → (y.getSys (LC false)).toNat = 1) →
        (t.unit u).pc = y.pc + 8)

/-- R119, R120, R125, R136, R665: SRD gives rd the system register, of CYCLE the cycles counted and of WDOG the remaining
count, and SWR writes the bits of it that software may write; CYCLE discards a write, and a write of WDOG starts the
watchdog's count again. -/
def Obligations.SystemRegisterAccess : Prop :=
  ∀ (s : State) (u : UnitId) (r : FmtY),
    (Issues s u (.srd r) noVec → r.sr.toNat ≠ CYCLE → r.sr.toNat ≠ WDOG →
      exec (.srd u r noVec) s =
        .next (s.setUnit u ((moved s u 0).setG r.rd.toNat ((s.unit u).getSys r.sr.toNat)))) ∧
    (Issues s u (.srd r) noVec → r.sr.toNat = CYCLE → ∀ d c p, u = .eng d c p → s.slotOf d c p < 8 →
      exec (.srd u r noVec) s = .next (s.setUnit u ((moved s u 0).setG r.rd.toNat
        (s.reg .caseEngCycles [d, c, s.slotOf d c p])))) ∧
    (Issues s u (.srd r) noVec → r.sr.toNat = CYCLE → ∀ d, u = .core d →
      exec (.srd u r noVec) s = .next (s.setUnit u ((moved s u 0).setG r.rd.toNat (BitVec.ofNat 64 (s.hv .ctlCycle [d]))))) ∧
    (∀ n ix, wdogReg s u = some (n, ix) → r.sr.toNat = WDOG →
      (Issues s u (.srd r) noVec → exec (.srd u r noVec) s = .next (s.setUnit u ((moved s u 0).setG r.rd.toNat
        (BitVec.ofNat 64 (s.fld n ix F.caseEngWdog_REMAIN))))) ∧
      (Issues s u (.swr r) noVec → exec (.swr u r noVec) s =
        .next ((s.setUnit u (moved s u 0)).setFld n ix F.caseEngWdog_REMAIN (256 * s.fld n ix F.caseEngWdog_PERIOD)))) ∧
    (Issues s u (.swr r) noVec → r.sr.toNat ≠ WDOG → Gives (exec (.swr u r noVec) s) fun t =>
      let old := (moved s u 0).getSys r.sr.toNat
      let new := (s.unit u).getG r.ra.toNat
      (t.unit u).getSys r.sr.toNat =
        (if r.sr.toNat = STATUS then (old &&& ~~~0xEC#64) ||| (new &&& 0xEC#64)
         else if r.sr.toNat = TVEC then
           (old &&& BitVec.ofNat 64 (unitBytes u - 1)) ||| (new &&& ~~~(BitVec.ofNat 64 (unitBytes u - 1)))
         else if r.sr.toNat = VSTAT then (old &&& ~~~0x1F#64) ||| (new &&& 0x1F#64)
         else if r.sr.toNat = CYCLE then old else new) ∧
      (∀ n, n ≠ r.sr.toNat → (t.unit u).getSys n = (moved s u 0).getSys n) ∧
      (∀ n, (t.unit u).getG n = (s.unit u).getG n) ∧ t.mem = s.mem ∧ t.regs = s.regs)

/-- R116, R72, R127: FENCE passes when no access of its kinds is outstanding, and with bit 2 the instruction cache is empty (log entry 83);
HALT of an engine begins its stop at the pair boundary and clears the reservation, and HALT of a die control core stops it and
raises the core-stop event. -/
def Obligations.FenceAndHalt : Prop :=
  ∀ (s : State) (u : UnitId) (r : FmtY),
    (Issues s u (.fence r) noVec → (r.sr.getLsbD 0 = true → ∀ o ∈ (s.unit u).outs, o.remote = true) ∧
      (r.sr.getLsbD 1 = true → ∀ o ∈ (s.unit u).outs, o.remote = false ∨ o.dest.isFetch = true) ∧
      (r.sr.getLsbD 2 = true → ∀ o ∈ (s.unit u).outs, o.dest.isFetch = false ∧ o.dest.isStore = false) ∧
      exec (.fence u r noVec) s = .next (s.setUnit u
        { moved s u 0 with
          ilines := if r.sr.getLsbD 2 then [] else (s.unit u).ilines,
          cflaws := if r.sr.getLsbD 2 then (s.unit u).cflaws.keep (fun e => !e.1) else (s.unit u).cflaws })) ∧
    (Issues s u (.halt r) noVec → ∀ d c p, u = .eng d c p →
      exec (.halt u r noVec) s = .next (s.setUnit u { UnitState.dropResv (moved s u 0) with stopping := true })) ∧
    (Issues s u (.halt r) noVec → ∀ d, u = .core d → (s.comp d).doing ≠ .call → Gives (exec (.halt u r noVec) s) fun t =>
      (t.unit u).st = .stopped ∧ (t.unit u).resv = none ∧ (t.reg .eventPend [d, 5]).getLsbD 0 = true)

/-- R119, R681: WEV gives rd the number of the event that the unit takes and marks it TAKEN; with none it waits in place. -/
def Obligations.WaitForEvent : Prop :=
  ∀ (s : State) (u : UnitId) (r : FmtY),
    (∀ n, Issues s u (.wev r) noVec → nextEvent s u = some n → Gives (exec (.wev u r noVec) s) fun t =>
      (t.unit u).getG r.rd.toNat = (if r.rd = 0 then 0 else BitVec.ofNat 64 n) ∧
      t.bit .eventRoute [n / 512, n % 512] F.eventRoute_TAKEN = true ∧
      (∀ k, k ≠ r.rd.toNat → (t.unit u).getG k = (s.unit u).getG k)) ∧
    (canIssue s u = true → (s.unit u).sent = [] → fetchTraps s u (s.unit u).pc = [] → nextEvent s u = none → asyncCause s u = none →
      Gives (exec (.wev u r noVec) s) fun t =>
      (t.unit u).pc = (s.unit u).pc ∧ (t.unit u).wev = some (.wev r, noVec) ∧
      (∀ k, (t.unit u).getG k = (s.unit u).getG k))

/-- R121, R122, R124: a pair that raises synchronous causes has no effect of its own: the unit takes the lowest of them, with
EPC at the pair. -/
def Obligations.SynchronousTrap : Prop :=
  ∀ (s : State) (u : UnitId) (x : SInstr) (v : VInstr) (i : Instr) (cause : Nat) (tval : W64),
    scRow u v x = some i → Raises s u x v → (cause, tval) ∈ causes s u x v → cause ≠ 13 → cause ≠ 16 →
    (∀ e ∈ causes s u x v, cause < e.1 ∨ e = (cause, tval)) → (s.unit u).st_ fINTRAP = 0 →
    Gives (exec i s) fun t => Trapped (s.unit u) (t.unit u) u cause tval (s.unit u).pc ∧ t.mem = s.mem ∧ t.regs = s.regs

/-- R119, R121: SYS takes cause 15 and BRK, while BRKHALT is 0, cause 16, with imm12 in TVAL. -/
def Obligations.SystemCallAndBreakpoint : Prop :=
  ∀ (s : State) (u : UnitId) (r : FmtY), (s.unit u).st_ fINTRAP = 0 →
    (Raises s u (.sys r) noVec → Gives (exec (.sys u r noVec) s) fun t =>
      Trapped (s.unit u) (t.unit u) u 15 (r.sr.setWidth 64) (s.unit u).pc ∧ t.mem = s.mem) ∧
    (Raises s u (.brk r) noVec → s.bit .debugCtl [] F.debugCtl_BRKHALT = false → Gives (exec (.brk u r noVec) s) fun t =>
      Trapped (s.unit u) (t.unit u) u 16 (r.sr.setWidth 64) (s.unit u).pc ∧ t.mem = s.mem) ∧
    (Raises s u (.brk r) noVec → s.bit .debugCtl [] F.debugCtl_BRKHALT = true → u ≠ .guard →
      Gives (exec (.brk u r noVec) s) fun t =>
      (t.unit u).st = .halted ∧ (t.unit u).pc = (s.unit u).pc ∧ t.bit .debugHstat [] F.debugHstat_HALTED = true)

/-- R122, R123, R124: at a pair boundary the unit takes the asynchronous cause of the highest number that may be taken,
with EPC at the pair that would issue next; cause 32 takes the event. The choice is the model's where log entry 16 says
so. -/
def Obligations.AsynchronousTrap : Prop :=
  ∀ (s : State) (u : UnitId) (x : UnitState), x = s.unit u → mayRun s u = true → x.mismRun = 0 → x.st_ fINTRAP = 0 →
    (x.wdog = true → Gives (exec (.takeTrap u) s) fun t =>
      Trapped x (t.unit u) u 34 0 x.pc ∧ (t.unit u).wdog = false) ∧
    (∀ a, x.wdog = false → x.posted = some a → Gives (exec (.takeTrap u) s) fun t =>
      Trapped x (t.unit u) u 33 a x.pc ∧ (t.unit u).posted = none) ∧
    (∀ n, x.wdog = false → x.posted = none → x.st_ fEIE = 1 → nextEvent s u = some n → n < 2048 →
      Gives (exec (.takeTrap u) s) fun t =>
      Trapped x (t.unit u) u 32 (BitVec.ofNat 64 n) x.pc ∧
      t.bit .eventRoute [n / 512, n % 512] F.eventRoute_TAKEN = true)

/-- R124: a trap inside a handler stops an engine or a die control core Fault-stopped, and records its cause and pc. -/
def Obligations.NestedTrap : Prop :=
  ∀ (s : State) (u : UnitId) (r : FmtY), u ≠ .guard → (s.unit u).st_ fINTRAP = 1 → Raises s u (.sys r) noVec →
    Gives (exec (.sys u r noVec) s) fun t =>
      (t.unit u).st = .faultStopped ∧ (t.unit u).lastCause = 15 ∧ (t.unit u).pc = (s.unit u).pc ∧
      (∀ n, (t.unit u).getSys n = (s.unit u).getSys n)

/-- R124: RTE restores pc, privilege and EIE, clears INTRAP and the reservation, and changes no other register. -/
def Obligations.ReturnFromTrap : Prop :=
  ∀ (s : State) (u : UnitId) (r : FmtY), Issues s u (.rte r) noVec → Gives (exec (.rte u r noVec) s) fun t =>
    let x := s.unit u
    let y := t.unit u
    y.pc = x.getSys EPC ∧ y.st_ fPRIV = (if hasLevel u (x.st_ fPPRIV) then x.st_ fPPRIV else taskLevel u) ∧
    y.st_ fEIE = x.st_ fPEIE ∧ y.st_ fINTRAP = 0 ∧ y.st_ fPPRIV = x.st_ fPPRIV ∧ y.st_ fPEIE = x.st_ fPEIE ∧
    y.resv = none ∧ (∀ n, y.getG n = x.getG n) ∧ (∀ n, n ≠ STATUS → y.getSys n = x.getSys n) ∧ t.mem = s.mem ∧
    t.regs = s.regs

namespace Sys2Proof.Claims

/-- An instruction that writes lanes of one register: lane width, lane count, the register, each lane's value and the VSTAT
flags that the lane sets. -/
structure LaneOp where
  w : Nat
  n : Nat
  goesTo : Nat
  val : Nat → BitVec w
  flag : Nat → Nat

/-- The element width and count of type t (R130). -/
def eltW (t : BitVec 2) : Nat := if t = 0 then 8 else if t = 1 then 16 else 32
def eltN (t : BitVec 2) : Nat := if t = 0 then 64 else if t = 1 then 32 else 16
/-- The same for an instruction that acts on the halves of C as separate H elements (R148). -/
def partW (t : BitVec 2) : Nat := if t = 3 then 16 else eltW t
def partN (t : BitVec 2) : Nat := if t = 3 then 32 else eltN t

/-- The predicate bit that governs element e of type t (R131), and half e of a C register. -/
def governs (p : W32) (t : BitVec 2) (e : Nat) : Bool :=
  p.getLsbD (if t = 0 then e / 2 else if t = 1 then e else 2 * e)
def governsPart (p : W32) (t : BitVec 2) (e : Nat) : Bool := if t = 3 then p.getLsbD (2 * (e / 2)) else governs p t e

/-- sat_w(x) and its flag (R140). -/
def sat (w : Nat) (x : Int) : BitVec w := BitVec.ofInt w (max (-2 ^ (w - 1)) (min x (2 ^ (w - 1) - 1)))
def satFlag (w : Nat) (x : Int) : Nat := if -2 ^ (w - 1) ≤ x ∧ x ≤ 2 ^ (w - 1) - 1 then 0 else 1

/-- What a unit holds, as the instructions of the vector slot read it: `v` a vector register, `src` a source that may be a
stream (R137), `p` a predicate, `g` a general register, `a` an accumulator. -/
structure Regs where
  v : BitVec 5 → W512
  src : BitVec 5 → W512
  p : BitVec 3 → W32
  g : BitVec 5 → W64
  a : BitVec 3 → W1536

/-- The registers of an engine; 30 and 31 as a stream source read the 64 bytes at STA0 and STA1 (R137). -/
def regsOf (s : State) (d : Fin 4) (c : Fin 16) (p : Fin 9) : Regs :=
  let x := s.unit (.eng d c p)
  { v := fun r => x.getV r.toNat
    src := fun r => if r.toNat < 30 then x.getV r.toNat
      else BitVec.ofNat 512 (s.mem.readN (lmemBase d c p + (x.getSys (STA (r.toNat == 31))).toNat) 64)
    p := fun r => x.getP r.toNat
    g := fun r => x.getG r.toNat
    a := fun r => x.getA r.toNat }

/-- A masked VR result: an element that its predicate bit turns off keeps its value and sets no flag (R149). -/
def maskedOp (k : Regs) (vd : BitVec 5) (w n : Nat) (on : Nat → Bool) (val : Nat → BitVec w) (flag : Nat → Nat) : LaneOp :=
  { w := w, n := n, goesTo := vd.toNat, val := fun e => if on e then val e else elem w (k.v vd) e,
    flag := fun e => if on e then flag e else 0 }

/-- Element-wise VR on two sources, halves of C apart. -/
def partsOp (k : Regs) (r : FmtVR) (val : BitVec (partW r.t) → BitVec (partW r.t) → BitVec (partW r.t))
    (flag : BitVec (partW r.t) → BitVec (partW r.t) → Nat) : LaneOp :=
  let a (e : Nat) := elem (partW r.t) (k.v r.va) e
  let b (e : Nat) := elem (partW r.t) (k.v r.vb) e
  maskedOp k r.vd (partW r.t) (partN r.t) (governsPart (k.p r.pg) r.t) (fun e => val (a e) (b e)) (fun e => flag (a e) (b e))

/-- A VR instruction that moves whole elements. -/
def moveOp (k : Regs) (r : FmtVR) (val : Nat → BitVec (eltW r.t)) : LaneOp :=
  maskedOp k r.vd (eltW r.t) (eltN r.t) (governs (k.p r.pg) r.t) val (fun _ => 0)

/-- The VR instructions (R148, R149). -/
def vrOp (k : Regs) : VInstr → Option LaneOp
  | .vadd r => some (partsOp k r (fun a b => a + b) (fun _ _ => 0))
  | .vsub r => some (partsOp k r (fun a b => a - b) (fun _ _ => 0))
  | .vadds r => some (partsOp k r (fun a b => sat _ (a.toInt + b.toInt)) (fun a b => satFlag (partW r.t) (a.toInt + b.toInt)))
  | .vsubs r => some (partsOp k r (fun a b => sat _ (a.toInt - b.toInt)) (fun a b => satFlag (partW r.t) (a.toInt - b.toInt)))
  | .vmin r => some (partsOp k r (fun a b => if a.toInt ≤ b.toInt then a else b) (fun _ _ => 0))
  | .vmax r => some (partsOp k r (fun a b => if a.toInt ≤ b.toInt then b else a) (fun _ _ => 0))
  | .vabs r => some (partsOp k r (fun a _ => sat _ a.toInt.natAbs) (fun a _ => satFlag (partW r.t) a.toInt.natAbs))
  | .vneg r => some (partsOp k r (fun a _ => sat _ (-a.toInt)) (fun a _ => satFlag (partW r.t) (-a.toInt)))
  | .vand r => some (partsOp k r (fun a b => a &&& b) (fun _ _ => 0))
  | .vor r => some (partsOp k r (fun a b => a ||| b) (fun _ _ => 0))
  | .vxor r => some (partsOp k r (fun a b => a ^^^ b) (fun _ _ => 0))
  | .vsel r => some
      { w := eltW r.t, n := eltN r.t, goesTo := r.vd.toNat, flag := fun _ => 0,
        val := fun e => if governs (k.p r.pg) r.t e then elem _ (k.v r.va) e else elem _ (k.v r.vb) e }
  | .vconj r =>
    let im (e : Nat) : Int := -(elem 16 (k.v r.va) e).toInt
    some (maskedOp k r.vd 16 32 (governsPart (k.p r.pg) 3)
      (fun e => if e % 2 = 1 then sat 16 (im e) else elem 16 (k.v r.va) e)
      (fun e => if e % 2 = 1 then satFlag 16 (im e) else 0))
  | .vperm r => some (moveOp k r (fun e => elem _ (k.v r.va) ((elem (eltW r.t) (k.v r.vb) e).toNat % eltN r.t)))
  | .vzipl r => some (moveOp k r (fun e => elem _ (k.v (if e % 2 = 0 then r.va else r.vb)) (e / 2)))
  | .vziph r => some (moveOp k r (fun e => elem _ (k.v (if e % 2 = 0 then r.va else r.vb)) (e / 2 + eltN r.t / 2)))
  | .vuzpe r => some (moveOp k r (fun e => elem _ (k.v (if 2 * e < eltN r.t then r.va else r.vb)) (2 * e % eltN r.t)))
  | .vuzpo r =>
    some (moveOp k r (fun e => elem _ (k.v (if 2 * e + 1 < eltN r.t then r.va else r.vb)) ((2 * e + 1) % eltN r.t)))
  | _ => none

/-- An immediate shift, halves of C apart. -/
def shiftOp (k : Regs) (r : FmtVI) (val : BitVec (partW r.t) → BitVec (partW r.t)) (flag : BitVec (partW r.t) → Nat) :
    LaneOp :=
  { w := partW r.t, n := partN r.t, goesTo := r.vd.toNat, val := fun e => val (elem _ (k.v r.va) e),
    flag := fun e => flag (elem _ (k.v r.va) e) }

/-- The VI instructions, and VBC and VINS (R150, R152). -/
def viOp (k : Regs) : VInstr → Option LaneOp
  | .vshl r => some (shiftOp k r (fun a => a <<< r.imm.toNat) (fun _ => 0))
  | .vshls r => some (shiftOp k r (fun a => sat _ (a.toInt * 2 ^ r.imm.toNat)) (fun a => satFlag (partW r.t) (a.toInt * 2 ^ r.imm.toNat)))
  | .vsra r => some (shiftOp k r (fun a => BitVec.ofInt _ (a.toInt / 2 ^ r.imm.toNat)) (fun _ => 0))
  | .vsrar r => some (shiftOp k r (fun a => BitVec.ofInt _
      (if r.imm = 0 then a.toInt else (a.toInt + 2 ^ (r.imm.toNat - 1)) / 2 ^ r.imm.toNat)) (fun _ => 0))
  | .vsrl r => some (shiftOp k r (fun a => a >>> r.imm.toNat) (fun _ => 0))
  | .vsplat r => some
      { w := eltW r.t, n := eltN r.t, goesTo := r.vd.toNat, val := fun _ => BitVec.ofInt _ r.imm.toInt, flag := fun _ => 0 }
  | .vbc r => some
      { w := eltW r.t, n := eltN r.t, goesTo := r.vd.toNat, val := fun _ => (k.g r.va).setWidth _, flag := fun _ => 0 }
  | .vins r => some
      { w := eltW r.t, n := eltN r.t, goesTo := r.vd.toNat, flag := fun _ => 0,
        val := fun e => if e = r.lane.toNat then (k.g r.va).setWidth _ else elem _ (k.v r.vd) e }
  | _ => none

/-- The signed elements of a register. -/
def hAt (v : W512) (i : Nat) : Int := (elem 16 v i).toInt
def bAt (v : W512) (i : Nat) : Int := (elem 8 v i).toInt

/-- The real (i even) or imaginary (i odd) part of a complex product, with either operand conjugated. -/
def cmulPart (ar ai br bi : Int) (ca cb : Bool) (i : Nat) : Int :=
  let ai := if ca then -ai else ai
  let bi := if cb then -bi else bi
  if i % 2 = 0 then ar * br - ai * bi else ar * bi + ai * br

/-- The same for element e of a and element f of b. -/
def cmulAt (a b : W512) (e f : Nat) (ca cb : Bool) (i : Nat) : Int :=
  cmulPart (hAt a (2 * e)) (hAt a (2 * e + 1)) (hAt b (2 * f)) (hAt b (2 * f + 1)) ca cb i

/-- A part of output q of the radix-4 butterfly over elements 4m to 4m + 3, with s = ±j (R156): `u` and `v` are the part and
the other part of an element. -/
def bf4Part (v : W512) (plus : Bool) (m q i : Nat) : Int :=
  let x (n : Nat) : Int := hAt v (2 * (4 * m + n) + i % 2)
  let y (n : Nat) : Int := hAt v (2 * (4 * m + n) + (i + 1) % 2)
  let s (n : Nat) : Int := if plus == decide (i % 2 = 0) then -(y n) else y n
  match q with
  | 0 => x 0 + x 1 + x 2 + x 3
  | 1 => x 0 + s 1 - x 2 - s 3
  | 2 => x 0 - x 1 + x 2 - x 3
  | _ => x 0 - s 1 - x 2 + s 3

/-- The complex multiply and the butterfly (R156), the accumulator outputs (R157) and VMSR (R160). -/
def outOp (k : Regs) : VInstr → Option LaneOp
  | .vcmulr r =>
    let p (i : Nat) : Int := rnd (cmulAt (k.src r.va) (k.src r.vb) (i / 2) (i / 2) false r.c i) 15 r.rm
    some { w := 16, n := 32, goesTo := r.vd.toNat, val := fun i => sat 16 (p i), flag := fun i => satFlag 16 (p i) }
  | .vbf4 r =>
    let p (i : Nat) : Int := rnd (bf4Part (k.src r.va) r.c (i / 8) (i / 2 % 4) i) r.sc.toNat r.rm
    some { w := 16, n := 32, goesTo := r.vd.toNat, val := fun i => sat 16 (p i), flag := fun i => satFlag 16 (p i) }
  | .voutH r =>
    let p (i : Nat) : Int := rnd (elem 48 (k.a r.ad) i).toInt r.sh.toNat r.rm
    some { w := 16, n := 32, goesTo := r.vd.toNat, val := fun i => sat 16 (p i), flag := fun i => satFlag 16 (p i) }
  | .vaget r => some
      { w := 512, n := 1, goesTo := r.vd.toNat, val := fun _ => elem 512 (k.a r.ad) r.sh.toNat, flag := fun _ => 0 }
  | .vmsr r =>
    let l (i : Nat) : BitVec 24 := elem 24 (k.a r.ad) i
    let m0 (i : Nat) : Nat :=
      if (l i).extractLsb' 14 5 = r.e then ((l i).extractLsb' 7 7).toNat else ((l i).extractLsb' 0 7).toNat
    let m (i : Nat) : Nat := (if r.nm then 3 * m0 i / 4 else m0 i) - r.beta.toNat
    some { w := 8, n := 64, goesTo := r.vd.toNat, flag := fun _ => 0,
           val := fun i => BitVec.ofInt 8 (if (l i).getLsbD 19 != decide (bAt (k.v r.va) i < 0) then -(m i : Int) else m i) }
  | _ => none

/-- The floating-point instructions of one result register (R143, R158): `ffma`, `fadd`, `fmulR` and `fone` round an exact
result once. -/
def vfOp (k : Regs) : VInstr → Option LaneOp
  | .vfmaF r => some (fused r false)
  | .vfmsF r => some (fused r true)
  | .vfmaBf r => some (fusedBf r false)
  | .vfmsBf r => some (fusedBf r true)
  | .vfaddF r =>
    let f (e : Nat) := fadd 24 (fF (k.src r.va) e) (fF (k.src r.vb) e)
    some (maskedOp k r.vd 32 16 (fun e => (k.p r.pg).getLsbD (2 * e)) (fun e => BitVec.ofNat 32 (f e).1) (fun e => (f e).2))
  | .vfmulF r =>
    let f (e : Nat) := fmulR 24 (fF (k.src r.va) e) (fF (k.src r.vb) e)
    some (maskedOp k r.vd 32 16 (fun e => (k.p r.pg).getLsbD (2 * e)) (fun e => BitVec.ofNat 32 (f e).1) (fun e => (f e).2))
  | .vfcvtBf r =>
    let f (e : Nat) := fone 8 (fF (k.src (if e < 16 then r.va else r.vb)) (e % 16))
    some (maskedOp k r.vd 16 32 (fun e => (k.p r.pg).getLsbD e) (fun e => BitVec.ofNat 16 (f e).1) (fun e => (f e).2))
  | _ => none
where
  fused (r : FmtVF) (sub : Bool) : LaneOp :=
    let f (e : Nat) := ffma 24 sub (fF (k.src r.va) e) (fF (k.src r.vb) e) (fF (k.v r.vd) e)
    maskedOp k r.vd 32 16 (fun e => (k.p r.pg).getLsbD (2 * e)) (fun e => BitVec.ofNat 32 (f e).1) (fun e => (f e).2)
  fusedBf (r : FmtVF) (sub : Bool) : LaneOp :=
    let f (e : Nat) := ffma 8 sub (fBF (k.src r.va) e) (fBF (k.src r.vb) e) (fBF (k.v r.vd) e)
    maskedOp k r.vd 16 32 (fun e => (k.p r.pg).getLsbD e) (fun e => BitVec.ofNat 16 (f e).1) (fun e => (f e).2)

/-- A multiply-accumulate into the 32 lanes of ad: p, negated when n is 1, is added to the lane, or replaces it when z is 1;
the lane keeps the exact sum modulo 2^48, and a sum out of its range sets AOV (R142, R154). -/
def macOp (k : Regs) (r : FmtVA) (p : Nat → Int) : LaneOp :=
  let sum (i : Nat) : Int := (if r.z then 0 else (elem 48 (k.a r.ad) i).toInt) + (if r.n then -(p i) else p i)
  { w := 48, n := 32, goesTo := r.ad.toNat, val := fun i => BitVec.ofInt 48 (sum i),
    flag := fun i => if -2 ^ 47 ≤ sum i ∧ sum i ≤ 2 ^ 47 - 1 then 0 else 2 }

/-- The exact sum of lanes lo, lo + step, … below 32 of an accumulator. -/
def laneSum (a : W1536) (lo step : Nat) : Int :=
  (((List.range 32).filter (fun i => decide (lo ≤ i) && decide ((i - lo) % step = 0))).map (fun i => (elem 48 a i).toInt)).sum

/-- The instructions that write an accumulator (R154, R157, R160). -/
def accOp (k : Regs) : VInstr → Option LaneOp
  | .vmacH r => some (macOp k r (fun i => hAt (k.src r.va) i * hAt (k.src r.vb) i))
  | .vmacbH r => some (macOp k r (fun i =>
      hAt (k.src r.va) i * hAt (k.src r.vc) (2 * r.j.toNat) + hAt (k.src r.vb) i * hAt (k.src r.vc) (2 * r.j.toNat + 1)))
  | .vmacB r => some (macOp k r (fun i =>
      bAt (k.src r.va) (2 * i) * bAt (k.src r.vb) (2 * i) + bAt (k.src r.va) (2 * i + 1) * bAt (k.src r.vb) (2 * i + 1)))
  | .vmacbB r => some (macOp k r (fun i =>
      bAt (k.src r.va) (2 * i) * bAt (k.src r.vc) (4 * r.j.toNat) +
      bAt (k.src r.va) (2 * i + 1) * bAt (k.src r.vc) (4 * r.j.toNat + 1) +
      bAt (k.src r.vb) (2 * i) * bAt (k.src r.vc) (4 * r.j.toNat + 2) +
      bAt (k.src r.vb) (2 * i + 1) * bAt (k.src r.vc) (4 * r.j.toNat + 3)))
  | .vcmac r => some (macOp k r (fun i =>
      cmulAt (k.src r.va) (k.src r.vb) (i / 2) (i / 2) (r.j.getLsbD 1) (r.j.getLsbD 0) i))
  | .vcmacb r => some (macOp k r (fun i => cmulAt (k.src r.va) (k.src r.vb) (i / 2) r.j.toNat false false i))
  | .vcmacbj r => some (macOp k r (fun i => cmulAt (k.src r.va) (k.src r.vb) (i / 2) r.j.toNat false true i))
  | .vaput r => some
      { w := 512, n := 3, goesTo := r.ad.toNat, flag := fun _ => 0,
        val := fun i => if i = r.sh.toNat then k.src r.vd else elem 512 (k.a r.ad) i }
  | .vared r =>
    let sum (i : Nat) : Int :=
      if r.sh = 0 then (if i = 0 then laneSum (k.a r.ad) 0 1 else 0)
      else if i < 2 then laneSum (k.a r.ad) i 2 else 0
    some { w := 48, n := 32, goesTo := r.ad.toNat, val := fun i => BitVec.ofInt 48 (sum i),
           flag := fun i => if -2 ^ 47 ≤ sum i ∧ sum i ≤ 2 ^ 47 - 1 then 0 else 2 }
  | .vmsa r =>
    let l (i : Nat) : BitVec 24 := elem 24 (k.a r.ad) i
    let q (i : Nat) : Int := bAt (k.src r.va) i
    let mag (i : Nat) : BitVec 7 := BitVec.ofNat 7 (min (q i).natAbs 127)
    let neg (i : Nat) : BitVec 1 := if q i < 0 then 1 else 0
    let min1 (i : Nat) : BitVec 7 := (l i).extractLsb' 0 7
    let min2 (i : Nat) : BitVec 7 := (l i).extractLsb' 7 7
    let idx (i : Nat) : BitVec 5 := (l i).extractLsb' 14 5
    let par (i : Nat) : BitVec 1 := (l i).extractLsb' 19 1 ^^^ neg i
    some { w := 24, n := 64, goesTo := r.ad.toNat, flag := fun _ => 0,
           val := fun i =>
             if r.f then 0#4 ++ neg i ++ r.e ++ 127#7 ++ mag i
             else if mag i < min1 i then 0#4 ++ par i ++ r.e ++ min1 i ++ mag i
             else if mag i < min2 i then 0#4 ++ par i ++ idx i ++ mag i ++ min1 i
             else 0#4 ++ par i ++ idx i ++ min2 i ++ min1 i }
  | _ => none

/-- The instructions that write a predicate: its register and each bit before the mask pg, with the mask (R151, R152). -/
def predOp (k : Regs) : VInstr → Option (Nat × W32 × (Nat → Bool))
  | .vceq r => some (r.pd.toNat, k.p r.pg, compare r fun a b => decide (a = b))
  | .vclt r => some (r.pd.toNat, k.p r.pg, compare r fun a b => decide (a < b))
  | .vcle r => some (r.pd.toNat, k.p r.pg, compare r fun a b => decide (a ≤ b))
  | .pand r => some (r.pd.toNat, k.p r.pg, fun i => (k.p (r.va.setWidth 3)).getLsbD i && (k.p (r.vb.setWidth 3)).getLsbD i)
  | .por r => some (r.pd.toNat, k.p r.pg, fun i => (k.p (r.va.setWidth 3)).getLsbD i || (k.p (r.vb.setWidth 3)).getLsbD i)
  | .pnot r => some (r.pd.toNat, k.p r.pg, fun i => !(k.p (r.va.setWidth 3)).getLsbD i)
  | .pfromg r => some (r.vd.toNat, BitVec.allOnes 32, fun i => (k.g r.va).getLsbD i)
  | _ => none
where
  /-- Bit i of a compare: element i for H, elements 2i and 2i + 1 for B, element ⌊i / 2⌋ for W. -/
  compare (r : FmtVP) (f : Int → Int → Bool) (i : Nat) : Bool :=
    let one (w e : Nat) : Bool := f (elem w (k.v r.va) e).toInt (elem w (k.v r.vb) e).toInt
    if r.t = 0 then one 8 (2 * i) && one 8 (2 * i + 1) else if r.t = 1 then one 16 i else one 32 (i / 2)

/-- The fields of an instruction that may name a stream (R137). -/
def streamFields : VInstr → List (BitVec 5)
  | .vmacH r => [r.va, r.vb] | .vmacB r => [r.va, r.vb] | .vcmac r => [r.va, r.vb] | .vcmacb r => [r.va, r.vb]
  | .vcmacbj r => [r.va, r.vb] | .vmacbH r => [r.va, r.vb, r.vc] | .vmacbB r => [r.va, r.vb, r.vc]
  | .vcmulr r => [r.va, r.vb] | .vbf4 r => [r.va] | .vaput r => [r.vd] | .vmsa r => [r.va]
  | .vfmaF r => [r.va, r.vb] | .vfmsF r => [r.va, r.vb] | .vfmaBf r => [r.va, r.vb] | .vfmsBf r => [r.va, r.vb]
  | .vfmawBf r => [r.va, r.vb] | .vfaddF r => [r.va, r.vb] | .vfmulF r => [r.va, r.vb] | .vfcvtBf r => [r.va, r.vb]
  | _ => []

/-- The instruction reads stream n. -/
def readsStream (v : VInstr) (n : Bool) : Bool := (streamFields v).any (fun f => f.toNat == (if n then 31 else 30))

/-- What an instruction of the vector slot leaves beside its result: the general registers, memory, the registers of the
chip, and the system registers but for VSTAT; a stream that it reads advances by its stride (R137); and with no stream
nothing outside the unit changes at all. -/
def VectorFrame (s t : State) (d : Fin 4) (c : Fin 16) (p : Fin 9) (v : VInstr) : Prop :=
  let u : UnitId := .eng d c p
  (∀ n, (t.unit u).getG n = (s.unit u).getG n) ∧ t.mem = s.mem ∧
  (∀ n, n ≠ VSTAT → n ≠ STA false → n ≠ STA true → (t.unit u).getSys n = (moved s u 0).getSys n) ∧
  (∀ n, (t.unit u).getSys (STA n) = (s.unit u).getSys (STA n) +
    (if readsStream v n then (s.unit u).getSys (STS n) else 0)) ∧
  (t.unit u).pc = (moved s u 0).pc ∧
  (readsStream v false = false → readsStream v true = false → t = s.setUnit u (t.unit u))

/-- The instruction writes the lanes of one vector register, sets the flags of its lanes, and changes nothing else. -/
def WritesLanes (op : Regs → VInstr → Option LaneOp) : Prop :=
  ∀ (s : State) (d : Fin 4) (c : Fin 16) (p : Fin 9) (v : VInstr) (i : Instr) (o : LaneOp) (u : UnitId), u = .eng d c p →
    vcRow u noSc v = some i → Issues s u noSc v → op (regsOf s d c p) v = some o →
    Gives (exec i s) fun t =>
      (∀ e, e < o.n → elem o.w ((t.unit u).getV o.goesTo) e = o.val e) ∧
      (t.unit u).getSys VSTAT = (s.unit u).getSys VSTAT ||| BitVec.ofNat 64 (flagsOf o.flag o.n) ∧
      (∀ n, n ≠ o.goesTo → (t.unit u).getV n = (s.unit u).getV n) ∧
      (∀ n, (t.unit u).getA n = (s.unit u).getA n ∧ (t.unit u).getP n = (s.unit u).getP n) ∧ VectorFrame s t d c p v

end Sys2Proof.Claims

/-- R130, R131, R140, R148, R149: every VR instruction gives each element of vd its value under the predicate, with the
flags of the elements that are enabled. R150, R152: so do the VI instructions, VBC and VINS. -/
def Obligations.VectorIntegerResult : Prop := WritesLanes vrOp ∧ WritesLanes viOp


/-- R156, R157, R160: VCMULR, VBF4, VOUT.H, VAGET and VMSR. -/
def Obligations.VectorOutputResult : Prop := WritesLanes outOp

/-- R143, R158: the floating-point instructions that write one register. -/
def Obligations.VectorFloatResult : Prop := WritesLanes vfOp

/-- R137, R142, R154, R157, R160: the multiply-accumulates, VAPUT, VARED and VMSA write the lanes of one accumulator with the
flags of their sums, advance the streams they read, and change no other register. -/
def Obligations.AccumulatorResult : Prop :=
  ∀ (s : State) (d : Fin 4) (c : Fin 16) (p : Fin 9) (v : VInstr) (i : Instr) (o : LaneOp) (u : UnitId), u = .eng d c p →
    vcRow u noSc v = some i → Issues s u noSc v → accOp (regsOf s d c p) v = some o →
    Gives (exec i s) fun t =>
      (∀ e, e < o.n → elem o.w ((t.unit u).getA o.goesTo) e = o.val e) ∧
      (t.unit u).getSys VSTAT = (s.unit u).getSys VSTAT ||| BitVec.ofNat 64 (flagsOf o.flag o.n) ∧
      (∀ n, n ≠ o.goesTo → (t.unit u).getA n = (s.unit u).getA n) ∧
      (∀ n, (t.unit u).getV n = (s.unit u).getV n ∧ (t.unit u).getP n = (s.unit u).getP n) ∧ VectorFrame s t d c p v

/-- R129, R151, R152: the compares, PAND, POR, PNOT and PFROMG write the bits of pd that pg enables; p0 discards the
write. -/
def Obligations.PredicateResult : Prop :=
  ∀ (s : State) (d : Fin 4) (c : Fin 16) (p : Fin 9) (v : VInstr) (i : Instr) (pd : Nat) (mask : W32) (f : Nat → Bool)
    (u : UnitId), u = .eng d c p → vcRow u noSc v = some i → Issues s u noSc v →
    predOp (regsOf s d c p) v = some (pd, mask, f) →
    Gives (exec i s) fun t =>
      (∀ k, k < 32 → ((t.unit u).getP pd).getLsbD k =
        (if pd = 0 then true else if mask.getLsbD k then f k else ((s.unit u).getP pd).getLsbD k)) ∧
      (∀ n, n ≠ pd → (t.unit u).getP n = (s.unit u).getP n) ∧
      (∀ n, (t.unit u).getV n = (s.unit u).getV n ∧ (t.unit u).getA n = (s.unit u).getA n) ∧
      (t.unit u).getSys VSTAT = (s.unit u).getSys VSTAT ∧ VectorFrame s t d c p v

/-- R152: VEXT gives gd an element of va, sign-extended, and PTOG a predicate; VNOP does nothing. -/
def Obligations.VectorToGeneral : Prop :=
  ∀ (s : State) (d : Fin 4) (c : Fin 16) (p : Fin 9) (u : UnitId), u = .eng d c p →
    (∀ r, Issues s u noSc (.vext r) → exec (.vext u r noSc) s = .next (s.setUnit u ((moved s u 0).setG r.vd.toNat
      ((elem (eltW r.t) ((s.unit u).getV r.va.toNat) r.lane.toNat).signExtend 64)))) ∧
    (∀ r, Issues s u noSc (.ptog r) → exec (.ptog u r noSc) s = .next (s.setUnit u ((moved s u 0).setG r.vd.toNat
      (((s.unit u).getP r.va.toNat).setWidth 64)))) ∧
    (∀ r, Issues s u noSc (.vnop r) → exec (.vnop u r noSc) s = .next (s.setUnit u (moved s u 0)))

/-- R153: VL and VL2 read 64 and 128 bytes of local data memory into vd, and vd + 1; VS writes the bytes of vs whose
predicate bit is 1, and no other byte. -/
def Obligations.VectorLocalMemory : Prop :=
  ∀ (s : State) (d : Fin 4) (c : Fin 16) (p : Fin 9) (r : FmtVM) (u : UnitId) (m : Nat), u = .eng d c p →
    m = lmemBase d c p + ((s.unit u).getG r.ga.toNat + r.imm.signExtend 64).toNat →
    (Issues s u noSc (.vl r) → s.mem.badN m 64 = 0 → s.mem.corrN m 64 = 0 →
      exec (.vl u r noSc) s = .next (s.setUnit u ((moved s u 0).setV r.vd.toNat (BitVec.ofNat 512 (s.mem.readN m 64))))) ∧
    (Issues s u noSc (.vl2 r) → s.mem.badN m 128 = 0 → s.mem.corrN m 128 = 0 → Gives (exec (.vl2 u r noSc) s) fun t =>
      (t.unit u).getV r.vd.toNat = BitVec.ofNat 512 (s.mem.readN m 64) ∧
      (t.unit u).getV (r.vd.toNat + 1) = BitVec.ofNat 512 (s.mem.readN (m + 64) 64) ∧
      (∀ n, n ≠ r.vd.toNat → n ≠ r.vd.toNat + 1 → (t.unit u).getV n = (s.unit u).getV n) ∧ t.mem = s.mem ∧
      t.regs = s.regs) ∧
    (Issues s u noSc (.vs r) → Gives (exec (.vs u r noSc) s) fun t =>
      (∀ k, k < 64 → t.mem.read (m + k) =
        (if ((s.unit u).getP r.pg.toNat).getLsbD (k / 2) then ⟨elem 8 ((s.unit u).getV r.vd.toNat) k, 0⟩
         else s.mem.read (m + k))) ∧
      SameOutside s t m 64 ∧ t = { s.setUnit u (moved s u 0) with mem := t.mem })

/-- R157, R158: VOUT.W and VFMAW.BF write the pair vd, vd + 1, lanes 0 to 15 in vd and lanes 16 to 31 in vd + 1. -/
def Obligations.RegisterPairResult : Prop :=
  ∀ (s : State) (d : Fin 4) (c : Fin 16) (p : Fin 9) (u : UnitId) (k : Regs), u = .eng d c p → k = regsOf s d c p →
    (∀ r, Issues s u noSc (.voutW r) → Gives (exec (.voutW u r noSc) s) fun t =>
      (∀ i, i < 32 → elem 32 ((t.unit u).getV (r.vd.toNat + i / 16)) (i % 16) =
        sat 32 (rnd (elem 48 (k.a r.ad) i).toInt r.sh.toNat r.rm)) ∧
      (∀ n, n ≠ r.vd.toNat → n ≠ r.vd.toNat + 1 → (t.unit u).getV n = (s.unit u).getV n) ∧
      VectorFrame s t d c p (.voutW r)) ∧
    (∀ r, Issues s u noSc (.vfmawBf r) → Gives (exec (.vfmawBf u r noSc) s) fun t =>
      (∀ i, i < 32 → elem 32 ((t.unit u).getV (r.vd.toNat + i / 16)) (i % 16) =
        (let old := elem 32 ((s.unit u).getV (r.vd.toNat + i / 16)) (i % 16)
         if (k.p r.pg).getLsbD i then
           BitVec.ofNat 32 (ffma 24 false (fBF (k.src r.va) i) (fBF (k.src r.vb) i) (fread 24 old.toNat)).1
         else old)) ∧
      (∀ n, n ≠ r.vd.toNat → n ≠ r.vd.toNat + 1 → (t.unit u).getV n = (s.unit u).getV n) ∧
      VectorFrame s t d c p (.vfmawBf r))

/-- R49: the two slots of a pair take effect together: a register that one slot alone writes ends as that slot would leave it
beside an empty slot. -/
def Obligations.BothSlotsTakeEffect : Prop :=
  ∀ (s : State) (d : Fin 4) (c : Fin 16) (p : Fin 9) (x : SInstr) (v : VInstr) (i j k : Instr) (u : UnitId)
    (t t1 t2 : State), u = .eng d c p → scRow u v x = some i → scRow u noVec x = some j → vcRow u noSc v = some k →
    Issues s u x v → exec i s = .next t → exec j s = .next t1 → exec k s = .next t2 →
    (∀ n, n ∉ (otherVec s u v).gdst → (t.unit u).getG n = (t1.unit u).getG n) ∧
    (∀ n, n ∈ (otherVec s u v).gdst → (t.unit u).getG n = (t2.unit u).getG n) ∧
    (∀ n, (t.unit u).getV n = (t2.unit u).getV n ∧ (t.unit u).getA n = (t2.unit u).getA n ∧
      (t.unit u).getP n = (t2.unit u).getP n)

/-- R46, R49: the row of the scalar slot and the row of the vector slot of one pair are one command: both give one
outcome. The choice is the model's where log entry 14 says so. -/
def Obligations.PairRowsAgree : Prop :=
  ∀ (s : State) (d : Fin 4) (c : Fin 16) (p : Fin 9) (x : SInstr) (v : VInstr) (i j : Instr),
    scRow (.eng d c p) v x = some i → vcRow (.eng d c p) x v = some j → exec i s = exec j s

namespace Sys2Proof.Claims

/-- The initiator may write the register, whose unit is neither Off nor held in reset (R126, R614, R616, R618). -/
def Open (s : State) (who : Who) (n : RegName) (ix : List Nat) : Prop := writeGate who n ix s = none

/-- The command was answered OK and the registers other than those listed are unchanged. -/
def OnlyRegs (s t : State) (l : List RKey) : Prop := ∀ n ix, (⟨n, ix⟩ : RKey) ∉ l → t.reg n ix = s.reg n ix

/-- The registers that raising event n of die d changes (R675). -/
def eventKeys (d n : Nat) : List RKey := [⟨.eventPend, [d, n / 32]⟩, ⟨.eventRoute, [d, n]⟩]

/-- Event n of die d is pending (R675). -/
def Pending (t : State) (d n : Nat) : Prop := (t.reg .eventPend [d, n / 32]).getLsbD (n % 32) = true

/-- The registers of unit x with the changes that entering Running at pc makes (R72, R77). -/
def started (x : UnitState) (pc : W64) : UnitState :=
  { x.abandonSent with st := .running, pc := pc, stopping := false, stall := 0, wev := none, mismRun := 0 }

/-- A word of owner codes holds a code from lo to hi (R168, R174). -/
def HasCode (v : W64) (lo hi : Nat) : Prop := ∃ k, k < 16 ∧ lo ≤ v.toNat / 16 ^ k % 16 ∧ v.toNat / 16 ^ k % 16 ≤ hi

/-- A row that writes one register by its name, with the initiator, the register and its instance. -/
def registerRow : Instr → Option (Who × RegName × List Nat)
  | .engineGo w d c sl _ => some (w, .caseEngCtl, [d, c, sl]) | .engineStop w d c sl _ => some (w, .caseEngCtl, [d, c, sl])
  | .engineArm w d c sl _ => some (w, .caseEngCtl, [d, c, sl]) | .caseStart w d c _ => some (w, .caseStart, [d, c])
  | .coreGo w d _ => some (w, .ctlRun, [d]) | .coreStop w d _ => some (w, .ctlRun, [d])
  | .impSwapRequest w d c _ => some (w, .caseImpCtl, [d, c]) | .xportSwapRequest w d p _ => some (w, .nocXportImpCs, [d, p])
  | .dmaRingWrite w d c k _ => some (w, .caseDmaRing, [d, c, k]) | .dmaRun w d c k _ => some (w, .caseDmaCtl, [d, c, k])
  | .dmaStop w d c k _ => some (w, .caseDmaCtl, [d, c, k]) | .migrate w d c _ => some (w, .caseSpareCtl, [d, c])
  | .returnUnnumbered w d c _ => some (w, .caseSpareCtl, [d, c]) | .retire w d c _ => some (w, .caseSpareCtl, [d, c])
  | .upllCfg w d g k _ => some (w, .galleyUpllCfg, [d, g, k]) | .forceClock w d g n _ => some (w, .galleyClksel, [d, g, n])
  | .qpinDly w d m _ => some (w, .ioQpinDly, [d, m]) | .linkRetrain w d p _ => some (w, .linkPortCtl, [d, p])
  | .disable w d p _ => some (w, .linkPortCtl, [d, p]) | .carrierReturn w d p _ => some (w, .linkPortCtl, [d, p])
  | .laserSel w _ => some (w, .photonLaser, []) | .cmapClear w d k _ => some (w, .integCmapClr, [d, k])
  | .scrubStart w d _ => some (w, .integScrubCtl, [d]) | .scrubStop w d _ => some (w, .integScrubCtl, [d])
  | .ddrRetrain w d k _ => some (w, .ddrCtl, [d, k]) | .ownerChange w d j i _ => some (w, .lgrpLaneCfg, [d, j, i])
  | .txeq w d j i _ => some (w, .lgrpLaneTxeq, [d, j, i]) | .histogramRun w d j i _ => some (w, .lgrpLaneHist, [d, j, i])
  | .ethPortEnable w d m q _ => some (w, .ethPortCfg, [d, m, q]) | .saload w d m _ => some (w, .ethSaload, [d, m])
  | .jesdLinkEnable w d j l _ _ => some (w, .lgrpJesdCfg, [d, j, l]) | .meas w n _ => some (w, .timeSrcMeas, [n])
  | .step w _ => some (w, .timeCtl, []) | .hold w _ => some (w, .timeCtl, []) | .servoEn w _ => some (w, .timeCtl, [])
  | .uartTransmit w _ => some (w, .timeUart, []) | .authload w _ => some (w, .timeAuthload, [])
  | .reselect w _ => some (w, .guardFop, []) | .pload w _ => some (w, .guardPload, [])
  | .clone w d g _ => some (w, .galleySwap, [d, g]) | .quoinClose w d g _ => some (w, .galleyQuoin, [d, g])
  | .quoinOpen w d g _ => some (w, .galleyQuoin, [d, g]) | .caseQuoinClose w d c _ => some (w, .caseQuoin, [d, c])
  | .quiesce w d g _ => some (w, .galleyDrain, [d, g]) | .xswapGo w d _ => some (w, .ctlXswap, [d])
  | .dlock w _ => some (w, .secDctl, []) | .dieOff w d _ => some (w, .powerDie, [d])
  | .dieOn w d _ => some (w, .powerDie, [d]) | .dieReset w d _ => some (w, .powerDie, [d])
  | .testStop w d _ => some (w, .bistCtl, [d]) | .galleyTest w d _ => some (w, .bistCtl, [d])
  | .positionTest w d _ => some (w, .bistCtl, [d]) | .caseTest w d _ => some (w, .bistCtl, [d])
  | .domainOff w r _ => some (w, (selReg r).1, (selReg r).2) | .domainOn w r _ => some (w, (selReg r).1, (selReg r).2)
  | .domainReset w r _ => some (w, (selReg r).1, (selReg r).2)
  | .raiseEvent w d _ => some (w, .eventRaise, [d]) | .pendClear w d k _ => some (w, .eventPend, [d, k])
  | _ => none

end Sys2Proof.Claims

/-- R126, R331, R614, R616, R618: a command that writes a register which its initiator may not write, or whose unit is
Off, is answered REFUSED, and one to a unit that is held in reset OK; neither has any other effect, but that R618 sets
the flag REFUSED of the die and raises the power event. The choice is the model's where log entries 24 and 25 say so. -/
def Obligations.BarredRegisterWrite : Prop :=
  ∀ (s : State) (i : Instr) (w : Who) (n : RegName) (ix : List Nat) (st : Nat), registerRow i = some (w, n, ix) →
    writeGate w n ix s = some st → Gives (exec i s) fun t =>
      t.answer.status = st ∧ (st = OK ∨ st = REFUSED) ∧ t.units = s.units ∧ t.cases = s.cases ∧ t.hid = s.hid ∧
      t.mem = s.mem ∧
      (if n = .powerDie ∧ mayWrite w n ix = false then
        t.bit .powerDie ix F.powerDie_REFUSED = true ∧ OnlyRegs s t (⟨.powerDie, ix⟩ :: eventKeys 0 501)
       else t.regs = s.regs)


/-- R72, R73: GO of the case start register asks for a start, and at a slot 0 at least four cycles later every Armed
engine of the case enters Running at its START_PC, all in one step. The choice is the model's where log entry 18 says
so. -/
def Obligations.CaseStartTogether : Prop :=
  ∀ (s : State) (w : Who) (d : Fin 4) (c : Fin 16) (v : W64),
    (Open s w .caseStart [d, c] → goRefused s d c = false → s.bit .caseStart [d, c] F.caseStart_GO = false →
      Gives (exec (.caseStart w d c v) s) fun t =>
        t.bit .caseStart [d, c] F.caseStart_GO = true ∧ t.hv .startAt [d, c] = s.hv .caseCycle [d, c] ∧
        t.units = s.units ∧ OnlyRegs s t [⟨.caseStart, [d, c]⟩]) ∧
    (s.bit .caseStart [d, c] F.caseStart_GO = true → s.hv .slotCtr [d, c] = 0 →
      s.hv .startAt [d, c] + 4 ≤ s.hv .caseCycle [d, c] → s.runs d (16 + c) = true →
      (∀ a b, a < 8 → b < 8 → s.engAt d c a = s.engAt d c b → a = b) →
      Gives (exec (.caseStartRelease d c) s) fun t =>
        (∀ sl, sl < 8 → (s.unit (s.engAt d c sl)).st = .armed →
          t.unit (s.engAt d c sl) = started (s.unit (s.engAt d c sl)) (s.reg .caseEngStartPc [d, c, sl] &&& 0x7FF8)) ∧
        (∀ u, (s.unit u).st ≠ .armed → t.unit u = s.unit u) ∧
        t.bit .caseStart [d, c] F.caseStart_GO = false ∧ t.mem = s.mem)


/-- R171, R173, R174, R198: a request for a swap is noted; at its slot 0 the live and the standby plane exchange, or,
with a reserved code in the standby plane, the swap is refused with nothing exchanged. The choice is the model's where
log entry 21 says so. -/
def Obligations.PlaneSwaps : Prop :=
  ∀ (s : State) (w : Who) (v : W64) (d : Fin 4),
    (∀ c : Fin 16, Open s w .caseImpCtl [d, c] → s.bit .caseImpStatus [d, c] F.caseImpStatus_PENDING = false →
      Gives (exec (.impSwapRequest w d c v) s) fun t =>
        t.bit .caseImpStatus [d, c] F.caseImpStatus_PENDING = true ∧ t.hv .swapAt [d, c] = s.hv .caseCycle [d, c] ∧
        OnlyRegs s t [⟨.caseImpCtl, [d, c]⟩, ⟨.caseImpStatus, [d, c]⟩]) ∧
    (∀ c : Fin 16, s.runs d (16 + c) = true → swapDue s d c = true → Gives (exec (.impSwap d c) s) fun t =>
        t.bit .caseImpStatus [d, c] F.caseImpStatus_PENDING = false ∧
        ((∃ n, n < 64 ∧ HasCode (s.reg .caseImpSlot [d, c, n]) 11 14) →
          t.bit .caseImpStatus [d, c] F.caseImpStatus_SWAP_ERR = true ∧
          ∀ n, t.reg .caseImpLive [d, c, n] = s.reg .caseImpLive [d, c, n] ∧
            t.reg .caseImpSlot [d, c, n] = s.reg .caseImpSlot [d, c, n]) ∧
        ((∀ n, n < 64 → ¬ HasCode (s.reg .caseImpSlot [d, c, n]) 11 14) →
          t.bit .caseImpStatus [d, c] F.caseImpStatus_SWAP_DONE = true ∧
          ∀ n, n < 64 → t.reg .caseImpLive [d, c, n] = s.reg .caseImpSlot [d, c, n] ∧
            t.reg .caseImpSlot [d, c, n] = s.reg .caseImpLive [d, c, n])) ∧
    (∀ p : Fin 12, Open s w .nocXportImpCs [d, p] → s.bit .nocXportImpCs [d, p] F.nocXportImpCs_PENDING = false →
      Gives (exec (.xportSwapRequest w d p v) s) fun t =>
        t.bit .nocXportImpCs [d, p] F.nocXportImpCs_PENDING = true ∧ OnlyRegs s t [⟨.nocXportImpCs, [d, p]⟩]) ∧
    (∀ p : Fin 12, s.domOn d 33 = true → xportDue s d p = true →
      Gives (exec (.xportSwap d p) s) fun t =>
        t.bit .nocXportImpCs [d, p] F.nocXportImpCs_PENDING = false ∧
        ((∃ j k, j < 4 ∧ k < 8 ∧ HasCode (s.reg .nocXportImpWord [d, p, j, k]) 12 14) →
          t.bit .nocXportImpCs [d, p] F.nocXportImpCs_SWAP_ERR = true ∧ OnlyRegs s t [⟨.nocXportImpCs, [d, p]⟩]) ∧
        ((∀ j k, j < 4 → k < 8 → ¬ HasCode (s.reg .nocXportImpWord [d, p, j, k]) 12 14) →
          t.bit .nocXportImpCs [d, p] F.nocXportImpCs_SWAP_DONE = true ∧
          ∀ j k, j < 4 → k < 8 → t.reg .nocXportLiveWord [d, p, j, k] = s.reg .nocXportImpWord [d, p, j, k] ∧
            t.reg .nocXportImpWord [d, p, j, k] = s.reg .nocXportLiveWord [d, p, j, k]))


/-- R208, R210, R211, R212: a failing check discards the pair: the engine keeps its registers and its program counter, REPLAYS
and ND count the replay, and the log names the position, the check, the slot, the pair and its first replay. Below the
thresholds no other register changes. R207, R209: the request of a case access whose pair fails its check at WB has left, and
the pair has still to issue. The choice is the model's where log entry 72 says so. -/
def Obligations.ResidueReplay : Prop :=
  ∀ (s : State) (d : Fin 4) (c : Fin 16) (p : Fin 9) (chk : Fin 8) (vslot : Bool) (now : Nat) (re : Fin 51) (u : UnitId)
    (sl : Nat), u = .eng d c p → sl = s.slotOf d c p → sl < 8 → canIssue s u = true → (s.unit u).mismRun = 0 →
    inDrain s d c p = false → ((s.case d c).mism.get [] sl).length < 2 →
    (Gives (exec (.residueMismatch d c p chk vslot now ⟨re, []⟩) s) fun t =>
      t.unit u = { s.unit u with mismRun := 1, stall := 0, wev := none } ∧ t.mem = s.mem ∧
      t.fld .caseEngReplays [d, c, sl] F.caseEngReplays_COUNT =
        min (s.fld .caseEngReplays [d, c, sl] F.caseEngReplays_COUNT + 1) (2 ^ F.caseEngReplays_COUNT.width - 1) ∧
      t.fld .caseEngNdcycles [d, c, sl] F.caseEngNdcycles_ND =
        min (s.fld .caseEngNdcycles [d, c, sl] F.caseEngNdcycles_ND + (14 + re)) (2 ^ F.caseEngNdcycles_ND.width - 1) ∧
      t.fld .caseEngRlog [d, c, sl] F.caseEngRlog_POS = p ∧ t.fld .caseEngRlog [d, c, sl] F.caseEngRlog_UNIT = chk ∧
      t.bit .caseEngRlog [d, c, sl] F.caseEngRlog_VSLOT = vslot ∧ t.fld .caseEngRlog [d, c, sl] F.caseEngRlog_RUN = 1 ∧
      t.fld .caseEngRlog [d, c, sl] F.caseEngRlog_PC = (s.unit u).pc.toNat % 2 ^ 15 ∧
      OnlyRegs s t [⟨.caseEngReplays, [d, c, sl]⟩, ⟨.caseEngNdcycles, [d, c, sl]⟩, ⟨.caseEngRlog, [d, c, sl]⟩]) ∧
    (∀ x v a n op goesTo lock, caseAccess (fun r => (s.unit u).getG r.toNat) x = some (a, n, op, goesTo, lock) →
      Issues s u x v → addressFailure chk vslot = false →
      Gives (exec (.residueMismatch d c p chk vslot now ⟨re, [(x, v)]⟩) s) fun t =>
        (t.unit u).sent = [((s.unit u).pc, (s.unit u).nextId)] ∧ (t.unit u).mismRun = 1 ∧ (t.unit u).pc = (s.unit u).pc ∧
        (∀ k, (t.unit u).getG k = (s.unit u).getG k) ∧ t.mem = s.mem ∧
        ∃ q, (t.case d c).waiting = (s.case d c).waiting ++ [q] ∧ q.who = .eng p ∧ q.off = a.toNat ∧ q.len = n ∧ q.op = op)

/-- R72, R74, R76, R77: GO starts a Stopped or Fault-stopped engine at START_PC with its registers as they were, unless it is
refused; ARM arms a Stopped one; STOP asks a Running one to stop, and it reaches Stopped when nothing is outstanding, with
its registers and memories as they were, and STOP of its slot clears. R126, R127: GO of ctl.run starts a Stopped die control
core at BOOT_PC, and STOP stops a Running one. -/
def Obligations.RunControl : Prop :=
  (∀ (s : State) (w : Who) (d : Fin 4) (c : Fin 16) (sl : Fin 8) (v : W64) (u : UnitId) (x : UnitState),
    u = s.engAt d c sl → x = s.unit u → Open s w .caseEngCtl [d, c, sl] →
    (x.st = .stopped ∨ x.st = .faultStopped → F.caseEngCtl_STOP.get v = 0 → goRefused s d c = false →
      Gives (exec (.engineGo w d c sl v) s) fun t =>
        t.unit u = started x (s.reg .caseEngStartPc [d, c, sl] &&& 0x7FF8) ∧ t.fld .caseEngCtl [d, c, sl] F.caseEngCtl_GO = 0 ∧
        OnlyRegs s t [⟨.caseEngCtl, [d, c, sl]⟩] ∧ t.mem = s.mem ∧ t.answer.status = OK) ∧
    (goRefused s d c = true → Gives (exec (.engineGo w d c sl v) s) fun t =>
        t.answer.status = REFUSED ∧ t.unit u = x ∧ t.regs = s.regs) ∧
    (x.st = .stopped → F.caseEngCtl_STOP.get v = 0 → F.caseEngCtl_GO.get v = 0 → F.caseEngCtl_ARM.get v = 1 →
      Gives (exec (.engineArm w d c sl v) s) fun t =>
        t.unit u = { x with st := .armed } ∧ t.fld .caseEngCtl [d, c, sl] F.caseEngCtl_ARM = 1 ∧
        OnlyRegs s t [⟨.caseEngCtl, [d, c, sl]⟩]) ∧
    (x.st = .armed → F.caseEngCtl_GO.get v = 0 → F.caseEngCtl_ARM.get v = 0 →
      Gives (exec (.engineArm w d c sl v) s) fun t => t.unit u = { x with st := .stopped }) ∧
    (x.st = .running → F.caseEngCtl_GO.get v = 0 → asyncCause s u = none →
      Gives (exec (.engineStop w d c sl v) s) fun t =>
        (t.unit u).stopping = true ∧ (t.unit u).st = .running ∧ (t.unit u).resv = none ∧
        t.fld .caseEngCtl [d, c, sl] F.caseEngCtl_STOP = 1 ∧ OnlyRegs s t [⟨.caseEngCtl, [d, c, sl]⟩] ∧ t.mem = s.mem) ∧
    (x.st = .running → F.caseEngCtl_GO.get v = 0 → x.st_ fINTRAP = 0 → ∀ e, asyncCause s u = some e →
      Gives (exec (.engineStop w d c sl v) s) fun t =>
        (t.unit u).stopping = true ∧ (t.unit u).pc = x.getSys TVEC ∧ (t.unit u).getSys EPC = x.pc)) ∧
  (∀ (s : State) (d : Fin 4) (c : Fin 16) (p : Fin 9) (u : UnitId), u = .eng d c p → (s.unit u).st = .running →
    (s.unit u).stopping = true →
    ((s.unit u).outs = [] → (s.unit u).mismRun = 0 → Gives (exec (.engineStopped d c p) s) fun t =>
      (t.unit u).st = .stopped ∧ (t.unit u).stopping = false ∧ (t.unit u).pc = (s.unit u).pc ∧
      (∀ n, (t.unit u).getG n = (s.unit u).getG n ∧ (t.unit u).getV n = (s.unit u).getV n) ∧ t.mem = s.mem ∧
      (s.slotOf d c p < 8 → t.fld .caseEngCtl [d, c, s.slotOf d c p] F.caseEngCtl_STOP = 0)) ∧
    ((s.unit u).outs ≠ [] → exec (.engineStopped d c p) s = .next s)) ∧
  (∀ (s : State) (w : Who) (d : Fin 4) (v : W64), Open s w .ctlRun [d] →
    ((s.unit (.core d)).st = .stopped → F.ctlRun_STOP.get v = 0 → Gives (exec (.coreGo w d v) s) fun t =>
      t.unit (.core d) = started (s.unit (.core d)) (s.reg .ctlBoot [d] &&& 0xFFFFFFFFFFFC) ∧ t.regs = s.regs ∧
      t.mem = s.mem) ∧
    ((s.unit (.core d)).st = .running → asyncCause s (.core d) = none → Gives (exec (.coreStop w d v) s) fun t =>
      (t.unit (.core d)).st = .stopped ∧ (t.unit (.core d)).pc = (s.unit (.core d)).pc ∧
      (t.unit (.core d)).resv = none ∧ t.regs = s.regs))

/-- R178, R180: a bank that has a request of its slot's owner grants it; otherwise it grants the background request that
has waited longest. R71, R164: when one engine's read or write is all that waits in a case and its bank grants it, one
phase performs it: the load reaches its register, the store reaches memory and no other byte, the request is gone, and
the slot counter advances. The choice is the model's where log entry 18 says so. -/
def Obligations.CaseMemoryGrant : Prop :=
  (∀ (s : State) (d c n b : Nat),
    (∀ r, ownerRequest s d c n b = some r → grantOf s d c n b = some r) ∧
    (ownerRequest s d c n b = none → ∀ code q, code < 12 → requestOf s d c b code = some q →
      background s d c q.who = true → ∃ r, grantOf s d c n b = some r ∧ q.age ≤ r.age)) ∧
  (∀ (s : State) (d : Fin 4) (c : Fin 16) (p : Fin 9) (r : BankReq) (id n : Nat) (o : Pend) (u : UnitId),
    u = .eng d c p → n = (s.hv .slotCtr [d, c] + 1) % 64 → s.runs d (16 + c) = true →
    (s.case d c).waiting = [r] → (s.case d c).inb = [] → r.who = .eng p → r.use = .eng id →
    grantOf s d c n (bankOf r.off) = some r →
    s.bit .caseStart [d, c] F.caseStart_GO = false → s.bit .caseImpStatus [d, c] F.caseImpStatus_PENDING = false →
    (s.unit u).st = .running → (s.unit u).sent = [] → (s.unit u).outs = [o] → o.id = id → o.addr = r.off → o.len = r.len →
    (∀ rd sz, r.op = .read → o.dest = .load rd sz → s.mem.badN (caseBase d c + r.off) r.len = 0 →
      s.mem.corrN (caseBase d c + r.off) r.len = 0 → Gives (exec (.caseGrant d c) s) fun t =>
        (t.case d c).waiting = [] ∧ (t.unit u).outs = [] ∧ t.mem = s.mem ∧ t.hv .slotCtr [d, c] = n ∧
        (rd ≠ 0 → (t.unit u).getG rd = extendSz sz (s.mem.readN (caseBase d c + r.off) r.len)) ∧
        (∀ k, k ≠ rd → (t.unit u).getG k = (s.unit u).getG k)) ∧
    (∀ x, r.op = .write x 0 → o.dest = .store → Gives (exec (.caseGrant d c) s) fun t =>
        (t.case d c).waiting = [] ∧ (t.unit u).outs = [] ∧ t.hv .slotCtr [d, c] = n ∧
        t.mem.readN (caseBase d c + r.off) r.len = x % 256 ^ r.len ∧ SameOutside s t (caseBase d c + r.off) r.len))

/-- R186, R190: a ring write sets TAIL, and one that moves the ring while the channel stands empties it; RUN starts a
channel whose ring is valid and halts it at once when it is not; STOP ends the run of a channel that has nothing under
way. R187, R188, R191: the channel whose turn has come issues one piece: its source is read, and a piece that runs from
case memory waits at its bank; a descriptor whose rows are done writes STAT 1, advances HEAD and, with EVT, sets DONE.
The choice is the model's where log entries 18, 19 and 93 say so. -/
def Obligations.CaseDma : Prop :=
  (∀ (s : State) (w : Who) (d : Fin 4) (c : Fin 16) (k : Fin 4) (v : W64),
    (Open s w .caseDmaRing [d, c, k] → s.bit .caseDmaCtl [d, c, k] F.caseDmaCtl_RUN = false →
      Gives (exec (.dmaRingWrite w d c k v) s) fun t =>
        t.fld .caseDmaRing [d, c, k] F.caseDmaRing_TAIL = F.caseDmaRing_TAIL.get v ∧
        t.fld .caseDmaRing [d, c, k] F.caseDmaRing_RBASE = F.caseDmaRing_RBASE.get v ∧
        t.fld .caseDmaRing [d, c, k] F.caseDmaRing_LOG2N = F.caseDmaRing_LOG2N.get v ∧
        (F.caseDmaRing_RBASE.get v ≠ s.fld .caseDmaRing [d, c, k] F.caseDmaRing_RBASE →
          t.fld .caseDmaRing [d, c, k] F.caseDmaRing_HEAD = F.caseDmaRing_TAIL.get v) ∧
        OnlyRegs s t [⟨.caseDmaRing, [d, c, k]⟩] ∧ t.answer.status = OK) ∧
    (Open s w .caseDmaCtl [d, c, k] → s.bit .caseDmaCtl [d, c, k] F.caseDmaCtl_RUN = false → F.caseDmaCtl_STOP.get v = 0 →
      ringBad s d c k = false → Gives (exec (.dmaRun w d c k v) s) fun t =>
        t.bit .caseDmaCtl [d, c, k] F.caseDmaCtl_RUN = true ∧ t.chan d c k = DmaChan.init) ∧
    (Open s w .caseDmaCtl [d, c, k] → s.bit .caseDmaCtl [d, c, k] F.caseDmaCtl_RUN = false → F.caseDmaCtl_STOP.get v = 0 →
      ringBad s d c k = true → Gives (exec (.dmaRun w d c k v) s) fun t =>
        t.bit .caseDmaCtl [d, c, k] F.caseDmaCtl_RUN = false ∧ t.bit .caseDmaCtl [d, c, k] F.caseDmaCtl_HALTED = true ∧
        t.fld .caseDmaCtl [d, c, k] F.caseDmaCtl_CAUSE = 1) ∧
    (Open s w .caseDmaCtl [d, c, k] → s.bit .caseDmaCtl [d, c, k] F.caseDmaCtl_RUN = true → (s.chan d c k).live = [] →
      (s.chan d c k).err = none → Gives (exec (.dmaStop w d c k v) s) fun t =>
        t.bit .caseDmaCtl [d, c, k] F.caseDmaCtl_RUN = false ∧ t.bit .caseDmaCtl [d, c, k] F.caseDmaCtl_STOP = false ∧
        t.chan d c k = DmaChan.init ∧ t.mem = s.mem)) ∧
  (∀ (s : State) (d : Fin 4) (c : Fin 16) (k : Fin 4) (ds : DmaDesc), s.runs d (16 + c) = true →
    (s.chan d c k).desc = some ds →
    (s.hv .dmaTurn [d, c] % 4 = k → chanReady s d c k = true → ds.dir = false →
      (∀ j, j < 4 → ∀ q ∈ (s.chan d c j).live, q.got = none) →
      Gives (exec (.dmaPiece d c) s) fun t =>
        (∃ q, (t.case d c).waiting = (s.case d c).waiting ++ [q] ∧ q.who = .dma ∧ q.op = .read ∧
          q.off = ((ds.coff : Int) + (s.chan d c k).row * ds.cstr).toNat + (s.chan d c k).off) ∧
        (∃ q, (t.chan d c k).live = (s.chan d c k).live ++ [q]) ∧ t.mem = s.mem ∧ t.regs = s.regs) ∧
    (ds.rows ≤ (s.chan d c k).row → (s.chan d c k).live = [] → (s.chan d c k).err = none →
      Gives (exec (.descriptorComplete d c k) s) fun t =>
        t.mem.read (caseBase d c + ringAt s d c k + 28) = ⟨1, 0⟩ ∧
        SameOutside s t (caseBase d c + ringAt s d c k + 28) 1 ∧
        (2 ^ s.fld .caseDmaRing [d, c, k] F.caseDmaRing_LOG2N ≤ 1024 → t.fld .caseDmaRing [d, c, k] F.caseDmaRing_HEAD =
          (s.fld .caseDmaRing [d, c, k] F.caseDmaRing_HEAD + 1) % 2 ^ s.fld .caseDmaRing [d, c, k] F.caseDmaRing_LOG2N) ∧
        (ds.evt = true → t.bit .caseDmaCtl [d, c, k] F.caseDmaCtl_DONE = true)))

/-- R215, R216, R218: MIGRATE of a Running engine is accepted while the spare is Ready and no migration is under way, and
MIGRATE is refused while that is not so; RETURN brings a Vacated and tested engine back to Ready with its local data memory
filled; RETIRE retires a Vacated or Failed one. R219, R220, R222, R224, R225, R226, R227: an accepted migration pauses its
Running engine at a pair boundary and records the slot, copies its memories to the unnumbered position, gives that position
its registers and exchanges the two in REMAP, or with a failed comparison leaves the engine where it is and marks the
unnumbered engine Failed; when the recorded slot comes round the engine goes on, BUSY clears and DONE or ABORTED is set. The
choice is the model's where log entries 20 and 85 say so. -/
def Obligations.Sparing : Prop :=
  (∀ (s : State) (w : Who) (d : Fin 4) (c : Fin 16) (v : W64), Open s w .caseSpareCtl [d, c] →
    (F.caseSpareCtl_RETURN.get v = 0 → F.caseSpareCtl_RETIRE.get v = 0 → spareReady s d c = true →
      (s.unit (s.engAt d c (F.caseSpareCtl_TARGET.get v))).st = .running → Gives (exec (.migrate w d c v) s) fun t =>
        t.bit .caseSpareStatus [d, c] F.caseSpareStatus_BUSY = true ∧
        t.fld .caseSpareStatus [d, c] F.caseSpareStatus_LAST = F.caseSpareCtl_TARGET.get v ∧ t.units = s.units ∧
        t.mem = s.mem ∧ OnlyRegs s t [⟨.caseSpareCtl, [d, c]⟩, ⟨.caseSpareStatus, [d, c]⟩]) ∧
    (F.caseSpareCtl_RETURN.get v = 0 → F.caseSpareCtl_RETIRE.get v = 0 → spareReady s d c = false →
      Gives (exec (.migrate w d c v) s) fun t =>
        t.bit .caseSpareStatus [d, c] F.caseSpareStatus_REFUSED = true ∧
        t.fld .caseSpareStatus [d, c] F.caseSpareStatus_BUSY = s.fld .caseSpareStatus [d, c] F.caseSpareStatus_BUSY) ∧
    (F.caseSpareCtl_MIGRATE.get v = 0 → F.caseSpareCtl_RETIRE.get v = 0 → ustate s d c = 1 →
      s.hv .spareTested [d, c] = 1 → Gives (exec (.returnUnnumbered w d c v) s) fun t => ustate t d c = 0 ∧
        ∀ o, o < 0x20000 → t.mem.read (lmemBase d c (unnum s d c) + o) = ⟨0, 0⟩) ∧
    (F.caseSpareCtl_MIGRATE.get v = 0 → F.caseSpareCtl_RETURN.get v = 0 → ustate s d c = 1 ∨ ustate s d c = 4 →
      Gives (exec (.retire w d c v) s) fun t => ustate t d c = 3 ∧ t.units = s.units ∧ t.mem = s.mem)) ∧
  (∀ (s : State) (d : Fin 4) (c : Fin 16) (sl : Nat) (src dst : Fin 9) (u n : UnitId),
    sl = s.fld .caseSpareStatus [d, c] F.caseSpareStatus_LAST → s.posOf d c sl = src → s.posOf d c 8 = dst → src ≠ dst →
    u = .eng d c src → n = .eng d c dst → s.bit .caseSpareStatus [d, c] F.caseSpareStatus_BUSY = true →
    s.runs d (16 + c) = true →
    ((s.case d c).migr = none → (s.unit u).st = .running → (s.unit u).mismRun = 0 → asyncCause s u = none →
      Gives (exec (.migration d c .pause) s) fun t =>
        t.unit u = { (s.unit u).dropResv with st := .migrating, back := .running, stall := 0 } ∧
        (t.case d c).migr = some { src := src, q := s.hv .slotCtr [d, c], stage := 1 } ∧ t.mem = s.mem ∧ t.regs = s.regs) ∧
    (∀ m ok, (s.case d c).migr = some m → m.stage = 1 → m.src = src → Gives (exec (.migration d c (.copy ok)) s) fun t =>
        (∀ o, o < 0x20000 → t.mem.read (lmemBase d c dst + o) = s.mem.read (lmemBase d c src + o)) ∧
        (∀ o, o < 0x8000 → t.mem.read (imemBase d c dst + o) = s.mem.read (imemBase d c src + o)) ∧
        (t.case d c).migr = some { m with stage := if ok then 2 else 3 } ∧ t.units = s.units) ∧
    (∀ m, (s.case d c).migr = some m → m.stage = 2 → m.src = src → (s.unit u).held = [] →
      Gives (exec (.migration d c .remap) s) fun t =>
        t.unit n = { s.unit u with mismRun := 0 } ∧ (t.unit u).st = .stopped ∧ (t.unit u).outs = [] ∧ t.posOf d c sl = dst ∧
        t.posOf d c 8 = src ∧ ustate t d c = 1 ∧ (t.case d c).migr = some { m with stage := 4 } ∧
        (t.case d c).mism.get [] sl = []) ∧
    (∀ m, (s.case d c).migr = some m → m.stage = 3 → m.src = src → (s.unit u).held = [] →
      Gives (exec (.migration d c .remap) s) fun t =>
        t.unit u = { s.unit u with mismRun := 0 } ∧ (∀ x, x ≠ u → t.unit x = s.unit x) ∧ t.posOf d c sl = src ∧ ustate t d c = 4 ∧ (t.case d c).migr = some { m with stage := 5 } ∧
        (t.case d c).mism.get [] sl = []) ∧
    (∀ m, (s.case d c).migr = some m → m.stage = 4 ∨ m.stage = 5 → (s.unit u).back = .running →
      (s.hv .slotCtr [d, c] ≠ m.q → exec (.migration d c .release) s = .next s) ∧
      (s.hv .slotCtr [d, c] = m.q → (s.unit u).held = [] → (s.unit u).stopping = false → (s.unit u).haltDue = false →
        (∀ k, k < 4 → (s.chan d c k).live = []) → Gives (exec (.migration d c .release) s) fun t =>
          t.unit u = { s.unit u with st := .running } ∧ (t.case d c).migr = none ∧
          t.bit .caseSpareStatus [d, c] F.caseSpareStatus_BUSY = false ∧
          (m.stage = 4 → t.bit .caseSpareStatus [d, c] F.caseSpareStatus_DONE = true) ∧
          (m.stage = 5 → t.bit .caseSpareStatus [d, c] F.caseSpareStatus_ABORTED = true))))

namespace Sys2Proof.Claims

/-- What the rules say of a command in one case: when it acts, the fields that it sets, the events that it raises, the
further registers that it may change, whether the memories and the processors keep what they hold, and what else holds
after it. -/
structure Row where
  pre : Bool := true
  sets : List (RegName × List Nat × Fld × Nat) := []
  events : List (Nat × Nat) := []
  also : RKey → Bool := fun _ => false
  keepMem : Bool := true
  keepUnits : Bool := true
  post : State → Bool := fun _ => true
  tells : State → Prop := fun _ => True

/-- The registers that a row may change. -/
def Row.changes (r : Row) (k : RKey) : Prop :=
  (∃ e ∈ r.sets, k = ⟨e.1, e.2.1⟩) ∨ (∃ e ∈ r.events, k ∈ eventKeys e.1 e.2) ∨ r.also k = true

/-- Command i completes in state s as the row says, and changes no other register; a register write that its initiator may
make is answered OK. -/
def Does (s : State) (i : Instr) (r : Row) : Prop :=
  (∀ w n ix, registerRow i = some (w, n, ix) → Open s w n ix) → r.pre = true → Gives (exec i s) fun t =>
    (∀ e ∈ r.sets, t.fld e.1 e.2.1 e.2.2.1 = e.2.2.2) ∧ (∀ e ∈ r.events, Pending t e.1 e.2) ∧ r.post t = true ∧
    r.tells t ∧
    (∀ k, ¬ r.changes k → t.reg k.n k.ix = s.reg k.n k.ix) ∧ (r.keepMem = true → t.mem = s.mem) ∧
    (r.keepUnits = true → t.units = s.units) ∧ (registerRow i ≠ none → t.answer.status = OK)

/-- The fields of user-PLL configuration (the table of `upll`). -/
def upllFields : List Fld :=
  [F.galleyUpllCfg_MODE, F.galleyUpllCfg_ENABLE, F.galleyUpllCfg_REFSEL, F.galleyUpllCfg_PRE, F.galleyUpllCfg_FB,
    F.galleyUpllCfg_DIV0, F.galleyUpllCfg_DIV1, F.galleyUpllCfg_DIV2, F.galleyUpllCfg_DIV3]

/-- User clocks and user PLLs (R273, R278, R279). -/
def clockRows (s : State) : Instr → List Row
  | .upllCfg _ d _ k v => [{
      pre := !s.bit .galleyUpllCfg [d, 0, k] F.galleyUpllCfg_ENABLE
      sets := upllFields.map fun f => (.galleyUpllCfg, [d.val, 0, k.val], f, f.get v) },
    { pre := s.bit .galleyUpllCfg [d, 0, k] F.galleyUpllCfg_ENABLE && F.galleyUpllCfg_ENABLE.get v == 0 &&
        (upllFields.all fun f => f == F.galleyUpllCfg_ENABLE || f.get v == s.fld .galleyUpllCfg [d, 0, k] f)
      sets := [(.galleyUpllCfg, [d, 0, k], F.galleyUpllCfg_ENABLE, 0), (.galleyUpllStatus, [d, 0, k], F.galleyUpllStatus_LOCK, 0)] }]
  | .upllLock d k => [{
      pre := s.bit .galleyUpllCfg [d, 0, k] F.galleyUpllCfg_ENABLE && s.released d &&
        (s.fld .galleyUpllCfg [d, 0, k] F.galleyUpllCfg_MODE == 1 || s.fld .galleyUpllCfg [d, 0, k] F.galleyUpllCfg_MODE == 2)
        && decide (s.fld .galleyUpllCfg [d, 0, k] F.galleyUpllCfg_REFSEL ≤ 32)
      sets := [(.galleyUpllStatus, [d, 0, k], F.galleyUpllStatus_LOCK, 1)] }]
  | .upllLossOfLock d k => [{
      pre := s.bit .galleyUpllStatus [d, 0, k] F.galleyUpllStatus_LOCK
      sets := [(.galleyUpllStatus, [d, 0, k], F.galleyUpllStatus_LOCK, 0),
        (.galleyUpllStatus, [d, 0, k], F.galleyUpllStatus_LOL, 1)]
      events := [(d, 161)] }]
  | .clockSourceChange d g n =>
    let new := s.fld .galleyClksel (liveIx [d, g, n]) F.galleyClksel_SRC
    let edges := decide (6 ≤ s.hv .clkEdges [d, g, n]) || (noSource (netSource s d g n) && noSource new)
    [{ pre := s.bit .galleyClksel [d, g, n] F.galleyClksel_SWITCHING && edges
       sets := [(.galleyClksel, [d, g, n], F.galleyClksel_SWITCHING, 0), (.galleyClksel, [d, g, n], F.galleyClksel_FORCE, 0),
         (.galleyClksel, [d, g, n], F.galleyClksel_CUR, new)] },
     { pre := s.bit .galleyClksel [d, g, n] F.galleyClksel_SWITCHING && !edges }]
  | .forceClock _ d g n v => [{
      pre := s.bit .galleyClksel [d, g, n] F.galleyClksel_SWITCHING && !cloning s d g
      sets := [(.galleyClksel, [d, g, n], F.galleyClksel_SRC, F.galleyClksel_SRC.get v),
        (.galleyClksel, [d, g, n], F.galleyClksel_SWITCHING, s.fld .galleyClksel [d, g, n] F.galleyClksel_SWITCHING),
        (.galleyClksel, [d, g, n], F.galleyClksel_FORCE, 1)]
      post := fun t => t.hv .clkEdges [d, g, n] == max 3 (s.hv .clkEdges [d, g, n]) },
    { pre := !s.bit .galleyClksel [d, g, n] F.galleyClksel_SWITCHING && !cloning s d g
      sets := [(.galleyClksel, [d, g, n], F.galleyClksel_SRC, F.galleyClksel_SRC.get v)] }]
  | _ => []

/-- The I/O banks and the delay lines (R296, R299, R300). -/
def ioRows (s : State) : Instr → List Row
  | .bankPgFall d b v => [{
      pre := s.bit .ioBankStatus [d, b] F.ioBankStatus_PG
      sets := [(.ioBankStatus, [d, b], F.ioBankStatus_PG, 0), (.ioBankStatus, [d, b], F.ioBankStatus_VCCO, v),
        (.ioBankStatus, [d, b], F.ioBankStatus_VMIS, 1)]
      events := [(d, 162)] },
    { pre := !s.bit .ioBankStatus [d, b] F.ioBankStatus_PG, sets := [(.ioBankStatus, [d, b], F.ioBankStatus_VCCO, v)] }]
  | .bankPgRise d b v =>
    let after := (s.setFld .ioBankStatus [d, b] F.ioBankStatus_PG 1).setFld .ioBankStatus [d, b] F.ioBankStatus_VCCO v
    let sets : List (RegName × List Nat × Fld × Nat) := [(.ioBankStatus, [d.val, b.val], F.ioBankStatus_PG, 1),
      (.ioBankStatus, [d.val, b.val], F.ioBankStatus_VCCO, v.val)]
    [{ pre := !bankMismatch after d b, sets := sets },
     { pre := bankMismatch after d b, events := [(d, 162)]
       sets := sets ++ [(.ioBankStatus, [d.val, b.val], F.ioBankStatus_VMIS, 1)] }]
  | .qpinDly _ d m v => [{
      sets := [(.ioQpinDly, [d, m], F.ioQpinDly_TX_TAP, F.ioQpinDly_TX_TAP.get v),
        (.ioQpinDly, [d, m], F.ioQpinDly_RX_TAP, F.ioQpinDly_RX_TAP.get v), (.ioQpinDly, [d, m], F.ioQpinDly_BUSY,
          if F.ioQpinDly_TX_TAP.get v = s.hv .txTap [d, m] ∧ F.ioQpinDly_RX_TAP.get v = s.hv .rxTap [d, m] then 0
          else 1)] }]
  | .delayLineArrive d m =>
    let there := s.fld .ioQpinDly [d, m] F.ioQpinDly_TX_TAP == s.hv .txTap [d, m] &&
      s.fld .ioQpinDly [d, m] F.ioQpinDly_RX_TAP == s.hv .rxTap [d, m]
    [{ pre := there, sets := [(.ioQpinDly, [d, m], F.ioQpinDly_BUSY, 0)] }, { pre := !there }]
  | _ => []

/-- n bytes read without an error (R380). -/
def cleanBytes (s : State) (a n : Nat) : Bool := s.mem.corrN a n == 0 && s.mem.badN a n == 0

/-- Queue controllers and block RAM (R260, R261, R267, R269 to R271). -/
def queueRows (s : State) : Instr → List Row
  | .queueWrite d g b data late =>
    let n := portBytes s d g b false
    let x := s.block d g b
    let a := arrayBase s d g b 0 + n * x.wr
    let two := ramMode s d g b == 2
    let on := ramClock s d g b false && (ramMode s d g b == 1 || two)
    let lag := if two && late then 3 else 0
    let low (k : Nat) : Bool := decide (k ≤ cell s d g (.ramAempty b))
    [{ pre := on && decide (x.cnt < queueDepth s d g b) && x.lateW == 0
       keepMem := false
       post := fun t =>
         decide (t.block d g b = { x with cnt := x.cnt + 1, wr := (x.wr + 1) % queueDepth s d g b,
                                          lateR := if x.cnt = 0 then lag else x.lateR,
                                          lateAe := if low x.cnt && !low (x.cnt + 1) then lag else x.lateAe }) &&
         t.mem.readN a n == data.toNat % 256 ^ n
       tells := fun t => SameOutside s t a n },
     { pre := on && (decide (queueDepth s d g b ≤ x.cnt) || x.lateW != 0)
       post := fun t => decide (t.block d g b = { x with ovf := true }) }]
  | .queueRead d g b late =>
    let n := portBytes s d g b false
    let x := s.block d g b
    let a := arrayBase s d g b 0 + n * x.rd
    let on := ramClock s d g b true && ramMode s d g b != 0
    let lag := if ramMode s d g b == 2 && late then 3 else 0
    let depth := queueDepth s d g b
    let high (k : Nat) : Bool := decide (depth - k ≤ cell s d g (.ramAfull b))
    [{ pre := on && decide (0 < x.cnt) && x.lateR == 0 && cleanBytes s a n
       post := fun t => decide (t.block d g b = { x with
         cnt := x.cnt - 1, rd := (x.rd + 1) % depth, outB := s.mem.readN a n, corrB := false,
         poisonB := false, lateW := if depth ≤ x.cnt then lag else x.lateW,
         lateAf := if high x.cnt && !high (x.cnt - 1) then lag else x.lateAf }) },
     { pre := on && (x.cnt == 0 || x.lateR != 0), post := fun t => decide (t.block d g b = { x with unf := true }) }]
  | .clrerr d g ⟨b, w, r, none, false⟩ =>
    let x := s.block d g b
    let on := ramClock s d g b false && ramClock s d g b true
    [{ pre := on && ramMode s d g b == 1 && (w || r)
       post := fun t => decide (t.block d g b = { x with ovf := false, unf := false }) },
     { pre := on && ramMode s d g b != 1
       post := fun t => decide (t.block d g b = { x with ovf := x.ovf && !w, unf := x.unf && !r }) }]
  | .clrerr d g ⟨b, w, false, some _, false⟩ => [{
      pre := w && ramClock s d g b false && ramMode s d g b == 2 && decide (queueDepth s d g b ≤ (s.block d g b).cnt)
      post := fun t => (t.block d g b).ovf && (t.block d g b).unf == (s.block d g b).unf }]
  | .clrerr d g ⟨b, true, _, some _, true⟩ => [{
      pre := ramClock s d g b false && ramClock s d g b true && ramMode s d g b == 1 && (s.block d g b).cnt == 0 &&
        (s.block d g b).lateW == 0
      keepMem := false
      post := fun t => (t.block d g b).unf && (t.block d g b).cnt == 1 }]
  | .queueRst d g b => [{
      pre := ramClock s d g b false && ramClock s d g b true
      post := fun t => decide (t.block d g b = { s.block d g b with
        cnt := 0, rd := 0, wr := 0, ovf := false, unf := false, lateW := 0, lateR := 0, lateAf := 0, lateAe := 0 }) }]
  | .blockRamAccess d g b (some o) none =>
    let n := portBytes s d g b false
    let a := arrayBase s d g b 0 + o.addr.toNat * n % 4096
    let on := ramMode s d g b == 0 && ramClock s d g b false
    [{ pre := on && !o.wr && cleanBytes s a n
       post := fun t => (t.block d g b).outA == s.mem.readN a n && !(t.block d g b).poisonA &&
         (t.block d g b).outB == (s.block d g b).outB },
     { pre := on && o.wr && cleanBytes s a n
       keepMem := false
       post := fun t => (List.range n).all fun i => decide (t.mem.read (a + i) =
         if n = 1 ∨ o.be.getLsbD i = true then ⟨(o.data >>> (8 * i)).setWidth 8, 0⟩ else s.mem.read (a + i))
       tells := fun t => SameOutside s t a n },
     { pre := !ramClock s d g b false, post := fun t => decide (t = s) }]
  | _ => []

end Sys2Proof.Claims

/-- R273, R278, R279: a user PLL takes its configuration while it is disabled, is disabled by the write that clears ENABLE
alone (log entry 28), locks when it may, and reports a loss of lock; a change of a user clock's source completes when six
edges have passed, with CUR at the live source, and FORCE takes the old source's three as passed. R259 to R261, R265 to R271:
an accepted queue write stores its entry and an accepted read presents it; a write to a full queue and a read of an empty one,
or to one whose flag falls late in mode 2, set their flag alone; CLRERR clears each flag on its own clock, and a strobe that
fails in its cycle sets its flag again; one port of a block RAM reads, or writes the bytes it enables, on a clock that runs.
R296, R299, R300: the supply of an I/O bank falls and rises, with VMIS where a pin needs another voltage, and a delay line
that has stepped to its taps is no longer busy. R238, R247: when nothing waits, the clocks advance; a wire register takes what
drives its wire on an edge of its network, and a user register whose network has no edge keeps its value unless its
asynchronous reset is 1. The choice is the model's where log entries 2, 28, 29, 30, 76, 80,
95 and 96 say so. -/
def Obligations.GalleyFeatures : Prop :=
  (∀ (s : State) (i : Instr), ∀ r ∈ clockRows s i ++ queueRows s i ++ ioRows s i, Does s i r) ∧
  (∀ s c : State, s.pending = [] → (∀ d, d < 4 → (s.comp d).outs = 0 ∧ (s.comp d).failed = false) → c = netEdges (cycleCounts s) →
    Gives (step s) fun t =>
    ∀ d g, d < 4 → g < 16 → galleyRuns c d g = true →
      (∀ w, w < Config.wires → wireHeld c d g w = true → t.fabv (.wire d g w) =
        if netEdge c d g (cell c d g (.wireNet w) % 32) then (driven (net c d g) c d g w).toNat else s.fabv (.wire d g w)) ∧
      (∀ col cl r, col < 80 → cl < 128 → r < 32 →
        netEdge c d g (cell c d g (.clusterNet col cl (cell c d g (.regClock col cl r) % 2)) % 32) = false →
        t.fabv (.reg d g col cl r) =
          if cell c d g (.regSync col cl r) = 0 ∧ fedNow c d g (.regRst col cl r) = true then 0
          else s.fabv (.reg d g col cl r)))

namespace Sys2Proof.Claims

/-- Registers whose fields have no effect beside their own value. -/
def plainRegs : List RegName :=
  [.caseEngStartPc, .ctlBoot, .nocExit, .nocEstat, .nocEcount, .integEflags, .ddrSched, .timeVote]

/-- A register of that list is served at full width at an address, to an initiator that may write it (R13, R14, R16). -/
def plainAt (s : State) (w : Who) (a n : Nat) : Option (RegName × List Nat) :=
  match regHit a n with
  | .reg ⟨r, ix, false⟩ =>
    if plainRegs.contains r && inBlock a && inBlock (a + n - 1) && !inDebugBlock a && !unitOff s a &&
      (writeGate w r ix s).isNone && !unitOff s (addrOf r ix) then some (r, ix) else none
  | _ => none

/-- Register accesses by address (R13, R14, R18). -/
def registerRows (s : State) : Instr → List Row
  | .registerWrite w a n v => match plainAt s w a n with
    | some (r, ix) => [{
        also := fun k => decide (k = ⟨r, ix⟩)
        post := fun t => t.answer.status == OK && (List.range 64).all fun k =>
          (t.reg r ix).getLsbD k == (if r.spec.rw.testBit k then v.getLsbD k
            else (s.reg r ix).getLsbD k && !(r.spec.w1c.testBit k && v.getLsbD k)) }]
    | none => []
  | .rcRead w a n quiet => match plainAt s w a n with
    | some (r, ix) => [{
        also := fun k => decide (k = ⟨r, ix⟩)
        post := fun t => t.answer.status == OK && t.answer.data == s.reg r ix && (List.range 64).all fun k =>
          (t.reg r ix).getLsbD k == ((s.reg r ix).getLsbD k && (quiet || !r.spec.rc.testBit k)) }]
    | none => []
  | _ => []

/-- No composing context waits to report a failed request (R524). -/
def compsClear (s : State) : Bool := (List.range 4).all fun d => !(s.comp d).failed

/-- The only packet in flight is the response to a request that went out with the tag. -/
def answered (t : State) (w : Who) (op : ReqOp) (tag gen status data : Nat) : Bool :=
  match t.flight with
  | [.resp p 15 _] => decide (p.who = w) && decide (p.op = op) && p.tag == tag && p.gen == gen && p.status == status &&
      p.data == data
  | _ => false

/-- No response waits at a target for its router, and no buffer of the network holds an error (R316, R385). -/
def netClear (s : State) : Bool := decide (s.netFlaws = []) && decide (s.replies = [])

/-- A read or a write of die SRAM by a die control core, the guard core or the debug initiator, without L, is the only packet
in flight, and lies at its router (R37, R308, R319): the request, the place in memory, the endpoint that answers, and the
queue that the request lies in. -/
def sramArrival (s : State) (w : Who) (op : ReqOp) (tag gen : Nat) : Option (Req × Nat × Nat × List Nat) :=
  match s.flight with
  | [.req r tag' gen' dst 15 h] =>
    match place s r.addr, stateBlock r.addr, restsAt s h with
    | .sram d o, none, some k =>
      if decide (r.who = w) && decide (r.op = op) && tag' == tag && gen' == gen && !r.lock && isManager w && netClear s &&
        netUp s (epDie dst) && s.runs d 32 && !s.domOff d 32 && r.pmask == 0 &&
        decide (exitPort s true (outerEp d 0 0) (epOf w) = some 15) then some (r, sramBase d + o, outerEp d 0 0, k) else none
    | _, _, _ => none
  | _ => none

/-- The response to a request, with its data. -/
def respOf (r : Req) (tag gen data : Nat) : Resp :=
  { who := r.who, op := r.op, tag := tag, gen := gen, status := OK, data := data, len := r.len, pmask := 0 }

/-- The response of n bytes enters the router of endpoint e when its queue has room for its flits, and waits at the target
when it has none (R316, R318). The queue that the request leaves is another. -/
def sendsAnswer (s t : State) (e : Nat) (r : Req) (tag gen data n : Nat) : Bool :=
  if meshRoom s e (4 + r.pri) (flitCount n) then answered t r.who r.op tag gen OK data && decide (t.replies = [])
  else decide (t.flight = []) && decide (t.replies = [(e, r.pri, respOf r tag gen data)])

/-- An atomic at case memory, without L, is the only packet in flight; it touches one line of a case that no other inbound
request waits at (R312, R315). -/
def atomicArrival (s : State) (w : Who) (tag gen : Nat) : Option (Req × Nat × Nat × Nat) :=
  match s.flight with
  | [.req r tag' gen' dst 15 h] =>
    match place s r.addr, stateBlock r.addr with
    | .caseMem d c o, none =>
      if decide (r.who = w) && decide (r.op = .at_) && tag' == tag && gen' == gen && !r.lock && decide (w ≠ .debug) &&
        netClear s && (restsAt s h).isSome && netUp s (epDie dst) && s.runs d (16 + c) && !s.domOff d (16 + c) &&
        !caseTested s d c && decide ((s.case d c).inb = []) && decide (0 < r.len) && decide (o % 64 + r.len ≤ 64)
      then some (r, d, c, o) else none
    | _, _ => none
  | _ => none

/-- A request is the only packet in flight, and a fabric port that takes requests on a sound clock claims it (R281 to R284): the
request, its header, and the die, galley and port. -/
def portArrival (s : State) (w : Who) (op : ReqOp) (tag gen : Nat) : Option (Req × Nat × Nat × Nat × Nat) :=
  match s.flight with
  | [.req r tag' gen' dst 15 h] =>
    match place s r.addr, stateBlock r.addr with
    | .fabric d g, none =>
      match claimPort s d g r.addr with
      | some k =>
        if decide (r.who = w) && decide (r.op = op) && tag' == tag && gen' == gen && !r.lock && decide (s.netFlaws = []) &&
          (restsAt s h).isSome && netUp s (epDie dst) && s.runs d g && !s.domOff d g &&
          decide (claimPort s d g (r.addr + r.len - 1) = some k) && portAccepts s d g k && !flitsOpen s (fportOf d g k)
        then some (r, h, d, g, k) else none
      | none => none
    | _, _ => none
  | _ => none

/-- The port hands a request to the design; in mode 3 its flits enter the port's queue first, and the request waits in the
network while the queue is FULL (R265, R287). -/
def fabricPortRows (s : State) (w : Who) (op : ReqOp) (tag gen : Nat) : List Row :=
  match portArrival s w op tag gen with
  | some (r, _, d, g, k) =>
    let taken (t : State) : Bool :=
      decide (t.flight = []) && decide (t.accepted = s.accepted ++ [(r, tag, gen, epOf (fportOf d g k))])
    (match portQueue s d g k with
      | none => [{ post := taken }]
      | some b =>
        let n := 64 / portBytes s d g b false * flitCount (reqPayload r).2
        let x := s.block d g b
        [{ pre := s.hv .portPkt [d, g, k] == 0 && x.lateW == 0 && decide (x.cnt + n ≤ queueDepth s d g b)
           keepMem := false
           post := fun t => taken t && (t.block d g b).cnt == x.cnt + n },
         { pre := s.hv .portPkt [d, g, k] == 0 && x.lateW == 0 && decide (x.cnt < queueDepth s d g b) &&
             decide (queueDepth s d g b < x.cnt + n)
           keepMem := false
           post := fun t => decide (t.flight = s.flight) && decide (t.accepted = s.accepted) &&
             (t.block d g b).cnt == queueDepth s d g b },
         { pre := s.hv .portPkt [d, g, k] == 0 && decide (queueDepth s d g b ≤ x.cnt), post := fun t => decide (t = s) }])
  | none => []

/-- The one access that an interface has open, with one outstanding request: a design's, or one that a command made. -/
def soleAccess (s : State) (w : Who) (tag : Nat) : Option (OutTag × Acc) :=
  match (s.init w).outs, (s.init w).accs with
  | [o], [a] => if o.tag == tag && a.id == o.req.acc && a.left == 1 && decide (a.use = .outside) && a.fail.isNone
      then some (o, a) else none
  | _, _ => none

/-- A response to a request with this tag and generation is the only packet in flight, and its interface takes it. -/
def responseHere (s : State) (w : Who) (op : ReqOp) (tag gen : Nat) : Option Resp :=
  match s.flight with
  | [.resp r 15 h] =>
    if decide (r.who = w) && decide (r.op = op) && r.tag == tag && r.gen == gen && decide (s.netFlaws = []) &&
      (restsAt s h).isSome && netUp s (whoDie w) && !portHolds s w && !portQueued s w && !flitsOpen s w && compsClear s
    then some r else none
  | _ => none

/-- A response that its request waits for is delivered; one that nothing waits for is discarded, flagged and counted (R328,
R331, R332). -/
def responseRows (s : State) (w : Who) (op : ReqOp) (tag gen : Nat) : List Row :=
  match responseHere s w op tag gen with
  | none => []
  | some r =>
    (match soleAccess s w tag with
      | some (o, a) => [{
          pre := o.gen == gen && decide (o.req.op = op) && decide (op ≠ .at_)
          post := fun t => t.answer.status == r.status && decide ((t.init w).outs = []) && decide ((t.init w).accs = []) &&
            decide (t.flight = []) && decide (t.answer.data = if r.status = OK ∧ op = .rd then
              BitVec.ofNat 64 (a.data + r.data % 256 ^ o.req.len * 256 ^ o.req.off) else BitVec.ofNat 64 a.data) },
          { pre := o.gen == gen && decide (o.req.op = op) && decide (op = .at_)
            post := fun t => t.answer.status == r.status && decide ((t.init w).outs = []) && decide (t.flight = []) }]
      | none => []) ++
    [{ pre := decide ((s.init w).outs = [])
       sets := [(.nocEstat, [whoDie w], F.nocEstat_LATE, 1), (.nocEcount, [whoDie w], F.nocEcount_LATE,
         min (s.fld .nocEcount [whoDie w] F.nocEcount_LATE + 1) (2 ^ F.nocEcount_LATE.width - 1))]
       events := [(whoDie w, 163)]
       post := fun t => decide (t.flight = []) }]

/-- The network: injection, arrival, response and timeout (R310, R317, R326 to R329). -/
def networkRows (s : State) : Instr → List Row
  | .inject w none _ => match (s.init w).queue with
    | [r] => match dstOf s (whoDie w) r.addr r.len with
      | some dst =>
        (match (s.init w).accs with
          | [a] => [{
              pre := mayInject s w && decide (exitPort s false (epOf w) dst = none) && a.id == r.acc && a.left == 1 &&
                decide (a.use = .outside) && a.fail.isNone && compsClear s
              sets := [(.nocEstat, [whoDie w], F.nocEstat_ROUTE, 1)]
              events := [(whoDie w, 163)]
              post := fun t => t.answer.status == ROUTE && decide ((t.init w).queue = []) &&
                decide ((t.init w).accs = []) && decide (t.flight = s.flight) }]
          | _ => []) ++
        (match freeTag (s.init w) with
          | some tag =>
            let q := { r with pri := sentPri s r, ca := dramAddr s (whoDie w) r.addr }
            let p3 := (s.init w).p3 + if q.pri = 3 then 256 * tokens q else 0
            [{
              pre := mayInject s w && decide ((s.init w).outs = []) && decide (exitPort s false (epOf w) dst = some 15) &&
                !flitsOpen s w && decide (respFlits r ≤ respSpace w) &&
                meshRoom s (epOf w) q.pri (flitCount (reqPayload r).2) &&
                (q.pri != 3 || decide (p3 ≤ 256 * max (tmoFld s w F.nocTmoCfg_P3_BURST) 6))
              post := fun t =>
                let gen := (s.init w).gens.get 0 tag
                let h := reqHeader q (epOf w) dst tag gen 15
                let k := [whoDie w, epRouter (epOf w), epPort (epOf w), hdrQueue h]
                let o : OutTag :=
                  { tag := tag, gen := gen, req := q, dst := dst, xport := 15, exp := tmoExp s w, age := 0, got := none }
                decide ((t.init w).queue = []) && decide ((t.init w).outs = [o]) && (t.init w).p3 == p3 &&
                decide (t.flight = s.flight ++ [.req q tag gen dst 15 h]) &&
                decide (t.meshQ k = s.meshQ k ++ meshFlits h (packetFlits h (reqPayload q))) }]
          | none => [])
      | none => match (s.init w).accs with
        | [a] => [{
            pre := mayInject s w && a.id == r.acc && a.left == 1 && decide (a.use = .outside) && a.fail.isNone &&
              compsClear s
            post := fun t => t.answer.status == DECODE && decide ((t.init w).queue = []) && decide ((t.init w).accs = []) }]
        | _ => []
    | _ => []
  | .rdReq w tag gen none => match sramArrival s w .rd tag gen with
    | some (r, a, e, k) => [{
        pre := cleanBytes s a r.len && decide (k ≠ [epDie e, epRouter e, epPort e, 4 + r.pri])
        post := fun t => sendsAnswer s t e r tag gen (s.mem.readN a r.len) r.len }]
    | none => fabricPortRows s w .rd tag gen
  | .wrReq w tag gen none => match sramArrival s w .wr tag gen with
    | some (r, a, e, k) => [{
        pre := decide (k ≠ [epDie e, epRouter e, epPort e, 4 + r.pri])
        keepMem := false
        post := fun t => sendsAnswer s t e r tag gen 0 0 && t.mem.readN a r.len == r.data % 256 ^ r.len
        tells := fun t => SameOutside s t a r.len }]
    | none => fabricPortRows s w .wr tag gen
  | .atReq w tag gen none => match atomicArrival s w tag gen with
    | some (r, d, c, o) => [{
        post := fun t => decide (t.flight = []) && decide ((t.case d c).waiting = (s.case d c).waiting ++
          [{ who := .inb, off := o, len := r.len, op := .atomic r.afn (r.len == 8) (BitVec.ofNat 64 r.data) r.cmp,
             use := .inb (s.case d c).nextId 0, pri := r.pri, age := 0 }]) }]
    | none => fabricPortRows s w .at_ tag gen
  | .rdr w tag gen => responseRows s w .rd tag gen
  | .wrr w tag gen => responseRows s w .wr tag gen
  | .atr w tag gen => responseRows s w .at_ tag gen
  | .timeout w tag => match soleAccess s w tag with
    | some (o, _) =>
      { pre := !timersFrozen s w && compsClear s && mayExpire o && o.got.isNone && !portHolds s w &&
          (s.flight.find? (isResp s w o.req.op o.tag o.gen)).isNone
        sets := [(.nocEstat, [whoDie w], F.nocEstat_TMO, 1), (.nocEcount, [whoDie w], F.nocEcount_TMO,
          min (s.fld .nocEcount [whoDie w] F.nocEcount_TMO + 1) (2 ^ F.nocEcount_TMO.width - 1))]
        events := [(whoDie w, 163)]
        post := fun t => t.answer.status == TIMEOUT && decide ((t.init w).outs = []) &&
          (t.init w).gens.get 0 tag == (o.gen + 1) % 4 &&
          (t.init w).stale.get 0 tag == (s.init w).stale.get 0 tag + 1 } ::
      (match responseHere s w o.req.op tag o.gen with
        | some r => [{
            pre := !timersFrozen s w && mayExpire o && o.got.isNone
            post := fun t => t.answer.status == r.status && decide ((t.init w).outs = []) && decide (t.flight = []) }]
        | none => [])
    | none => []
  | _ => []

end Sys2Proof.Claims

/-- R13, R14, R18: a write at the address of a register writes its writable bits, clears its write-one-to-clear bits
that are written as 1 and leaves the rest; a read answers its value and clears its clear-on-read bits unless it is
quiet. R310, R317, R308, R321, R326 to R329, R331: a request goes out with a free tag, or is answered DECODE where nothing
lies at its address and ROUTE where no exit leads there; a read and a write reach their memory and are answered, and the answer
waits while its router has no room for it (R316); an atomic waits at its bank; R281, R287: a fabric port takes a request, in
mode 3 by way of its queue, as far as there is room; a response is delivered, or flagged as late when nothing waits for it; a
timeout ends its request and moves the generation of its tag on, unless the response lies there in that cycle (R327). The choice
is the model's where log entries 24, 25, 26, 33, 34, 35, 36, 37, 74 and 75 say so. -/
def Obligations.RegistersAndNetwork : Prop :=
  ∀ (s : State) (i : Instr), ∀ r ∈ registerRows s i ++ networkRows s i, Does s i r

namespace Sys2Proof.Claims

/-- The clocks and the network of a die run (R596, R602, R614). -/
def linkUp (s : State) (d : Nat) : Bool :=
  s.domOn d 33 && s.hv .clkWait [] == 0 && s.bit .powerClkstat [] F.powerClkstat_REFSRC

/-- The registers in which the ports of a die, and the carriers that they choose, show a change of state (R358 to R370,
R377). -/
def linkAlso (d : Nat) (k : RKey) : Bool :=
  ([RegName.linkPortStatus, .linkPortFlags, .linkPortCnt, .linkPortErrs, .linkPortRxmap, .linkPortRxmapHi,
      .nocXportImpCs].contains k.n && k.ix.head? == some d) || (eventKeys d 164).contains k || decide (k.n = .photonLaser)

/-- With those of the clock supervisor (R603, R610). -/
def clockAlso (k : RKey) : Bool :=
  decide (k.n = .powerClkstat) || decide (k.n = .powerClkflags) || (eventKeys 0 500).contains k

/-- One field of the status of a port. -/
def portSet (d p : Nat) (f : Fld) (v : Nat) : RegName × List Nat × Fld × Nat := (.linkPortStatus, [d, p], f, v)

/-- A counter one higher, or at its largest value (R18). -/
def upOne (s : State) (n : RegName) (ix : List Nat) (f : Fld) : RegName × List Nat × Fld × Nat :=
  (n, ix, f, min (s.fld n ix f + 1) (2 ^ f.width - 1))

/-- A port that was Active enters Probe, and TRAIN counts it (R358, R363). -/
def retrains (s : State) (d p : Nat) : List (RegName × List Nat × Fld × Nat) :=
  [portSet d p F.linkPortStatus_STATE 1, upOne s .linkPortCnt [d, p] F.linkPortCnt_TRAIN]

/-- The width that two ports agree on: the least of the two directions and of their caps (R360). -/
def agreedWidth (p : Nat) (a b : TrainMsg) : Nat :=
  min (min (dirWidth p a.mapX) (dirWidth p b.mapX)) (4 - max a.capW b.capW)

/-- `ctl` is written with the DISABLE that it has and no other request. -/
def ctlKept (s : State) (d p : Nat) (v : W64) : Bool :=
  !s.bit .linkPortCtl [d, p] F.linkPortCtl_DISABLE && F.linkPortCtl_DISABLE.get v == 0

/-- The command leaves everything as it is. -/
def idleRow (s : State) (pre : Bool) : Row := { pre := pre, post := fun t => decide (t = s) }

/-- A message that a port of a link does not receive, or finds invalid, changes nothing (R358). -/
def unheard (s : State) (d p type : Nat) (noise : BitVec 256) : Row :=
  idleRow s (linkUp s d && (trainIn s d p type noise).isNone)

/-- A training message at an Active port moves it to Probe (R363). -/
def wokenRow (s : State) (d p : Nat) (pre : Bool) : Row :=
  { pre := linkUp s d && lstate s d p == 5 && pre, sets := retrains s d p, also := linkAlso d }

/-- Training and the choice of a carrier (R358 to R368). -/
def trainingRows (s : State) : Instr → List Row
  | .probeWindowEnd d p lanes hi =>
    let x := s.link d p
    let light := F.photonInpwr_LINE_OK.get (s.reg .photonInpwr [s.fld .photonLaser [] F.photonLaser_ACT])
    let rings := s.fld .linkPortRings [d, p] F.linkPortRings_RX_LOCK &&&
      s.fld .linkPortRings [partnerOf d p, p] F.linkPortRings_TX_LOCK &&& light
    [{ pre := linkUp s d && lstate s d p == 1 && probeOver s d p
       sets := [portSet d p F.linkPortStatus_STATE 2]
       also := linkAlso d
       post := fun t =>
         (if 8 ≤ p.val then t.reg .linkPortRxmap [d, p] == lanes &&& BitVec.ofNat 64 rings
          else t.reg .linkPortRxmap [d, p] == lanes && t.reg .linkPortRxmapHi [d, p] == hi.setWidth 64) &&
         (x.hold || x.propose.isSome || match (t.link d p).propose with
           | some m => m.mapX == rxMap t d p && m.epoch == s.fld .linkPortStatus [d, p] F.linkPortStatus_EPOCH &&
               m.nextSeq == x.rxSeq
           | none => false) },
     idleRow s (linkUp s d && lstate s d p == 1 && !probeOver s d p)]
  | .propose d ⟨p, noise⟩ =>
    unheard s d p 1 noise ::
    match trainIn s d p 1 noise with
    | some m =>
      let mine := (s.link d p).propose.getD (proposeMsg s d p)
      let n := agreedWidth p mine m
      let ok := decide (0 < n) && decide (4 - n ≤ min mine.floorW m.floorW)
      [{ pre := linkUp s d && lstate s d p == 2 && ok && decide (max mine.epoch m.epoch + 1 < 2 ^ 32)
         sets := [portSet d p F.linkPortStatus_STATE 3]
         also := linkAlso d
         post := fun t => match (t.link d p).confirm with
           | some c => c.w == 4 - n && c.epoch == max mine.epoch m.epoch + 1 && c.mapX == mine.mapX && c.mapY == m.mapX &&
               !(t.link d p).fails
           | none => false },
       { pre := linkUp s d && lstate s d p == 2 && !ok
         sets := [portSet d p F.linkPortStatus_STATE 3]
         also := linkAlso d
         post := fun t => (t.link d p).fails && (t.link d p).confirm.isNone },
       { pre := linkUp s d && (lstate s d p == 3 || lstate s d p == 4)
         sets := [portSet d p F.linkPortStatus_STATE 2]
         also := linkAlso d
         post := fun t => (t.link d p).confirm.isNone && match (t.link d p).propose with
           | some m => m.epoch == s.fld .linkPortStatus [d, p] F.linkPortStatus_EPOCH
           | none => false },
       wokenRow s d p true]
    | none => []
  | .confirm d ⟨p, noise⟩ =>
    unheard s d p 2 noise ::
    match trainIn s d p 2 noise, (s.link d p).confirm with
    | some m, some c =>
      let same := m.epoch == c.epoch && m.w == c.w && m.mapX == c.mapY && m.mapY == c.mapX
      [{ pre := linkUp s d && lstate s d p == 3 && same && decide (c.epoch < 2 ^ 32) && decide (c.w < 4)
         sets := [portSet d p F.linkPortStatus_STATE 4, portSet d p F.linkPortStatus_EPOCH c.epoch,
           portSet d p F.linkPortStatus_W c.w]
         also := linkAlso d
         post := fun t => decide ((t.link d p).commit = some c) && t.hv .planeNext [d, p] == c.w + 1 },
       { pre := linkUp s d && lstate s d p == 3 && !same
         sets := [portSet d p F.linkPortStatus_STATE 1]
         also := linkAlso d },
       wokenRow s d p true]
    | some _, none => [wokenRow s d p true]
    | _, _ => []
  | .commit d ⟨p, noise⟩ =>
    let x := s.link d p
    unheard s d p 3 noise ::
    match trainIn s d p 3 noise, x.propose, x.theirs, x.confirm with
    | some k, some mine, some m, some c =>
      let on : Bool := linkUp s d && lstate s d p == 4 && k.epoch == c.epoch && k.w == c.w
      [{ pre := on
         sets := [portSet d p F.linkPortStatus_STATE 5, portSet d p F.linkPortStatus_NOSTATE 0]
         also := fun k => linkAlso d k || clockAlso k
         post := fun t =>
           if mine.noState || m.noState then
             (t.link d p).txSeq == 0 && (t.link d p).rxSeq == 0 && decide ((t.link d p).retry = []) &&
               decide ((t.link d p).rxq = [])
           else (t.link d p).retry == ackTo x.retry m.nextSeq && (t.link d p).resend == (t.link d p).retry.length &&
             (t.link d p).txSeq == x.txSeq },
       { pre := on && !x.left
         sets := [portSet d p F.linkPortStatus_CARRIER p]
         also := fun k => linkAlso d k || clockAlso k },
       idleRow s (linkUp s d && lstate s d p == 4 && !(k.epoch == c.epoch && k.w == c.w))]
    | some k, none, none, none => [{
        pre := linkUp s d && lstate s d p == 5 && k.epoch != s.fld .linkPortStatus [d, p] F.linkPortStatus_EPOCH
        sets := retrains s d p, also := linkAlso d }]
    | _, _, _, _ => []
  | .trainingTimeout d p =>
    let x := s.link d p
    let st := lstate s d p
    let due := passed s x.since (if st = 2 then 50 else if st = 3 ∧ x.fails = true then 100 else 10)
    [{ pre := linkUp s d && decide (2 ≤ st) && decide (st ≤ 4) && due
       sets := [portSet d p F.linkPortStatus_STATE 1]
       also := linkAlso d },
     idleRow s (linkUp s d && !due)]
  | .deadline d p =>
    let x := s.link d p
    let due := inTraining s d p && x.dead != 0 && passed s (x.dead - 1) 2000
    [{ pre := linkUp s d && due
       sets := [(.linkPortFlags, [d, p], F.linkPortFlags_TFAIL, 1)]
       events := [(d, 164)]
       also := fun k => linkAlso d k || clockAlso k
       post := fun t => (t.link d p).late && lstate t d p == lstate s d p },
     idleRow s (linkUp s d && !due)]
  | .lossOfSignal d p lane => [wokenRow s d p (laneInUse s d p lane)]
  | .noGoodFrame d p => [wokenRow s d p (passed s (s.link d p).goodAt 1)]
  | .prbs31Received d p => [wokenRow s d p (lstate s (partnerOf d p) p == 1),
      { pre := linkUp s d && lstate s (partnerOf d p) p == 1 && lstate s d p == 2 && (s.link d p).propose.isNone
        post := fun t => decide ((t.link d p).propose = some (proposeMsg s d p)) && !(t.link d p).hold }]
  | .linkRetrain _ d p v => [{
      pre := lstate s d p == 5 && ctlKept s d p v && F.linkPortCtl_RETURN.get v == 0
      sets := retrains s d p, also := fun k => linkAlso d k || decide (k = ⟨.linkPortCtl, [d, p]⟩) }]
  | .disable _ d p v =>
    let was := s.bit .linkPortCtl [d, p] F.linkPortCtl_DISABLE
    let quiet := F.linkPortCtl_RETRAIN.get v == 0 && F.linkPortCtl_RETURN.get v == 0
    let also : RKey → Bool := fun k => linkAlso d k || decide (k = ⟨.linkPortCtl, [d, p]⟩)
    let to_ (st v : Nat) : List (RegName × List Nat × Fld × Nat) :=
      [portSet d p F.linkPortStatus_STATE st, (.linkPortCtl, [d, p], F.linkPortCtl_DISABLE, v)]
    [{ pre := !was && quiet && F.linkPortCtl_DISABLE.get v == 1, sets := to_ 6 1, also := also },
     { pre := was && quiet && F.linkPortCtl_DISABLE.get v == 0 && lstate s d p == 6 && portPowered s d p
       sets := to_ 1 0, also := also },
     { pre := was && quiet && F.linkPortCtl_DISABLE.get v == 0 && lstate s d p == 6 && !portPowered s d p
       sets := to_ 0 0, also := also }]
  | .carrierReturn _ d p v => [{
      pre := lstate s d p == 5 && ctlKept s d p v && F.linkPortCtl_RETRAIN.get v == 0 && carrierOf s d p != p
      sets := [portSet d p F.linkPortStatus_CARRIER p, (.linkPortFlags, [d, p], F.linkPortFlags_RETURNED, 1)]
      events := [(d, 164)]
      also := fun k => linkAlso d k || decide (k = ⟨.linkPortCtl, [d, p]⟩) }]
  | .holdExpiry d p =>
    let h := s.fld .linkPortCtl [d, p] F.linkPortCtl_HOLD_EXP
    let due := lstate s d p == 5 && h != 0 && passed s (s.link d p).commitAt (2 ^ min h 30)
    [{ pre := linkUp s d && due, sets := [portSet d p F.linkPortStatus_CARRIER p], also := linkAlso d },
     idleRow s (linkUp s d && !due)]
  | .carrierSwitch d p =>
    let x := s.link d p
    let c := carrierOf s d p
    let v := viaOf s d p
    let due := c != 15 && v != c && x.out.all (fun f => f.at_ != v) &&
      (lstate s d v != 5 || decide (x.drainAt + crossX v ≤ now s))
    [{ pre := linkUp s d && due, post := fun t => viaOf t d p == c }, idleRow s (linkUp s d && !due)]
  | _ => []

/-- A heartbeat that agrees with the port's own state (R350). -/
def beatAgrees (s : State) (d p h : Nat) : Bool :=
  h / 2 ^ 16 % 2 ^ 32 == s.fld .linkPortStatus [d, p] F.linkPortStatus_EPOCH &&
    h / 2 ^ 48 % 4 == s.fld .linkPortStatus [d, p] F.linkPortStatus_W &&
    h / 2 ^ 50 % 16 == s.fld .linkPortStatus [d, p] F.linkPortStatus_GRP_RX &&
    h / 2 ^ 54 % 16 == s.fld .linkPortStatus [d, p] F.linkPortStatus_GRP_TX

/-- Frames, retry, heartbeats and the hand-over (R347 to R357). -/
def frameRows (s : State) : Instr → List Row
  | .sequencedFrame d p send crd noise =>
    let e := partnerOf d p
    let x := s.link d p
    let sent (t : State) (q flit : Nat) (head : Bool) : Bool :=
      (t.link d p).txSeq == (x.txSeq + 1) % 256 && match (t.link d p).retry.reverse with
        | f :: r => decide (r.reverse = x.retry) && f.seq == x.txSeq && f.q == q && f.flit == flit && f.head == head
        | [] => false
    let on : Bool := linkUp s d && lstate s d p == 5 && decide (s.netFlaws = [])
    let tells : Bool := x.beat || (decide (crd.val < 12) && x.earned.get 0 crd != 0)
    (match send with
      | .control => [{
          pre := on && x.resend == 0 && !x.nakDue && controlDue x && tells
          also := linkAlso e
          post := fun t => sent t 12 (if x.beat then heartbeatFlit s d p else 0) false && !(t.link d p).beat },
        idleRow s (on && !tells)]
      | .slot side =>
        let s1 := match side with | some f => sideReady d p f s | none => s
        (match slotFlit s1 d p with
        | some (j, f) => [{
            pre := on && decide (x.retry.length < 255) && decide (f.q < 12) && s.hv .portSent [d, p] != now s + 1
            also := linkAlso e
            post := fun t => sent t f.q f.flit f.head && (t.link d p).credits.get 0 f.q == x.credits.get 0 f.q + 1 &&
              (if 8 ≤ f.q then decide (t.sides.get [] (d.val, e) = (s1.sides.get [] (d.val, e)).erase f)
               else decide ((t.link d j).out = (s.link d j).out.erase f)) }]
        | none => [])
      | .resend => [{
          pre := on && decide (0 < x.resend) && decide (x.resend ≤ x.retry.length)
          also := linkAlso e
          post := fun t => (t.link d p).resend == x.resend - 1 && (t.link d p).txSeq == x.txSeq &&
            decide ((t.link d p).retry.map (fun f => { f with last := 0 }) = x.retry.map (fun f => { f with last := 0 })) }]
      | .null => [{
          pre := on && x.resend == 0 && !x.nakDue && !controlDue x
          also := linkAlso e
          post := fun t => decide (t.link d p = x) }]) ++
    (match sendFrame d p send crd s with
      | (some f, t0) =>
        let b := frameBits f (ackOf (t0.link d p)) ^^^ noiseBits t0 d p noise
        let y := s.link e p
        let on : Bool := on && lstate s e p == 5
        let seqd : Bool := on && f.q != 13
        let kept (t : State) : Bool := (t.link e p).rxSeq == y.rxSeq && decide ((t.link e p).rxq = y.rxq)
        [{ pre := seqd && frameGood b && frameFld b 536 8 == y.rxSeq
           post := fun t => (t.link e p).rxSeq == (y.rxSeq + 1) % 256 && !(t.link e p).nak && (t.link e p).badRun == 0 &&
             (t.link e p).rxq.length == y.rxq.length + (if frameFld b 524 4 < 12 then 1 else 0) },
         { pre := seqd && !frameGood b && decide (y.badRun < 63) && decide (y.sameRun < 3)
           sets := [upOne s .linkPortErrs [e, p] F.linkPortErrs_CRC]
           post := fun t => kept t && (t.link e p).nak && (t.link e p).badRun == y.badRun + 1 },
         { pre := seqd && frameGood b && frameFld b 536 8 != y.rxSeq && decide (y.badRun < 63) && decide (y.sameRun < 4)
           post := fun t => kept t && (t.link e p).nak && (t.link e p).badRun == y.badRun + 1 },
         { pre := seqd && !frameGood b && decide (63 ≤ y.badRun)
           sets := upOne s .linkPortErrs [e, p] F.linkPortErrs_CRC :: retrains s e p
           also := linkAlso e },
         { pre := on && f.q == 13 && frameGood b, post := fun t => kept t && (t.link e p).badRun == 0 }]
      | (none, _) => [])
  | .nak d p noise =>
    let e := partnerOf d p
    let x := s.link d p
    let y := s.link e p
    let b := frameBits (looseFrame y 14 y.rxSeq p) (ackOf y) ^^^ noiseBits s e p noise
    let on : Bool := linkUp s d && lstate s d p == 5 && lstate s e p == 5 && y.nakDue && y.resend == 0
    [{ pre := on && frameGood b
       sets := [upOne s .linkPortErrs [d, p] F.linkPortErrs_RETRY]
       post := fun t => !(t.link e p).nakDue && (t.link d p).badRun == 0 &&
         (t.link d p).resend == (ackTo (t.link d p).retry (frameFld b 0 8)).length },
     { pre := on && !frameGood b && decide (x.badRun < 63) && decide (x.sameRun < 4)
       sets := [upOne s .linkPortErrs [d, p] F.linkPortErrs_CRC]
       post := fun t => !(t.link e p).nakDue && (t.link d p).badRun == x.badRun + 1 && decide ((t.link d p).retry = x.retry) }]
  | .retryTimeout d p =>
    let x := s.link d p
    let due := lstate s d p == 5 && x.resend == 0 && match x.retry with
      | f :: _ => decide (f.last + 256 ≤ now s)
      | [] => false
    [{ pre := linkUp s d && due
       sets := [upOne s .linkPortErrs [d, p] F.linkPortErrs_RETRY]
       post := fun t => (t.link d p).resend == x.retry.length && decide ((t.link d p).retry = x.retry) },
     idleRow s (linkUp s d && !due)]
  | .heartbeatSend d p =>
    let due := lstate s d p == 5 && passed s (s.link d p).beatAt 1
    [{ pre := linkUp s d && due, post := fun t => (t.link d p).beat && (t.link d p).beatAt == now s },
     idleRow s (linkUp s d && !due)]
  | .heartbeat d p => match (s.link d p).heard with
    | some h =>
      let mine := s.fld .linkPortStatus [d, p] F.linkPortStatus_EPOCH
      [{ pre := linkUp s d && lstate s d p == 5 && beatAgrees s d p h
         post := fun t => (t.link d p).heard.isNone },
       { pre := linkUp s d && lstate s d p == 5 && !beatAgrees s d p h && decide (h / 2 ^ 16 % 2 ^ 32 < mine)
         sets := [(.linkPortFlags, [d, p], F.linkPortFlags_EPOCH_MIS, 1)]
         events := [(d, 164)]
         post := fun t => (t.link d p).hold && lstate t d p == 5 },
       { pre := linkUp s d && lstate s d p == 5 && !beatAgrees s d p h && decide (mine ≤ h / 2 ^ 16 % 2 ^ 32)
         sets := (.linkPortFlags, [d.val, p.val], F.linkPortFlags_EPOCH_MIS, 1) :: retrains s d p
         events := [(d, 164)]
         also := linkAlso d }]
    | none => []
  | .frameHandover d p net k =>
    let x := s.link d p
    let q := 4 * net.val + k.val
    match x.rxq.find? (fun f => f.q == q) with
    | some f =>
      let n := now s
      let due := decide (f.first + crossX p ≤ n) && decide (x.handAt.get 0 q ≤ n)
      let late := decide (f.first + crossX p < n)
      let lateSets : List (RegName × List Nat × Fld × Nat) :=
        if late then [(.linkPortFlags, [d.val, p.val], F.linkPortFlags_LATE, 1), upOne s .linkPortCnt [d, p]
          F.linkPortCnt_LATE] else []
      let taken (t : State) : Bool := decide ((t.link d p).rxq = x.rxq.erase f) && (t.link d p).handAt.get 0 q == n + 1
      idleRow s (linkUp s d && !due) ::
      { pre := linkUp s d && due && decide (8 ≤ q)
        sets := lateSets
        events := if late then [(d, 164)] else []
        post := fun t => taken t && (t.link d p).earned.get 0 q == x.earned.get 0 q + 1 } ::
      (match s.flight with
        | [.req r tag gen dst xp h] => [{
            pre := linkUp s d && due && decide (q < 8) && f.head && decide (x.part.get [] q = []) &&
              f.flit % 2 ^ 128 == h && decide (flitCount (headerPayload h) ≤ 1) && xp == f.pid &&
              epDie (hdrSrc h) == partnerOf d p
            sets := lateSets
            events := if late then [(d, 164)] else []
            post := fun t => taken t && decide (t.flight = [.req r tag gen dst 15 h]) &&
              decide ((t.link d p).enter.get [] q = x.enter.get [] q ++ meshFlits h [f.flit]) }]
        | _ => [])
    | none => []
  | _ => []

/-- The registers of the optical path, and those of every port. -/
def opticalAlso (k : RKey) : Bool :=
  (List.range 4).any (linkAlso · k) || (eventKeys 0 496).contains k ||
    [RegName.photonLaser, .photonLflags, .photonInpwr, .linkPortRings].contains k.n

/-- Bit k of the lock bits of one direction; the others keep their values. -/
def ringIs (s t : State) (d p : Nat) (rx : Bool) (k : Nat) (on : Bool) : Bool :=
  (List.range 18).all fun j => (t.fld .linkPortRings [d, p] (ringFld rx)).testBit j ==
    (if j = k then on else (s.fld .linkPortRings [d, p] (ringFld rx)).testBit j)

/-- Every optical port that was Active has entered Probe (R375). -/
def opticsRetrain (s t : State) : Bool :=
  (List.range 4).all fun d => [8, 9, 10, 11].all fun p => lstate s d p != 5 || lstate t d p == 1

/-- The rings, the lines and the inputs of the laser (R372 to R377). -/
def opticalRows (s : State) : Instr → List Row
  | .ringLock d p rx k => [{
      pre := linkUp s d && decide (8 ≤ p.val) && lineLit s k
      also := fun r => decide (r = ⟨.linkPortRings, [d, p]⟩)
      post := fun t => ringIs s t d p rx k true }]
  | .ringRetry d p rx k ok => [{
      pre := linkUp s d && decide (8 ≤ p.val) && lineLit s k && ok
      also := fun r => decide (r = ⟨.linkPortRings, [d, p]⟩)
      post := fun t => ringIs s t d p rx k true }]
  | .ringLossOfLock d p rx k =>
    let had := decide (8 ≤ p.val) && (s.fld .linkPortRings [d, p] (ringFld rx)).testBit k
    let used := laneInUse s (if rx then d.val else partnerOf d p) p k
    [{ pre := linkUp s d && had && !used
       also := fun r => decide (r = ⟨.linkPortRings, [d, p]⟩)
       post := fun t => ringIs s t d p rx k false },
     { pre := linkUp s d && had && used && lstate s d p == 5
       sets := retrains s d p
       also := fun r => linkAlso d r || decide (r = ⟨.linkPortRings, [d, p]⟩)
       post := fun t => ringIs s t d p rx k false }]
  | .lineLoss b k =>
    let i := b.toNat
    let act := s.fld .photonLaser [] F.photonLaser_ACT
    let lit := (F.photonInpwr_LINE_OK.get (s.reg .photonInpwr [i])).testBit k
    let okF := if b then F.photonLaser_B_OK else F.photonLaser_A_OK
    let down : List (RegName × List Nat × Fld × Nat) :=
      [(.photonLaser, [], okF, 0), (.photonLflags, [], if b then F.photonLflags_B_LOS else F.photonLflags_A_LOS, 1)]
    let dark (t : State) : Bool := !(F.photonInpwr_LINE_OK.get (t.reg .photonInpwr [i])).testBit k
    let auto := s.bit .photonLaser [] F.photonLaser_AUTO && inputOk s (1 - i)
    [idleRow s (!lit),
     { pre := lit && !inputOk s i && i != act, sets := [(.photonLaser, [], okF, 0)], also := opticalAlso, post := dark },
     { pre := lit && !inputOk s i && i == act
       sets := [(.photonLaser, [], okF, 0), (.photonLflags, [], F.photonLflags_LINE, 1)]
       events := [(0, 496)], also := opticalAlso, post := fun t => dark t && opticsRetrain s t },
     { pre := lit && inputOk s i && i != act, sets := down, events := [(0, 496)], also := opticalAlso, post := dark },
     { pre := lit && inputOk s i && i == act && !auto
       sets := (.photonLflags, [], F.photonLflags_LINE, 1) :: down
       events := [(0, 496)], also := opticalAlso, post := fun t => dark t && opticsRetrain s t },
     { pre := lit && inputOk s i && i == act && auto
       sets := [(.photonLaser, [], okF, 0), (.photonLaser, [], F.photonLaser_ACT, 1 - i),
         (.photonLflags, [], F.photonLflags_SWITCHED, 1)]
       events := [(0, 496)], also := opticalAlso, post := fun t => dark t && opticsRetrain s t }]
  | .inputOk b power =>
    let i := b.toNat
    let act := s.fld .photonLaser [] F.photonLaser_ACT
    let up : List (RegName × List Nat × Fld × Nat) :=
      [(.photonLaser, [], if b then F.photonLaser_B_OK else F.photonLaser_A_OK, 1),
        (.photonInpwr, [i], F.photonInpwr_POWER, power.toNat), (.photonInpwr, [i], F.photonInpwr_LINE_OK, 2 ^ 18 - 1)]
    let takes := i != act && s.bit .photonLaser [] F.photonLaser_AUTO && !inputOk s act
    [{ pre := !takes, sets := (.photonLaser, [], F.photonLaser_ACT, act) :: up, also := opticalAlso },
     { pre := takes
       sets := [(.photonLaser, [], F.photonLaser_ACT, i), (.photonLflags, [], F.photonLflags_SWITCHED, 1)] ++ up
       events := [(0, 496)], also := opticalAlso, post := fun t => opticsRetrain s t }]
  | .laserSel _ v =>
    let sel := F.photonLaser_SEL.get v
    let act := s.fld .photonLaser [] F.photonLaser_ACT
    let set : List (RegName × List Nat × Fld × Nat) :=
      [(.photonLaser, [], F.photonLaser_SEL, sel), (.photonLaser, [], F.photonLaser_AUTO, F.photonLaser_AUTO.get v)]
    let go := inputOk s sel && sel != act
    [{ pre := go
       sets := [(.photonLaser, [], F.photonLaser_ACT, sel), (.photonLflags, [], F.photonLflags_SWITCHED, 1)] ++ set
       events := [(0, 496)], also := opticalAlso, post := fun t => opticsRetrain s t },
     { pre := !go, sets := (.photonLaser, [], F.photonLaser_ACT, act) :: set }]
  | _ => []

end Sys2Proof.Claims

/-- R358 to R368: a port goes from Probe through Propose, Confirm and Commit to Active with the width and the epoch that
both proposals give, falls back to Probe where they disagree, on a timeout and on each trigger of R363, is disabled and
enabled, and its traffic returns to it; a message that fails its check changes nothing, and so does a time that has not come.
The choice is the model's where log entries 23, 32, 75 and 79 say so. -/
def Obligations.LinkTraining : Prop := ∀ (s : State) (i : Instr), ∀ r ∈ trainingRows s i, Does s i r

/-- R347 to R357: a new frame enters the retry buffer with the next sequence number and takes a credit; the partner
accepts it in order, or discards it and asks for it again, and retrains at the 64th in succession; a null frame only
acknowledges; a NAK or a timeout resends; a heartbeat is compared; a frame is handed over X cycles after its slot, its
credit is earned, and a complete packet is across. R372 to R377: rings lock and lose lock, and a
lost line, a lit input or a write of SEL chooses the input that is lit. The choice is the model's where log entries 23
and 32 say so. -/
def Obligations.LinkFramesAndOptics : Prop :=
  ∀ (s : State) (i : Instr), ∀ r ∈ frameRows s i ++ opticalRows s i, Does s i r

namespace Sys2Proof.Claims

/-- The single entry of a controller's queue beside an idle fill engine, whose next command DRAM timing allows while no
refresh is due (R392, R394, R424, R433). -/
def soleEntry (s : State) (d k : Nat) (ok ref : List Nat) : Option DramEntry :=
  match (s.ddr d k).queue with
  | [e] => if ok.contains e.id && decide (ref = []) && decide ((s.ddr d k).clr = none) && !e.buf &&
      decide ((s.ddr d k).slots = []) && decide (e.id < (s.ddr d k).nextId) &&
      decide (debt s d k (lineRank (ddrTwoRanks s d k) e.line) < 8) && !slotWaits s d k e then some e else none
  | _ => none

/-- The DDR4 controllers and the cleanliness map (R392, R395, R424 to R427, R433, R435, R436). -/
def ddrRows (s : State) : Instr → List Row
  | .cmapClear _ d k v =>
    let first := F.integCmapClr_FIRST.get v
    let count := F.integCmapClr_COUNT.get v
    [{ pre := !s.bit .integCmapClr [d, k] F.integCmapClr_BUSY && count != 0 &&
         decide ((first + count) * 65536 ≤ ddrCap s d k)
       sets := [(.integCmapClr, [d, k], F.integCmapClr_BUSY, 1), (.integCmapClr, [d, k], F.integCmapClr_FIRST, first),
         (.integCmapClr, [d, k], F.integCmapClr_COUNT, count)]
       post := fun t => decide ((t.ddr d k).clr = some ((s.ddr d k).nextId, first, count)) }]
  | .cmapClearDone d k => match (s.ddr d k).clr with
    | some (n, first, count) => [{
        pre := decide ((s.ddr d k).queue = []) && decide ((s.ddr d k).lost = []) &&
          cleanBytes s (cmapBase d k + first / 8) 1 && cleanBytes s (cmapBase d k + (first + count) / 8) 1
        sets := [(.integCmapClr, [d, k], F.integCmapClr_BUSY, 0)]
        keepMem := false
        post := fun t => (t.ddr d k).clr.isNone
        tells := fun t => ∀ g, first ≤ g → g < first + count → mapBit t d k g = false ∧ slotOfGranule t d k g = none },
      idleRow s ((s.ddr d k).queue.any (fun e => decide (e.id < n)))]
    | none => []
  | .granuleFill d k g => match slotOfGranule s d k g with
    | some f => [{
        pre := ddrRuns s d k && decide ((s.ddr d k).queue = []) && cleanBytes s (cmapBase d k + g.val / 8) 1 &&
          !inMapLoss s d k g
        keepMem := false
        post := fun t => mapBit t d k g && (slotOfGranule t d k g).isNone
        tells := fun t => ∀ i b, i < 1024 → b < 64 →
          let a := dramBase d k + 64 * (g * 1024 + i) + b
          if f.done.testBit i then t.mem.read a = s.mem.read a else t.mem.read a = ⟨0, 0⟩ },
      idleRow s (!ddrRuns s d k || decide ((s.ddr d k).queue ≠ []))]
    | none => []
  | .init w d k _ ok =>
    let st := ddrState s d k
    let begun := st == 1 || st == 2
    let cfg := if begun then BitVec.ofNat 64 (s.hv .ddrCfg [d, k]) else s.reg .ddrCfg [d, k]
    let runs := begun || ((st == 0 || st == 4) && (writeGate w .ddrCtl [d, k] s).isNone)
    let good := ok && F.ddrCfg_DENS.get cfg != 3
    let trains := st == 1 && ok
    [{ pre := trains, sets := [(.ddrStatus, [d, k], F.ddrStatus_STATE, 2)] },
     { pre := runs && good && !trains
       sets := [(.ddrStatus, [d, k], F.ddrStatus_STATE, 3), (.ddrStatus, [d, k], F.ddrStatus_CAPG, capGib cfg)]
       post := fun t => begun || t.hv .ddrCfg [d, k] == cfg.toNat },
     { pre := runs && !good && !trains
       sets := [(.ddrStatus, [d, k], F.ddrStatus_STATE, 4), (.ddrEflags, [d, k], F.ddrEflags_TFAIL, 1)]
       events := [(d, 168 + k.val)] }]
  | .ddrRetrain _ d k v => [{
      pre := ddrState s d k == 3 && F.ddrCtl_INIT.get v == 0
      sets := [(.ddrCtl, [d, k], F.ddrCtl_RETRAIN, 1)]
      post := fun t => t.hv .centring [d, k] == if ddrTwoRanks s d k then 3 else 1 }]
  | .centringPass d k rank =>
    let is_ := rankExists s d k rank
    let on := is_ && ddrRuns s d k && s.hv .refNow [d, k, rank] == 1
    [{ pre := on && s.hv .centring [d, k] == 2 ^ rank.val
       sets := [(.ddrCtl, [d, k], F.ddrCtl_RETRAIN, 0)]
       post := fun t => t.hv .centring [d, k] == 0 },
     { pre := is_ && ddrReturns s d k && s.hv .centring [d, k] == 2 ^ rank.val
       sets := [(.ddrCtl, [d, k], F.ddrCtl_RETRAIN, 0), (.ddrStatus, [d, k], F.ddrStatus_STATE, 3)]
       post := fun t => t.hv .centring [d, k] == 0 },
     { pre := (on || (is_ && ddrReturns s d k)) && s.hv .centring [d, k] == 3
       post := fun t => t.hv .centring [d, k] == 3 - 2 ^ rank.val },
     idleRow s (!is_ || (ddrRuns s d k && (s.hv .refNow [d, k, rank] != 1 ||
       (s.hv .centring [d, k] == 0 && s.fld .ddrTrain [d, k] F.ddrTrain_INTERVAL == 0))))]
  | .zqCalibration _ _ _ => [{ post := fun t => decide (t = s) }]
  | .dramCommand d k ok ref =>
    { pre := ddrRuns s d k && ref.contains 0 && decide (8 ≤ debt s d k 0) && s.fld .ddrCfg [d, k] F.ddrCfg_FGR == 0 &&
        decide (s.hv .refPart [d, k, 0] < 4)
      also := fun r => decide (r = ⟨.ddrStatus, [d, k]⟩)
      post := fun t => decide (debt t d k 0 = debt s d k 0 - 1) && t.hv .refNow [d, k, 0] == 1 &&
        (t.ddr d k).queue.length == (s.ddr d k).queue.length } ::
    (match soleEntry s d k ok ref with
      | some e =>
        let two := ddrTwoRanks s d k
        [{ pre := ddrRuns s d k && (s.ddr d k).rows.get 0 (lineBank two e.line) == 0 &&
             (e.isWrite || !lineUnwritten s d k e.line)
           post := fun t => (t.ddr d k).rows.get 0 (lineBank two e.line) == lineRow two e.line + 1 &&
             decide ((t.ddr d k).queue = [{ e with age := e.age + 1 }]) }] ++
        (match (s.ddr d k).reqs with
          | [q] => [{
              pre := ddrRuns s d k && rowOpen (s.ddr d k) two e.line && q.rid == e.rid && q.left == 1 && q.status == OK &&
                q.bad == 0 && decide (q.req.op = .wr) && !q.req.lock && e.lo == 0 && e.len == 64 && e.bad == 0 &&
                decide (s.flight = []) && decide (s.replies = []) && meshRoom s (ddrEp d k) (4 + q.req.pri) 1 &&
                decide (exitPort s true (ddrEp d k) (epOf q.req.who) = some 15)
              keepMem := false
              keepUnits := false
              post := fun t => decide ((t.ddr d k).queue = []) && decide ((t.ddr d k).reqs = []) &&
                t.mem.readN (dramBase d k + 64 * e.line) 64 == e.data % 256 ^ 64 &&
                answered t q.req.who .wr q.tag q.gen OK q.data
              tells := fun t => SameOutside s t (dramBase d k + 64 * e.line) 64 ∧
                t.units = (lineWritten (s.ddr d k).resv (some q.req.who) e.line (q.req.addr + e.off) s).units }]
          | _ => [])
      | none => [])
  | .refreshInterval d k rank =>
    let go := ddrRuns s d k && (rank.val == 0 || ddrTwoRanks s d k)
    let v := debt s d k rank
    [{ pre := go && decide (v + 1 ≠ 8) && decide (v < 15)
       also := fun r => decide (r = ⟨.ddrStatus, [d, k]⟩)
       post := fun t => decide (debt t d k rank = v + 1) },
     { pre := go && decide (v + 1 = 8)
       sets := [(.ddrEflags, [d, k], F.ddrEflags_EMERG, 1)]
       events := [(d, 168 + k.val)]
       also := fun r => decide (r = ⟨.ddrStatus, [d, k]⟩)
       post := fun t => decide (debt t d k rank = 8) }]
  | .prechargePowerDown d k rank =>
    let may := ddrRuns s d k && rankExists s d k rank && rankEmpty s d k rank && decide (debt s d k rank ≤ 0) &&
      decide (256 ≤ s.hv .rankIdle [d, k, rank])
    [{ pre := may, post := fun t => t.hv .powerDown [d, k, rank] == 1 }, idleRow s (!may)]
  | .panic d g j on => [{
      pre := galleyRuns s d g
      post := fun t => t.hv .panic [d, g, j] == on.toNat &&
        (!on || !s.bit .galleyFportCfg (liveIx [d, g, j]) F.galleyFportCfg_RT ||
          (List.range 4).all fun e => (List.range 2).all fun c => (t.ddr e c).queue.all fun q =>
            q.cls == 3 || !(t.ddr e c).reqs.any fun r => r.rid == q.rid && decide (r.req.who = .fport d g j)) }]
  | _ => []

/-- Scrub passes and the patrol (R397 to R403). -/
def scrubRows (s : State) : Instr → List Row
  | .scrubStart _ d _ =>
    let base := 64 * s.fld .integScrubBase [d] F.integScrubBase_BASE
    let last := 64 * s.fld .integScrubEnd [d] F.integScrubEnd_END
    let ok := !scrubBusy s d && decide (base < last) && scrubRange d base last
    [{ pre := ok
       sets := [(.integScrubStatus, [d], F.integScrubStatus_BUSY, 1), (.integScrubStatus, [d], F.integScrubStatus_PASS,
         (s.fld .integScrubStatus [d] F.integScrubStatus_PASS + 1) % 2 ^ 16)]
       also := fun r => decide (r = ⟨.integScrubCtl, [d]⟩)
       post := fun t => (t.scrub d).next == base && (t.scrub d).last == last && (t.scrub d).lines == 0 },
     { pre := !ok
       sets := [(.integScrubStatus, [d], F.integScrubStatus_REFUSED, 1)]
       also := fun r => decide (r = ⟨.integScrubCtl, [d]⟩)
       post := fun t => scrubBusy t d == scrubBusy s d }]
  | .scrubStop _ d v => [{
      pre := scrubBusy s d && F.integScrubCtl_START.get v == 0
      sets := [(.integScrubCtl, [d], F.integScrubCtl_STOP, 1)] }]
  | .scrubRead d =>
    let x := s.scrub d
    [{ pre := scrubDue s d && scrubBusy s d && !s.bit .integScrubCtl [d] F.integScrubCtl_STOP && decide (x.next < x.last) &&
         x.next % 64 == 0 && decide ((s.init (.scrub d)).accs.length < 16) && s.runs d 33
       post := fun t => (t.scrub d).next == x.next + 64 && (t.scrub d).readAt == s.hv .nocCycle [] + 1 && match (t.init (.scrub d)).queue.reverse with
         | r :: l => decide (l.reverse = (s.init (.scrub d)).queue) && decide (r.op = .rd) && r.addr == x.next &&
             r.len == 64 && r.pri == 0
         | [] => false }]
  | .scrubPassEnd d us =>
    let x := s.scrub d
    let stop := s.bit .integScrubCtl [d] F.integScrubCtl_STOP
    let cut := stop && decide (x.next < x.last)
    [{ pre := scrubBusy s d && (decide (x.last ≤ x.next) || stop) && decide ((s.init (.scrub d)).accs = []) &&
         x.sheet % 64 == 0
       sets := [(.integScrubStatus, [d], F.integScrubStatus_BUSY, 0), (.integScrubCtl, [d], F.integScrubCtl_STOP, 0),
         (.integScrubStatus, [d], if cut then F.integScrubStatus_ABORTED else F.integScrubStatus_DONE, 1)]
       events := [(d, 167)]
       post := fun t => match (t.init (.scrub d)).queue.reverse with
         | r :: l => decide (l.reverse = (s.init (.scrub d)).queue) && decide (r.op = .wr) && r.addr == x.sheet &&
             r.len == 64 && r.data == proofSheet x us.toNat (s.fld .integScrubStatus [d] F.integScrubStatus_PASS) d cut %
               256 ^ 64
         | [] => false }]
  | .patrolRead d =>
    let x := s.unit (.core d)
    let lines := x.dlines.map (fun e => (false, e.1)) ++ x.ilines.map (fun l => (true, l))
    let i := s.hv .patrol [d] % (8192 + lines.length)
    let a := sramBase d + 64 * i
    { pre := s.runs d 32 && decide (i < 8192) && s.mem.badN a 64 == 0
      also := fun r => decide (r = ⟨.integEcnt, [d]⟩) || decide (r = ⟨.integEflags, [d]⟩) || (eventKeys d 165).contains r
      keepMem := false
      post := fun t => t.hv .patrol [d] == i + 1 && t.mem.readN a 64 == s.mem.readN a 64 && t.mem.corrN a 64 == 0 &&
        t.fld .integEcnt [d] F.integEcnt_CE == (if s.mem.corrN a 64 = 0 then s.fld .integEcnt [d] F.integEcnt_CE
          else min (s.fld .integEcnt [d] F.integEcnt_CE + 1) (2 ^ F.integEcnt_CE.width - 1))
      tells := fun t => SameOutside s t a 64 } ::
    (match lines[i - 8192]? with
      | some (ic, l) => [{
          pre := s.runs d 32 && decide (8192 ≤ i) && x.cacheBits ic (64 * l) 64 1 == 0 && x.cacheBits ic (64 * l) 64 2 == 0
          post := fun t => t.hv .patrol [d] == i + 1 }]
      | none => [])
  | _ => []

end Sys2Proof.Claims

/-- R392, R395, R424 to R427, R433, R435, R436: a clear is accepted and leaves its granules unwritten, a fill of a channel
with an empty queue writes zero where nothing was written, power-up and training go to Ready or Failed, a centring pass runs
directly after a refresh or brings a controller back from self-refresh (R434), an overdue refresh goes first, a lone line is
activated and then performed, refresh intervals are owed, and an idle rank powers down. R397 to R403: a scrub pass starts or
is refused, reads line by line, ends with its proof sheet, and the patrol corrects what it reads of the SRAM and counts it.
The choice is the model's where log entry 31 says so. -/
def Obligations.MemoryControllersAndScrub : Prop :=
  ∀ (s : State) (i : Instr), ∀ r ∈ ddrRows s i ++ scrubRows s i, Does s i r

namespace Sys2Proof.Claims

/-- The registers of the lanes and PLLs of a group, and the lane event (R460). -/
def groupAlso (d j : Nat) (k : RKey) : Bool :=
  ([RegName.lgrpPll, .lgrpLaneCfg, .lgrpLaneStatus, .lgrpLaneFlags, .lgrpLanePat, .lgrpLaneHist].contains k.n &&
    k.ix.take 2 == [d, j]) || (eventKeys d 170).contains k

/-- The registers of the Ethernet ports of a die, and their events (R462, R471). -/
def ethAlso (d : Nat) (k : RKey) : Bool :=
  ([RegName.ethPortStatus, .ethPortTsadj].contains k.n && k.ix.head? == some d) ||
    (List.range 4).any (fun m => (eventKeys d (171 + m)).contains k)

/-- The registers in which the owners of the lanes of a group show that a lane is theirs, or lost to them (R454, R458, R462). -/
def ownersAlso (d j : Nat) (k : RKey) : Bool :=
  ethAlso d k || decide (k = ⟨.pcieStatus, [d]⟩) || (eventKeys d 175).contains k ||
    (k.n == .lgrpJesdStatus && k.ix.take 2 == [d, j]) || (eventKeys d (176 + j)).contains k

/-- A set of one flag of a lane. -/
def laneSet (d j i : Nat) (f : Fld) : RegName × List Nat × Fld × Nat := (.lgrpLaneFlags, [d, j, i], f, 1)

/-- A count higher by n, or at its largest value (R18, R456). -/
def upBy (s : State) (r : RegName) (ix : List Nat) (f : Fld) (n : Nat) : RegName × List Nat × Fld × Nat :=
  (r, ix, f, min (s.fld r ix f + n) (2 ^ f.width - 1))

/-- Serial lanes (R440, R443, R446, R450 to R460). -/
def laneRows (s : State) : Instr → List Row
  | .lanePllLock d j a => [{
      pre := pllMayLock s d j a && s.runs d (35 + j.val)
      sets := [(.lgrpPll, [d, j, a], F.lgrpPll_LOCK, 1)], also := groupAlso d j }]
  | .lanePllLossOfLock d j a => [{
      pre := s.bit .lgrpPll [d, j, a] F.lgrpPll_LOCK
      sets := [(.lgrpPll, [d, j, a], F.lgrpPll_LOCK, 0), (.lgrpPll, [d, j, a], F.lgrpPll_LOL, 1)]
      events := [(d, 170)]
      also := groupAlso d j
      post := fun t => (List.range 8).all fun i => s.fld .lgrpLaneCfg [d, j, i] F.lgrpLaneCfg_TXPLL != a.val ||
        laneFar s d j i ||
        (t.fld .lgrpLaneStatus [d, j, i] F.lgrpLaneStatus_SIGDET == 0 &&
          t.fld .lgrpLaneStatus [d, j, i] F.lgrpLaneStatus_CDRLOCK == 0) }]
  | .ownerChange _ d j i v => [{
      pre := F.lgrpLaneCfg_OWNER.get v != s.fld .lgrpLaneCfg [d, j, i] F.lgrpLaneCfg_OWNER
      sets := ([F.lgrpLaneCfg_OWNER, F.lgrpLaneCfg_TXEN, F.lgrpLaneCfg_RXEN, F.lgrpLaneCfg_MODE, F.lgrpLaneCfg_TXPLL,
          F.lgrpLaneCfg_DIV].map fun f => (.lgrpLaneCfg, [d.val, j.val, i.val], f, f.get v)) ++
        [(.lgrpLanePat, [d.val, j.val, i.val], F.lgrpLanePat_CHKLOCK, 0),
          (.lgrpLaneHist, [d.val, j.val, i.val], F.lgrpLaneHist_RUN, 0),
          (.lgrpLaneStatus, [d.val, j.val, i.val], F.lgrpLaneStatus_ADAPTED, 0)]
      also := fun k => groupAlso d j k || ownersAlso d j k || decide (k = ⟨.lgrpLaneRxeq, [d, j, i]⟩)
      post := fun t => (t.lane d j i).settling && (t.lane d j i).tx == [] && (t.lane d j i).txSym == 0 &&
        (t.lane d j i).rxSym == 0 && txIdle t d j i && F.lgrpLaneRxeq_TAP.get (rxeqView t d j i) == 0 &&
        [F.lgrpLaneRxeq_CTLE, F.lgrpLaneRxeq_DFE].all fun f => t.fld .lgrpLaneRxeq [d, j, i] f ==
          if s.fld .lgrpLaneRxeq [d, j, i] F.lgrpLaneRxeq_ADAPT = 0 then s.fld .lgrpLaneRxeq [d, j, i] f else 0 }]
  | .ownerSettle d j i => [{
      post := fun t => decide (t.lane d j i = { s.lane d j i with settling := false }) }]
  | .txeq _ d j i v =>
    let free := !tapsTrained s d j i
    [{ pre := free && tapsFit v
       sets := [F.lgrpLaneTxeq_PRE3, F.lgrpLaneTxeq_PRE2, F.lgrpLaneTxeq_PRE1, F.lgrpLaneTxeq_MAIN, F.lgrpLaneTxeq_POST1,
         F.lgrpLaneTxeq_AMP].map fun f => (.lgrpLaneTxeq, [d.val, j.val, i.val], f, f.get v) },
     { pre := free && !tapsFit v, sets := [laneSet d j i F.lgrpLaneFlags_TXEQ_ERR], events := [(d, 170)] },
     { pre := !free }]
  | .cdrLock d j i => [{
      pre := !laneIdle s d j i && s.bit .lgrpLaneCfg [d, j, i] F.lgrpLaneCfg_RXEN
      sets := [(.lgrpLaneStatus, [d, j, i], F.lgrpLaneStatus_SIGDET, 1),
        (.lgrpLaneStatus, [d, j, i], F.lgrpLaneStatus_CDRLOCK, 1)] }]
  | .adapted d j i ctle dfe ffe => [{
      pre := mayAdapt s d j i
      sets := [(.lgrpLaneRxeq, [d, j, i], F.lgrpLaneRxeq_CTLE, ctle.toNat),
        (.lgrpLaneRxeq, [d, j, i], F.lgrpLaneRxeq_DFE, dfe.toNat), (.lgrpLaneStatus, [d, j, i], F.lgrpLaneStatus_ADAPTED, 1)]
      post := fun t => F.lgrpLaneRxeq_TAP.get (rxeqView t d j i) ==
        (ffe.getD (s.fld .lgrpLaneRxeq [d, j, i] F.lgrpLaneRxeq_TAPSEL) 0).toNat }, idleRow s (!mayAdapt s d j i)]
  | .cdrLossOfLock d j i los => [
      { pre := los && s.bit .lgrpLaneStatus [d, j, i] F.lgrpLaneStatus_SIGDET &&
          s.bit .lgrpLaneCfg [d, j, i] F.lgrpLaneCfg_RXEN
        sets := [(.lgrpLaneStatus, [d, j, i], F.lgrpLaneStatus_SIGDET, 0), laneSet d j i F.lgrpLaneFlags_LOS]
        events := [(d, 170)] },
      { pre := !los && s.bit .lgrpLaneStatus [d, j, i] F.lgrpLaneStatus_CDRLOCK
        sets := [(.lgrpLaneStatus, [d, j, i], F.lgrpLaneStatus_CDRLOCK, 0), laneSet d j i F.lgrpLaneFlags_CDRLOL]
        events := [(d, 170)] }]
  | .histogramRun _ d j i v => [{
      pre := !s.bit .lgrpLaneHist [d, j, i] F.lgrpLaneHist_RUN
      sets := (.lgrpLaneHist, [d.val, j.val, i.val], F.lgrpLaneHist_RUN, 1) ::
        [F.lgrpLaneHist_EXP, F.lgrpLaneHist_BIN, F.lgrpLaneHist_LEVEL].map fun f =>
          (.lgrpLaneHist, [d.val, j.val, i.val], f, f.get v)
      post := fun t => (t.lane d j i).bins == [] }]
  | .histogramDone d j i counts => [{
      pre := s.bit .lgrpLaneHist [d, j, i] F.lgrpLaneHist_RUN && countsFit s d j i counts
      sets := [(.lgrpLaneHist, [d, j, i], F.lgrpLaneHist_RUN, 0)]
      post := fun t => (List.range 512).all fun b =>
        let here := counts.filter fun e => e.1.val == b
        let old := (s.lane d j i).bins.get 0 b
        (t.lane d j i).bins.get 0 b == if here.isEmpty then old else min (old + (here.map (·.2)).sum) 65535 },
    idleRow s (!countsFit s d j i counts)]
  | .checkerLock d j i => [{
      pre := patternOf s d j i (s.fld .lgrpLanePat [d, j, i] F.lgrpLanePat_CHK) != 0 &&
        s.bit .lgrpLaneStatus [d, j, i] F.lgrpLaneStatus_CDRLOCK && !s.bit .lgrpLanePat [d, j, i] F.lgrpLanePat_CHKLOCK
      sets := [(.lgrpLanePat, [d, j, i], F.lgrpLanePat_CHKLOCK, 1)] }]
  | .checkerUnlock d j i bits wrong syms =>
    let counts : List (RegName × List Nat × Fld × Nat) := [upBy s .lgrpLaneBits [d, j, i] F.lgrpLaneBits_BITS bits, upBy s .lgrpLaneErrs [d, j, i] F.lgrpLaneErrs_BIT wrong,
        upBy s .lgrpLaneErrs [d, j, i] F.lgrpLaneErrs_SYM
          (if s.bit .lgrpLaneCfg [d, j, i] F.lgrpLaneCfg_MODE then syms else 0)]
    let on := s.bit .lgrpLanePat [d, j, i] F.lgrpLanePat_CHKLOCK && decide (wrong ≤ bits)
    [{ pre := on && decide (wrong ≤ 16), sets := (.lgrpLanePat, [d.val, j.val, i.val], F.lgrpLanePat_CHKLOCK, 1) :: counts },
     { pre := on && decide (16 < wrong)
       sets := (.lgrpLanePat, [d.val, j.val, i.val], F.lgrpLanePat_CHKLOCK, 0) :: laneSet d j i F.lgrpLaneFlags_UNLOCK :: counts
       events := [(d, 170)] }]
  | .rawTransmitWord d j i offer take =>
    let raw := laneOwner s d j i == 1
    let clocked := netRuns s d (laneGalley d j) (s.fld .lgrpLaneCfg [d, j, i] F.lgrpLaneCfg_TXNET)
    let l := (s.lane d j i).tx
    let n := rawWidth s d j i
    -- what the pins carry after word w: its bits, or the pattern, coded and at the polarity of the lane
    let sent (w : Nat) (t : State) : Bool := laneFar s d j i ||
      (t.lane d j i).line == (txCode s d j i (laneBits s d j i ((List.range n).map w.testBit)).1).1.map
        (levelOf (s.bit .lgrpLaneCfg [d, j, i] F.lgrpLaneCfg_TXPOL))
    match offer, take with
    | some w, false => [
        { pre := raw && clocked && decide (l.length < 16)
          post := fun t => (t.lane d j i).tx == l ++ [w.toNat % 2 ^ n] },
        { pre := raw && clocked && decide (16 ≤ l.length), sets := [laneSet d j i F.lgrpLaneFlags_TXOF], events := [(d, 170)]
          post := fun t => (t.lane d j i).tx == l },
        { pre := !raw || !clocked, post := fun t => decide (t = s) }]
    | none, true => [
        { pre := raw && !txIdle s d j i && l != [], post := fun t => (t.lane d j i).tx == l.tail && sent (l.headD 0) t },
        { pre := raw && !txIdle s d j i && l == [], sets := [laneSet d j i F.lgrpLaneFlags_TXUF], events := [(d, 170)]
          post := fun t => sent 0 t },
        idleRow s (!raw || txIdle s d j i)]
    | _, _ => []
  | _ => []

/-- JESD204C links (R478 to R480). -/
def jesdRows (s : State) : Instr → List Row
  | .jesdLinkEnable _ d j l v sync =>
    let s1 := plainWrite .lgrpJesdCfg [d, j, l] (withBit F.lgrpJesdCfg_EN v) s
    let zero := F.lgrpJesdCfg_SUBCLASS.get v == 0 || s.hv .jesdBound [d, j, l] == 1
    [{ pre := sync && !jesdBad s1 d j l && (jesdLanes (withBit F.lgrpJesdCfg_EN v)).all fun i => !laneIdle s d j i
       sets := (.lgrpJesdCfg, [d.val, j.val, l.val], F.lgrpJesdCfg_EN, 1) ::
         (.lgrpJesdStatus, [d.val, j.val, l.val], F.lgrpJesdStatus_SYNC, 1) ::
         (if zero then [(.lgrpJesdStatus, [d.val, j.val, l.val], F.lgrpJesdStatus_ALIGNED, 1)] else []) },
     { pre := jesdBad s1 d j l
       sets := [(.lgrpJesdCfg, [d, j, l], F.lgrpJesdCfg_EN, 1), (.lgrpJesdStatus, [d, j, l], F.lgrpJesdStatus_SYNC, 0),
         (.lgrpJesdStatus, [d, j, l], F.lgrpJesdStatus_ALIGNED, 0), (.lgrpJesdStatus, [d, j, l], F.lgrpJesdStatus_LINKERR, 1)]
       events := [(d, 176 + j.val)] }]
  | .sysrefEdge d j l src off =>
    let live := s.fld .lgrpJesdCfg [d, j, l] F.lgrpJesdCfg_SYSSRC == src.val && s.bit .lgrpJesdCfg [d, j, l] F.lgrpJesdCfg_EN &&
      s.bit .lgrpJesdCfg [d, j, l] F.lgrpJesdCfg_SUBCLASS && sysrefOn s src
    let held := s.hv .jesdBound [d, j, l] != 0
    let sync := s.bit .lgrpJesdStatus [d, j, l] F.lgrpJesdStatus_SYNC
    let bound (t : State) : Bool := t.hv .jesdBound [d, j, l] == 1
    [{ pre := live && !held && sync, sets := [(.lgrpJesdStatus, [d, j, l], F.lgrpJesdStatus_ALIGNED, 1)], post := bound },
     { pre := live && !held && !sync, post := bound },
     { pre := live && held && off
       sets := [(.lgrpJesdStatus, [d, j, l], F.lgrpJesdStatus_SYSERR, 1)], events := [(d, 176 + j.val)] },
     idleRow s (!live || (held && !off))]
  | .jesdSyncLoss d j l => [{
      pre := s.bit .lgrpJesdStatus [d, j, l] F.lgrpJesdStatus_SYNC
      sets := [(.lgrpJesdStatus, [d, j, l], F.lgrpJesdStatus_SYNC, 0),
        (.lgrpJesdStatus, [d, j, l], F.lgrpJesdStatus_ALIGNED, 0), (.lgrpJesdStatus, [d, j, l], F.lgrpJesdStatus_LINKERR, 1)]
      events := [(d, 176 + j.val)] }]
  | .jesdCrcError d j l => [{
      pre := s.bit .lgrpJesdCfg [d, j, l] F.lgrpJesdCfg_EN
      sets := [(.lgrpJesdStatus, [d, j, l], F.lgrpJesdStatus_CRCERR, 1)], events := [(d, 176 + j.val)] }]
  | _ => []

/-- A request is added at the end of a queue. -/
def added (s t : State) (w : Who) (op : ReqOp) (addr len : Nat) : Bool :=
  match (t.init w).queue.reverse with
  | r :: l => decide (l.reverse = (s.init w).queue) && decide (r.op = op) && r.addr == addr && r.len == len
  | [] => false

/-- A frame that has just taken a descriptor. -/
def newJob (s t : State) (d m q r idx : Nat) (tx : Bool) : Bool :=
  match (t.eth d m).jobs.reverse with
  | j :: l => decide (l.reverse = (s.eth d m).jobs) && j.port == q && j.ring == r && j.idx == idx && j.tx == tx && j.stage == 0
  | [] => false

/-- Every enabled port of a die that meets R462 holds its lanes, and no other does. -/
def portsSettled (s : State) (d : Nat) : Bool :=
  (List.range 32).all fun n =>
    let cfg := s.reg .ethPortCfg [d, n / 8, n % 8]
    decide (n % 8 ∈ (s.eth d (n / 8)).up) ==
      (F.ethPortCfg_EN.get cfg == 1 && (ethMode (F.ethPortCfg_MODE.get cfg)).isSome && ethOk s d (n / 8) (n % 8))

/-- The Ethernet controllers (R462 to R464, R467 to R469, R471, R498). -/
def ethRows (s : State) : Instr → List Row
  | .ethPortEnable _ d m q v =>
    let cfg := withBit F.ethPortCfg_EN v
    let s1 := plainWrite .ethPortCfg [d, m, q] cfg s
    let s2 := s1.setEth d m { s.eth d m with up := (s.eth d m).up.filter (· ≠ q.val) }
    let s3 := s2.setEth d m { s2.eth d m with up := (s2.eth d m).up ++ [q.val] }
    let mode := (ethMode (F.ethPortCfg_MODE.get v)).isSome
    [{ pre := mode && ethOk s2 d m q && portsSettled s3 d
       also := ethAlso d
       sets := [(.ethPortCfg, [d, m, q], F.ethPortCfg_EN, 1), (.ethPortCfg, [d, m, q], F.ethPortCfg_MODE,
         F.ethPortCfg_MODE.get v)]
       post := fun t => (t.eth d m).up.contains q.val },
     { pre := mode && !ethOk s2 d m q && portsSettled s2 d
       also := ethAlso d
       sets := [(.ethPortCfg, [d, m, q], F.ethPortCfg_EN, 1), (.ethPortStatus, [d, m, q], F.ethPortStatus_CFGERR, 1),
         (.ethPortStatus, [d, m, q], F.ethPortStatus_LINK, 0), (.ethPortTsadj, [d, m, q], F.ethPortTsadj_CALOK, 0)]
       events := [(d, 171 + m.val)]
       post := fun t => !(t.eth d m).up.contains q.val }]
  | .linkChange d m q up cal eq =>
    let was := s.bit .ethPortStatus [d, m, q] F.ethPortStatus_LINK
    [{ pre := up && !was && (s.eth d m).up.contains q.val && ethLanesReady s d m q
       sets := [(.ethPortStatus, [d, m, q], F.ethPortStatus_LINK, 1), (.ethPortStatus, [d, m, q], F.ethPortStatus_LINKCHG, 1),
         (.ethPortTsadj, [d, m, q], F.ethPortTsadj_CALOK, cal.toNat)]
       events := [(d, 171 + m.val)]
       also := fun k => s.bit .ethPortCfg [d, m, q] F.ethPortCfg_LT &&
         eq.any fun e => [RKey.mk .lgrpLaneCfg [d, e.lane.val / 8, e.lane.val % 8],
           RKey.mk .lgrpLaneTxeq [d, e.lane.val / 8, e.lane.val % 8]].contains k },
     { pre := !up && was
       sets := [(.ethPortStatus, [d, m, q], F.ethPortStatus_LINK, 0), (.ethPortStatus, [d, m, q], F.ethPortStatus_LINKCHG, 1),
         (.ethPortTsadj, [d, m, q], F.ethPortTsadj_CALOK, 0)]
       events := [(d, 171 + m.val)] }]
  | .ethFrameReceive d m q f _ =>
    let s1 := fecCount d m q f.ccw f.ucw s
    let open_ := s.runs d 38 && s.bit .ethPortStatus [d, m, q] F.ethPortStatus_LINK
    let r := match f.pcp with | some p => p.val | none => 0
    let ours (k : RKey) : Bool := decide (k = ⟨.ethPortCnt, [d, m, q]⟩) || ethAlso d k
    let dropped (pre : Bool) : Row :=
      { pre := open_ && pre
        sets := [(.ethPortStatus, [d, m, q], F.ethPortStatus_RXDROP, 1), upOne s .ethPortCnt [d, m, q] F.ethPortCnt_DROP]
        events := [(d, 171 + m.val)]
        also := ours }
    let ok := f.good && frameSize f.len
    let flow := f.pause.isSome || f.quanta != []
    { pre := open_ && s.fld .ethPortCfg [d, m, q] F.ethPortCfg_FEC != 0
      sets := [upBy s .ethPortCnt [d, m, q] F.ethPortCnt_CCW f.ccw, upBy s .ethPortCnt [d, m, q] F.ethPortCnt_UCW f.ucw] ++
        (if f.ucw = 0 then [] else [(.ethPortStatus, [d.val, m.val, q.val], F.ethPortStatus_FECUNC, 1)])
      also := fun k => ours k || [RegName.timeFlags, .timeAuthcnt].contains k.n || (eventKeys 0 497).contains k } ::
    idleRow s (!open_) ::
    (match macsecIn s1 d m q f with
      | none => [dropped true]
      | some data =>
        let bad := ptpBad s1 d m q f data
        let full := decide (2 ^ s.fld .ethPortCfg [d, m, q] F.ethPortCfg_RXBUF < f.len)
        let paused (t : State) (r n : Nat) : Bool := (t.eth d m).paused.get 0 (8 * q + r) == 4096 * (n % 65536)
        [dropped (!ok),
         { pre := open_ && ok && flow
           also := ours
           post := fun t => decide ((t.eth d m).jobs = (s.eth d m).jobs) && match f.pause with
             | some n => (List.range 8).all fun r => paused t r n
             | none => !s.bit .ethPortCfg [d, m, q] F.ethPortCfg_PFC ||
                 (List.range 8).all fun r => match f.quanta.filter (fun e => e.1.val == r) with
                   | [e] => paused t r e.2
                   | _ => true },
         { pre := open_ && ok && !flow && bad
           sets := [(.timeFlags, [], F.timeFlags_AUTHFAIL, 1), upOne s .timeAuthcnt [] F.timeAuthcnt_COUNT]
           events := [(0, 497)]
           also := ours },
         dropped (ok && !flow && !bad && (full || (nextDesc s1 d m q r false).isNone))] ++
        (match nextDesc s1 d m q r false with
          | some idx => [{
              pre := open_ && ok && !flow && !bad && !full
              also := ours
              post := fun t => newJob s t d m q r idx false &&
                decide ((t.eth d m).sas = ((replayMove d m q f s).eth d m).sas) &&
                added s t (.eth d m) .rd (descAddr (s.reg .ethPortRxq [d, m, q, r]) idx) 32 }]
          | none => []))
  | .ethFrameTransmit d m q r _ =>
    let open_ := s.runs d 38 && s.bit .ethPortStatus [d, m, q] F.ethPortStatus_LINK && !pnHeld s d m q &&
      decide ((s.eth d m).paused.get 0 (8 * q + r) = 0)
    idleRow s (!open_) ::
    (match nextDesc s d m q r true with
    | some idx => [{
        pre := open_
        post := fun t => newJob s t d m q r idx true &&
          added s t (.eth d m) .rd (descAddr (s.reg .ethPortTxq [d, m, q, r]) idx) 32 }]
    | none => [idleRow s true])
  | .saload _ d m v => [{
      pre := !s.bit .ethSaload [d, m] F.ethSaload_BUSY
      sets := [(.ethSaload, [d, m], F.ethSaload_BUSY, 1), (.ethSaload, [d, m], F.ethSaload_PORT, F.ethSaload_PORT.get v),
        (.ethSaload, [d, m], F.ethSaload_AN, F.ethSaload_AN.get v)]
      post := fun t => added s t (.eth d m) .rd (64 * F.ethSaload_ADDR.get v) 64 },
    { pre := s.bit .ethSaload [d, m] F.ethSaload_BUSY
      sets := [(.ethSaload, [d, m], F.ethSaload_BUSY, 1)]
      also := fun k => decide (k = ⟨.ethSaload, [d, m]⟩)
      post := fun t => decide ((t.init (.eth d m)).queue = (s.init (.eth d m)).queue) }]
  | _ => []

/-- The PCI Express controllers (R473 to R476). -/
def pcieRows (s : State) : Instr → List Row
  | .pcieInboundTlp far op bar addr len _ _ _ _ _ =>
    let d := pcieDie far
    (match inboundAddr s d bar addr len with
      | some a => [{
          pre := s.bit .pcieStatus [d] F.pcieStatus_UP && s.runs d 38 && decide (0 < len) && decide (a % 256 + len ≤ 256) &&
            (decide (op ≠ .at_) || ((len == 4 || len == 8) && addr % len == 0))
          post := fun t => added s t (.pcie d) op a len }]
      | none => [{ post := fun t => decide (t = s) }])
  | .pcieCompletion far n ok poisoned data =>
    let d := pcieDie far
    (match (s.pcies.get [] d.val)[n]? with
      | some (r, tag, gen, _) =>
        let clear := ok && decide (s.flight = []) && decide (s.replies = []) &&
          decide (exitPort s true (pcieEp d) (epOf r.who) = some 15)
        let n' := if r.op = .wr then 0 else r.len
        [ { pre := clear && !poisoned
            post := fun t => sendsAnswer s t (pcieEp d) r tag gen (if r.op = .rd then data % 256 ^ r.len else 0) n' &&
              t.pcies.get [] d.val == (s.pcies.get [] d.val).eraseIdx n },
          { pre := clear && poisoned && meshRoom s (pcieEp d) (4 + r.pri) (flitCount n')
            post := fun t => answered t r.who r.op tag gen OK 0 && (match t.flight with
                | [.resp p _ _] => p.pmask == if r.op = .rd then 3 else 0
                | _ => false) &&
              t.pcies.get [] d.val == (s.pcies.get [] d.val).eraseIdx n },
          { pre := !ok, sets := [(.pcieStatus, [d], F.pcieStatus_OBERR, 1)], events := [(d, 175)]
            post := fun t => t.pcies.get [] d.val == (s.pcies.get [] d.val).eraseIdx n }]
      | none => [])
  | .pcieLinkChange far up rev gen lanes ltssm _ =>
    let d := pcieDie far
    let was := s.bit .pcieStatus [d] F.pcieStatus_UP
    [{ pre := up && !was && s.bit .pcieCfg [d] F.pcieCfg_EN && s.runs d 38 && decide (1 ≤ gen.val) &&
         decide (gen.val ≤ maxGen s d) && decide (0 < lanes.val) && decide (lanes.val = trainWidth s d rev)
       sets := [(.pcieStatus, [d], F.pcieStatus_UP, 1), (.pcieStatus, [d], F.pcieStatus_GEN, gen.val),
         (.pcieStatus, [d], F.pcieStatus_WIDTH, lanes.val), (.pcieStatus, [d], F.pcieStatus_REV, rev.toNat),
         (.pcieStatus, [d], F.pcieStatus_LTSSM, ltssm.toNat), (.pcieStatus, [d], F.pcieStatus_LINKCHG, 1)]
       events := [(d, 175)]
       also := fun k => (decide (k.n = .lgrpLaneCfg) || decide (k.n = .lgrpLaneTxeq)) && k.ix.head? == some d.val },
     idleRow s (up && decide (lanes.val ≠ trainWidth s d rev)),
     { pre := !up && was
       sets := [(.pcieStatus, [d], F.pcieStatus_UP, 0), (.pcieStatus, [d], F.pcieStatus_GEN, 0),
         (.pcieStatus, [d], F.pcieStatus_WIDTH, 0), (.pcieStatus, [d], F.pcieStatus_REV, 0),
         (.pcieStatus, [d], F.pcieStatus_LTSSM, ltssm.toNat), (.pcieStatus, [d], F.pcieStatus_LINKCHG, 1)]
       events := [(d, 175)] }]
  | _ => []

end Sys2Proof.Claims

/-- R440, R443, R446, R450 to R460: PLLs lock and lose lock, a new owner idles its lane, taps are taken where they fit, the
receiver locks and adapts, the checker and the histogram count, and raw words are buffered and leave coded, from a galley
whose network runs (R442, R447 to R449). R462 to R480: an Ethernet port takes its lanes, its frames take descriptors, are
discarded or hold its queues, PCI Express forwards and completes requests and trains the widest link that its lanes allow, and
a JESD204C link synchronises, aligns and reports its errors. The choice is the model's where log entries 38, 40, 41, 42, 89
and 98 say so. -/
def Obligations.SerialLanesAndProtocols : Prop :=
  ∀ (s : State) (i : Instr), ∀ r ∈ laneRows s i ++ jesdRows s i ++ ethRows s i ++ pcieRows s i, Does s i r

namespace Sys2Proof.Claims

/-- The registers of the timing unit that its evaluation and its states change, and the timing event (R493 to R500, R509). -/
def timeAlso (k : RKey) : Bool :=
  [RegName.timeSrcStat, .timeStatus, .timeFlags, .timeCtl, .timeFreq, .timeCode, .timeModel0, .timeModel1].contains k.n ||
    (eventKeys 0 497).contains k

/-- The state that an unlocked unit holds over in (R497). -/
def holdOver (s : State) : Nat := if s.bit .timeStatus [] F.timeStatus_MODEL then 3 else 4

def timeSet (f : Fld) (v : Nat) : RegName × List Nat × Fld × Nat := (.timeStatus, [], f, v)

/-- A write of `ctl` leaves XOFREQ and TUNE as they are. -/
def sameOsc (s : State) (v : W64) : Bool :=
  F.timeCtl_XOFREQ.get v == s.fld .timeCtl [] F.timeCtl_XOFREQ && F.timeCtl_TUNE.get v == s.fld .timeCtl [] F.timeCtl_TUNE

/-- The GNSS source (R491). -/
def gnssSource (s : State) : Option Nat := (List.range 4).find? fun n => srcKind s n == 1

/-- Sources and states of the timing unit (R483, R484, R491 to R497). -/
def timeStateRows (s : State) : Instr → List Row
  | .evaluation _ =>
    let st := tstate s
    -- the sources as this evaluation takes their registers (R495)
    let kind := srcKind (takeCfgs s)
    let off := (List.range 4).all fun n => kind n == 0
    let alone (n : Nat) : Bool := (List.range 4).all fun m => if m = n then kind m == 2 else kind m == 0
    idleRow s (!timeRuns s || !s.time.due) ::
    { pre := timeRuns s && s.time.due && off && decide (st ≤ 2)
      sets := (timeSet F.timeStatus_SEL 15) :: (timeSet F.timeStatus_STATE (if st = 0 then 0 else holdOver s)) ::
        (List.range 4).map fun n => (.timeSrcStat, [n], F.timeSrcStat_SSTATE, 0)
      also := timeAlso } ::
    (List.range 4).map fun n =>
      { pre := timeRuns s && s.time.due && alone n && s.fld .timeSrcStat [n] F.timeSrcStat_SSTATE == 2 && st == 1 &&
          !s.bit .timeStatus [] F.timeStatus_MODEL && decide (59 ≤ s.time.good) &&
          (match s.time.meas.find? (fun m => m.1 == n) with
            | some (_, o) => decide (o.natAbs ≤ 100 * 65536)
            | none => false)
        sets := [timeSet F.timeStatus_SEL n, timeSet F.timeStatus_STATE 2, (.timeSrcStat, [n], F.timeSrcStat_SSTATE, 2),
          (.timeFlags, [], F.timeFlags_STATECHG, 1)]
        events := [(0, 497)]
        also := timeAlso }
  | .ppsIn sub => match gnssSource s with
    | some n =>
      let wrong := s.bit .timeTod [] F.timeTod_VALID && s.fld .timeTod [] F.timeTod_TOD_SEC != secOf (stampAt s 0 sub)
      let w := (nearestSecond (stampAt s 0 sub)).1 % 2
      let seen (t : State) : Bool :=
        (t.time.pps.get (0, 0, false) w).1 == (s.time.pps.get (0, 0, false) w).1 + 1 &&
          (t.time.pps.get (0, 0, false) w).2.1 == (nearestSecond (stampAt s 0 sub)).2
      [{ pre := timeRuns s && !wrong, sets := [(.timeTod, [], F.timeTod_VALID, 0)], post := seen },
       { pre := timeRuns s && wrong
         sets := [(.timeTod, [], F.timeTod_VALID, 0), (.timeSrcStat, [n], F.timeSrcStat_TODMIS, 1)]
         events := [(0, 497)], post := seen }]
    | none => []
  | .meas _ n v => [{ pre := srcKind s n == 2, post := fun t => t.time.meas.get 0 n.val == v.toInt }]
  | .step _ _ => [{
      sets := [(.timeCtl, [], F.timeCtl_STEP, 1), timeSet F.timeStatus_STEPPING 1], also := timeAlso
      post := fun t => t.time.now == s.time.now }]
  | .stepApply =>
    let soft : Int := if s.bit .timeCtl [] F.timeCtl_STEP then (s.reg .timeStep []).toInt else 0
    let own : Int := s.time.servoStep.getD 0
    let go := timeRuns s && s.bit .timeStatus [] F.timeStatus_STEPPING && s.time.halfDue
    [{ pre := go
       sets := [timeSet F.timeStatus_STEPPING 0, (.timeCtl, [], F.timeCtl_STEP, 0)]
       post := fun t => t.time.now == addTime s.time.now (soft * (nsUnit : Int) + own * 2 ^ 32) && t.time.servoStep.isNone },
     idleRow s (!go)]
  | .hold _ v =>
    let on := F.timeCtl_EN.get v == 1 && sameOsc s v
    [{ pre := on && F.timeCtl_HOLD.get v == 1
       sets := [(.timeCtl, [], F.timeCtl_HOLD, 1), timeSet F.timeStatus_STATE (holdOver s)], also := timeAlso },
     { pre := on && F.timeCtl_HOLD.get v == 0 && s.bit .timeCtl [] F.timeCtl_HOLD && decide (3 ≤ tstate s) && tsel s != 15
       sets := [(.timeCtl, [], F.timeCtl_HOLD, 0), timeSet F.timeStatus_STATE 1], also := timeAlso }]
  | .servoEn _ v => [
      { pre := F.timeCtl_EN.get v == 0
        sets := [(.timeCtl, [], F.timeCtl_EN, 0), timeSet F.timeStatus_STATE 0], also := timeAlso },
      { pre := F.timeCtl_EN.get v == 1 && F.timeCtl_HOLD.get v == 0 && !s.bit .timeCtl [] F.timeCtl_HOLD
        sets := [(.timeCtl, [], F.timeCtl_EN, 1), timeSet F.timeStatus_STATE (tstate s)], also := timeAlso }]
  | .modelAlign =>
    let due := timeRuns s && decide (1024 ≤ s.time.alignSecs)
    [{ pre := due, post := fun t => decide (t.time = { s.time with model := 0, alignSecs := 0 }) }, idleRow s (!due)]
  | _ => []

/-- The record of `authload` when it lies in clean die SRAM (R499). -/
def authRecord (s : State) (v : W64) : Option Nat :=
  let a := 64 * F.timeAuthload_ADDR.get v
  match place s a with
  | .sram d o => if cleanBytes s (sramBase d + o) 64 then some (s.mem.readN (sramBase d + o) 64) else none
  | _ => none

/-- Device time and its followers, the sensor, the tuning port and the outputs (R481 to R488, R499 to R508). -/
def timeBaseRows (s : State) : Instr → List Row
  | .timeFrame reach =>
    let now := addTime s.time.now (1250 * timeInc s)
    let alone (t : State) (d : Nat) : Bool := followTime t d == addTime (followTime s d) (1250 * followRate s d)
    [{ pre := timeRuns s
       also := fun k => decide (k = ⟨.timeStatus, []⟩)
       post := fun t => t.time.now == now && t.time.due == (s.time.due || decide (nsOf now < nsOf s.time.now)) &&
         t.time.ppsDue == crosses (ppsOffset s) s.time.now now &&
         (List.range 4).all fun d =>
           if d = 0 ∨ (reach.getLsbD d && timePath s d) = true then
             followTime t d == now && followRate t d == timeInc s && (t.fld .timeStatus [] F.timeStatus_FALIGN).testBit d
           else alone t d && followRate t d == followRate s d &&
             (t.fld .timeStatus [] F.timeStatus_FALIGN).testBit d == (s.fld .timeStatus [] F.timeStatus_FALIGN).testBit d },
     { pre := !timeRuns s && !s.pdomOn 0 && s.hv .clkWait [] == 0
       post := fun t => t.time.now == s.time.now && (List.range 4).all (alone t) }]
  | .echoExchange d p e => [{
      pre := lstate s d p == 5
      post := fun t => t.hv .echo [d, p] == 0 && t.hv .echoDelay [d, p] == echoDelay d p e }]
  | .followerGap d => [{
      pre := (s.fld .timeStatus [] F.timeStatus_FALIGN).testBit d
      sets := [(.timeFlags, [], F.timeFlags_FOLLOW, 1)]
      events := [(0, 497)]
      also := fun k => decide (k = ⟨.timeStatus, []⟩)
      post := fun t => (List.range 4).all fun e => (t.fld .timeStatus [] F.timeStatus_FALIGN).testBit e ==
        (decide (e ≠ d.val) && (s.fld .timeStatus [] F.timeStatus_FALIGN).testBit e) }]
  | .sensorRead raw =>
    let on := timeRuns s && s.bit .timeTsense [] F.timeTsense_EN
    match raw with
    | some v => [{
        pre := on
        sets := [(.timeTsense, [], F.timeTsense_TEMP, sensorTemp v (s.fld .timeTsense [] F.timeTsense_TSCALE))]
        post := fun t => t.time.sensorFails == 0 }]
    | none => [
        { pre := on && s.time.sensorFails != 9, post := fun t => t.time.sensorFails == s.time.sensorFails + 1 },
        { pre := on && s.time.sensorFails == 9, sets := [(.timeFlags, [], F.timeFlags_TSLOST, 1)], events := [(0, 497)] }]
  | .tuningFrame =>
    let w := s.fld .timeDac [] F.timeDac_WLEN
    let cb := s.fld .timeDac [] F.timeDac_CODEBITS
    [{ pre := timeRuns s && tuneOn s && decide (16 ≤ w) && decide (w ≤ 32) && decide (12 ≤ cb) && decide (cb ≤ 24) &&
         decide (cb ≤ w)
       post := fun t => t.time.dacFrame % 2 ^ cb == s.fld .timeCode [] F.timeCode_CODE % 2 ^ cb &&
         t.time.dacFrame / 2 ^ cb == s.fld .timeDac [] F.timeDac_PREFIX % 2 ^ (w - cb) }]
  | .xoLoss => [{
      pre := timeRuns s && s.fld .timeCtl [] F.timeCtl_XOFREQ != 0 && !s.time.xoLost
      sets := [timeSet F.timeStatus_MODEL 0, (.timeFlags, [], F.timeFlags_XOLOS, 1)]
      events := [(0, 497)], post := fun t => t.time.xoLost }]
  | .ppsOut rise =>
    let go := timeRuns s && if rise then s.time.ppsDue else decide (ppsWidth s ≤ ppsPhase s)
    [{ pre := go, post := fun t => t.time.ppsOut == rise && ppsLevel t == (rise && !squelched s) && (!rise || !t.time.ppsDue) },
     idleRow s (!go)]
  | .sysrefOut off =>
    let go := timeRuns s && s.fld .timeOut [] F.timeOut_SYSPER != 0 && decide (0 < s.time.sysDue)
    [{ pre := go
       also := fun k => decide (k.n = .lgrpJesdStatus) || decide (k.n = .eventPend) || decide (k.n = .eventRoute)
       post := fun t => t.time.sysDue + 1 == s.time.sysDue &&
         (List.range 4).all fun d => (List.range 3).all fun j => (List.range 4).all fun l =>
           !(s.fld .lgrpJesdCfg [d, j, l] F.lgrpJesdCfg_SYSSRC == 8 && s.bit .lgrpJesdCfg [d, j, l] F.lgrpJesdCfg_EN &&
             s.bit .lgrpJesdCfg [d, j, l] F.lgrpJesdCfg_SUBCLASS) ||
           (if s.hv .jesdBound [d, j, l] = 0 then t.hv .jesdBound [d, j, l] == 1 &&
               (!s.bit .lgrpJesdStatus [d, j, l] F.lgrpJesdStatus_SYNC || t.bit .lgrpJesdStatus [d, j, l] F.lgrpJesdStatus_ALIGNED)
             else !off || t.bit .lgrpJesdStatus [d, j, l] F.lgrpJesdStatus_SYSERR) },
     idleRow s (!go)]
  | .uartReceive b => [
      { pre := timeRuns s && decide (s.time.uart.length < 256), post := fun t => t.time.uart == s.time.uart ++ [b.toNat] },
      { pre := timeRuns s && decide (256 ≤ s.time.uart.length), sets := [(.timeUart, [], F.timeUart_OVR, 1)]
        post := fun t => t.time.uart == s.time.uart }]
  | .uartTransmit _ v =>
    let busy := s.bit .timeUart [] F.timeUart_TXBUSY
    [{ pre := !busy
       sets := [(.timeUart, [], F.timeUart_TXBUSY, 1)]
       also := fun k => decide (k = ⟨.timeUart, []⟩), post := fun t => t.time.uartTx == F.timeUart_TXB.get v },
     { pre := busy
       sets := [(.timeUart, [], F.timeUart_TXBUSY, 1)]
       also := fun k => decide (k = ⟨.timeUart, []⟩), post := fun t => decide (t.time = s.time) }]
  | .authload _ v =>
    let busy := s.bit .timeAuthload [] F.timeAuthload_BUSY
    [{ pre := !busy
       sets := [(.timeAuthload, [], F.timeAuthload_BUSY, 1), (.timeAuthload, [], F.timeAuthload_SLOT, F.timeAuthload_SLOT.get v)]
       also := fun k => decide (k = ⟨.timeAuthload, []⟩)
       post := fun t => decide (t.time = { s.time with auth := some (withBit F.timeAuthload_GO v) }) },
     { pre := busy
       sets := [(.timeAuthload, [], F.timeAuthload_BUSY, 1)]
       also := fun k => decide (k = ⟨.timeAuthload, []⟩)
       post := fun t => decide (t.time = s.time) }]
  | _ => []

end Sys2Proof.Claims

/-- R483, R484, R491 to R497: an evaluation selects the source and moves the unit's state, a PPS edge and a written offset are
measured, a step is asked for and applied, and HOLD and EN move the unit to and from holdover. R481 to R488, R499 to R508:
device time and its followers advance, each at its own rate where no frame comes, a gap is reported, the sensor is read, the
tuning frame is formed, PPS and SYSREF go out at their crossings and counts, the UART receives and sends, and an
authentication key that is being loaded is in the slot of every die a cycle later. The choice is the model's where log entries
23, 39, 43, 81, 90 and 99 say so. -/
def Obligations.TimingUnit : Prop :=
  (∀ (s : State) (i : Instr), ∀ r ∈ timeStateRows s i ++ timeBaseRows s i, Does s i r) ∧
  ∀ (s : State) (v : W64) (x : Nat), s.time.auth = some v → timeRuns s = true → authRecord s v = some x →
    x / 2 ^ 256 % 2 ^ 32 ≠ 0 → (timeCycle s).fld .timeAuthload [] F.timeAuthload_BUSY = 0 ∧
      ∀ d, d < 4 → (timeCycle s).time.keys.get (0, 0) (d, F.timeAuthload_SLOT.get v) = (x / 2 ^ 256 % 2 ^ 32, x % 2 ^ 256)

namespace Sys2Proof.Claims

/-- The instruction at the head of a forme queue, with its operand words and its segment, when its context may start it
(R524, R525, R529, R531). -/
def readyInstr (s : State) (d : Fin 4) : Option (CfgOp × Nat × QSeg) :=
  let x := s.comp d
  match x.q with
  | e :: _ => match cfgDecode s.load.pre.partial_ (e.data % 2 ^ 64) with
    | some o =>
      let w := e.data / 2 ^ 64 % 2 ^ (64 * (o.words - 1))
      if compRuns s d && decide (x.doing = .idle) && x.outs == 0 && x.final.isNone && decide (8 * o.words ≤ e.len) &&
        decide (e.pos + 8 * o.words ≤ e.plen) && (cfgFault s s.load.pre d e.pos e.plen o (e.data / 2 ^ 64 % 2 ^ 64)).isNone
        then some (o, w, e) else none
    | none => none
  | [] => none

/-- The segment at the head of a forme queue while an instruction is under way. -/
def feeding (s : State) (d : Fin 4) (w : Doing) : Option QSeg :=
  if compRuns s d && decide ((s.comp d).doing = w) then (s.comp d).q.head? else none

/-- The context of a die has sent one request, with priority 1 and O = 1 (R524), and is doing w. -/
def compSent (s t : State) (d : Fin 4) (op : ReqOp) (a n data : Nat) (w : Doing) : Bool :=
  decide ((t.comp d).doing = w) && (t.comp d).outs == (s.comp d).outs + 1 &&
    decide ((t.init (.core d)).queue = (s.init (.core d)).queue ++
      [{ mkReq s (.core d) op a n data with pri := 1, ord := true, acc := (s.init (.core d)).nextAcc }])

/-- The load has failed on die d with CFGERR and DETAIL (R531, R535, R541). -/
def loadFails (s t : State) (d : Fin 4) (detail : Nat) : Bool :=
  t.fld .guardFfail [] F.guardFfail_CODE == 11 && t.fld .guardFfail [] F.guardFfail_DETAIL == detail &&
    t.fld .guardFfail [] F.guardFfail_DIE == d.val &&
    (if s.load.pre.partial_ then t.load.res == 11 && decide (t.load.stage = .failw ∨ t.load.stage = .reject)
     else decide (t.load.stage = .idle) && (List.range 4).all fun e => decide (t.comp e = CompState.init))

/-- n bytes lie in one 256-byte block: one request carries them (R309). -/
def oneRequest (a n : Nat) : Bool := decide (0 < n) && decide (a % 256 + n ≤ 256)

/-- A die that SYNC waits for is there. -/
def atSync (s : State) (m tag e : Nat) : Bool := decide ((s.comp e).doing = .sync m tag)

/-- The configuration instructions of a forme (R525 to R528, R531, R538). -/
def composeRows (s : State) : Instr → List Row
  | .wreg d =>
    let goes (w64 : Bool) (a v : Nat) (pre : Bool) : Row :=
      { pre := pre && (w64 || decide (v < 2 ^ 32)) && oneRequest a (if w64 then 8 else 4)
        post := fun t => compSent s t d .wr a (if w64 then 8 else 4) v .idle }
    (match (s.comp d).doing with
      | .wreg w64 a 1 => match feeding s d (.wreg w64 a 1) with
        | some e => [goes w64 a (e.data % 2 ^ 64) (decide (8 ≤ e.len))]
        | none => []
      | _ => []) ++
    (match readyInstr s d with
      | some (.wreg w64 1 a, _, e) => [goes w64 a (e.data / 2 ^ 64 % 2 ^ 64) (decide (16 ≤ e.len))]
      | _ => [])
  | .wmem d => match (s.comp d).doing with
    | .wmem a left => match feeding s d (.wmem a left) with
      | some e => [{
          pre := decide ((left + 7) / 8 * 8 ≤ e.len) && oneRequest a left
          post := fun t => compSent s t d .wr a left (e.data % 256 ^ left) .idle }]
      | none => []
    | _ => []
  | .frameInstr d => match (s.comp d).doing with
    | .frame g fa 1 => match feeding s d (.frame g fa 1) with
      | some e => [{
          pre := decide (256 ≤ e.len) && !cloning s d g && s.domOn d g && frameOk fa (e.data % 256 ^ 256)
          keepMem := false
          post := fun t => decide ((t.comp d).doing = .idle) &&
            t.mem.readN (framePlace s d g fa true) 256 == e.data % 256 ^ 256
          tells := fun t => SameOutside s t (framePlace s d g fa true) 256 }]
      | none => []
    | _ => []
  | .rbc d => match (s.comp d).doing with
    | .rbc g fa 1 strict shadow => match feeding s d (.rbc g fa 1 strict shadow) with
      | some e =>
        let same := s.mem.readN (framePlace s d g fa shadow) 256 == e.data % 256 ^ 256
        [{ pre := decide (256 ≤ e.len) && s.domOn d g && same
           post := fun t => decide ((t.comp d).doing = .idle) },
         { pre := decide (256 ≤ e.len) && s.domOn d g && !same && !strict
           sets := [(.guardPstat, [], F.guardPstat_MISMATCH,
             min (s.fld .guardPstat [] F.guardPstat_MISMATCH + 1) (2 ^ F.guardPstat_MISMATCH.width - 1))]
           post := fun t => decide ((t.comp d).doing = .idle) }]
      | none => []
    | _ => []
  | .poll d => match (s.comp d).doing with
    | .poll w64 a mask value false => [{
        pre := compRuns s d && oneRequest a (if w64 then 8 else 4)
        post := fun t => compSent s t d .rd a (if w64 then 8 else 4) 0 (.poll w64 a mask value true) }]
    | .poll w64 a mask value true => match polled (s.comp d) with
      | some v => [
          { pre := compRuns s d && (v &&& mask) == value, post := fun t => decide ((t.comp d).doing = .idle) },
          { pre := compRuns s d && (v &&& mask) != value && oneRequest a (if w64 then 8 else 4)
            post := fun t => compSent s t d .rd a (if w64 then 8 else 4) 0 (.poll w64 a mask value true) }]
      | none => []
    | _ => []
  | .pollLimit d => match (s.comp d).doing, polled (s.comp d) with
    | .poll _ _ mask value true, some v => [{
        pre := compRuns s d && (v &&& mask) != value, also := fun _ => true, keepMem := false, keepUnits := false
        post := fun t => loadFails s t d 3 }]
    | _, _ => []
  | .callProg d =>
    (match readyInstr s d with
      | some (.call off, w, _) => [{
          keepUnits := false
          post := fun t => decide ((t.comp d).doing = .call) && decide ((t.unit (.core d)).st = .running) &&
            (t.unit (.core d)).pc == BitVec.ofNat 64 (sramBase d + off) && (t.unit (.core d)).st_ fPRIV == 1 &&
            (t.unit (.core d)).getG 10 == BitVec.ofNat 64 w }]
      | _ => []) ++
    [{ pre := compRuns s d && decide ((s.comp d).doing = .call) && decide ((s.unit (.core d)).st = .stopped) &&
         (s.unit (.core d)).getG 10 == 0
       post := fun t => decide ((t.comp d).doing = .idle) },
     { pre := compRuns s d && decide ((s.comp d).doing = .call) && (decide ((s.unit (.core d)).st = .faultStopped) ||
         (decide ((s.unit (.core d)).st = .stopped) && (s.unit (.core d)).getG 10 != 0))
       also := fun _ => true, keepMem := false, keepUnits := false
       post := fun t => loadFails s t d 4 }]
  | .callLimit d => [{
      pre := compRuns s d && decide ((s.comp d).doing = .call) && decide ((s.unit (.core d)).st = .running)
      also := fun _ => true, keepMem := false, keepUnits := false
      post := fun t => loadFails s t d 4 }]
  | .sync d => match readyInstr s d with
    | some (.sync m tag, _, _) =>
      let rest := (List.range 4).filter fun e => inMask m e && e != d.val
      -- the n-th SYNC of this M and TAG on this die
      let n := synced s d m tag + 1
      let met := rest.all fun e => decide (n ≤ synced s e m tag)
      [{ pre := !syncBad s d m tag && inMask m d && !met, post := fun t => atSync t m tag d && synced t d m tag == n },
       { pre := !syncBad s d m tag && met
         post := fun t => decide ((t.comp d).doing = .idle) && synced t d m tag == n && rest.all fun e =>
           !atSync s m tag e || synced s e m tag != n || decide ((t.comp e).doing = .idle) },
       { pre := syncBad s d m tag, also := fun _ => true, keepMem := false, keepUnits := false
         post := fun t => loadFails s t d 6 }]
    | _ => []
  | .endSeg d => match readyInstr s d with
    | some (.fin false _, _, _) => [{
        post := fun t => decide ((t.comp d).final = none) && decide ((t.comp d).doing = .idle) &&
          queued (t.comp d).q + 8 == queued (s.comp d).q }]
    | some (.fin true entry, _, _) => [
        { pre := !awaited s d && (List.range 4).any fun e => e != d.val && (s.comp e).final.isNone
          post := fun t => decide ((t.comp d).final = some entry) },
        { pre := !awaited s d && decide (s.sel.chosen.getD 0 ≤ 2) &&
            (List.range 4).all fun e => e == d.val || (s.comp e).final.isSome
          sets := [(.ctlBoot, [d.val], ⟨0, 48⟩, (BitVec.ofNat 64 entry &&& 0xFFFFFFFFFFFC).toNat)], also := fun _ => true, keepUnits := false
          events := [(0, 498)]
          post := fun t => gstate t == 5 && decide (t.load.stage = .idle) && decide ((t.unit (.core d)).st = .running) &&
            (t.unit (.core d)).pc == BitVec.ofNat 64 entry &&& 0xFFFFFFFFFFFC && (t.unit (.core d)).st_ fPRIV == 1 &&
            t.fld .guardFsel [] F.guardFsel_LOADED == s.sel.chosen.getD 0 &&
            t.fld .guardFsel [] (resFld (s.sel.chosen.getD 0)) == 1 }]
    | _ => []
  | _ => []

/-- Recto, verso or the standing forme, as R535 chooses from what the header checks say. -/
def copyChosen (s : State) : Option Nat :=
  match copyHeader s 0, copyHeader s 1 with
  | .inr (p, _), .inr (q, _) => some (if p.folio < q.folio then 1 else 0)
  | .inr _, .inl _ => some 0
  | .inl _, .inr _ => some 1
  | .inl _, .inl _ =>
    let policy := if fusePolicyLock s = 1 then fusePolicy s else s.board.fbsel.val
    if policy % 2 = 1 then (match copyHeader s 2 with | .inr _ => some 2 | .inl _ => none) else none

/-- The guard core has probed the copies and chosen one, or holds the device dark (R532, R535, R536). -/
def probed (s t : State) : Bool :=
  decide (t.sel.chosen = copyChosen s) && gstate t == (if (copyChosen s).isSome then 2 else 6) &&
    t.fld .guardFsel [] F.guardFsel_FLASHN == flashCount s.board &&
    [0, 1].all fun c => match copyHeader s c with
      | .inl code => t.fld .guardFsel [] (resFld c) == code
      | .inr _ => t.fld .guardFsel [] (resFld c) == 0

def probeKeys (k : RKey) : Bool := decide (k = ⟨.guardFsel, []⟩) || decide (k ∈ eventKeys 0 498)

/-- A flash operation of kind `op` is at the front of the guard core's requests, and has not yet run (R543). -/
def fopAt (s : State) (op : Nat) : Bool :=
  decide (s.jobs.head? = some .fop) && s.hv .fopArg [0] == op && s.hv .fopRan [] == 0

/-- n clean bytes of the SRAM of one die. -/
def sramSpan (a n : Nat) : Bool :=
  decide (0x9030000000 ≤ a) && decide (a < 0x9400000000) && decide (0x30000000 ≤ a % 0x100000000) &&
    decide (a % 0x100000000 + n ≤ 0x30080000) && decide (0 < n)

/-- Loading a forme, and flash operations (R521 to R523, R535, R539 to R544). -/
def loadRows (s : State) : Instr → List Row
  | .reselect _ v => [{
      pre := gstate s == 6 && F.guardFop_GO.get v == 0
      also := fun k => probeKeys k || decide (k = ⟨.guardFop, []⟩)
      post := probed s }]
  | .darkHoldRetry => [{
      pre := s.hv .guardUp [] == 1 && gstate s == 6 && s.fld .guardFsel [] F.guardFsel_POLICY / 2 == 1
      also := probeKeys
      post := probed s }]
  | .chunkRelease =>
    match s.load.dir[s.load.seg]? with
    | some e =>
      let j := s.load.chunk
      let n := min 65536 (e.plen - 65536 * j)
      let on := s.hv .guardUp [] == 1 && decide (s.load.stage = .full) && !s.load.pre.partial_ && s.load.rest.isNone
      let first := segTable e s
      match (if j = 0 then first.1 else .inr s.load.table) with
      | .inr table => match (chunkBytes s.load.seg j e table s).1 with
        | .inr x => [
            { pre := on && e.code, keepMem := false
              post := fun t => t.mem.readN (sramBase e.die + e.sramOff + 65536 * j) n == x % 256 ^ n &&
                (if chunkCount e.plen ≤ j + 1 then t.load.seg == s.load.seg + 1 && t.load.chunk == 0
                 else t.load.chunk == j + 1)
              tells := fun t => SameOutside s t (sramBase e.die + e.sramOff + 65536 * j) n },
            { pre := on && !e.code && (s.comp e.die).final.isNone && decide (queued (s.comp e.die).q + n ≤ 65536) &&
                decide (n % 8 = 0) && decide (0 < n)
              post := fun t => queued (t.comp e.die).q == queued (s.comp e.die).q + n && t.load.rest.isNone &&
                (if chunkCount e.plen ≤ j + 1 then t.load.seg == s.load.seg + 1 else t.load.chunk == j + 1) }]
        | .inl c => [{
            pre := on, also := fun _ => true, keepMem := false, keepUnits := false
            post := fun t => t.fld .guardFfail [] F.guardFfail_CODE == c.1 &&
              t.fld .guardFfail [] F.guardFfail_DETAIL == c.2 && decide (t.load.stage = .idle) }]
      | .inl _ => []
    | none => []
  | .pload _ v => [
      { pre := gstate s == 5 && !s.bit .guardPload [] F.guardPload_BUSY
        sets := [(.guardPload, [], F.guardPload_ADDR, F.guardPload_ADDR.get v), (.guardPload, [], F.guardPload_BUSY, 1)]
        post := fun t => decide (t.jobs = s.jobs ++ [.pload]) && t.load.base == F.guardPload_ADDR.get v * 64 },
      { pre := gstate s != 5 || s.bit .guardPload [] F.guardPload_BUSY
        sets := [(.guardPstat, [], F.guardPstat_REFUSED, 1)], events := [(0, 498)]
        post := fun t => decide (t.jobs = s.jobs) }]
  | .ploadEnd => match s.jobs with
    | .pload :: r =>
      let ends (f : Fld) (res : Nat) (pre : Bool) (more : State → Bool) : Row :=
        { pre := pre
          sets := [(.guardPstat, [], f, 1), (.guardPstat, [], F.guardPstat_RES, res), (.guardPload, [], F.guardPload_BUSY, 0)]
          events := [(0, 498)]
          post := fun t => decide (t.jobs = r) && decide (t.load.stage = .idle) && decide (t.comps = []) && more t }
      let res := s.load.res % 2 ^ F.guardPstat_RES.width
      [ends F.guardPstat_REJECT res (decide (s.load.stage = .reject)) fun t => decide (t.sec = s.sec),
       ends F.guardPstat_FAILW res (decide (s.load.stage = .failw) && compsIdle s) fun t => decide (t.sec = s.sec),
       ends F.guardPstat_DONE 1 (decide (s.load.stage = .writing) && s.load.rest.isNone &&
         decide (s.load.dir.length ≤ s.load.seg) && compsIdle s) fun t => t.sec.pcount == (s.sec.pcount + 1) % 2 ^ 32]
    | _ => []
  | .fopRead fail =>
    let a := s.hv .fopArg [3]
    let n := s.hv .fopArg [2]
    let reads := flashReads s (s.hv .fopArg [1]) n
    [{ pre := fopAt s 0 && !fail && reads && sramSpan a n, keepMem := false
       post := fun t => t.hv .fopRan [] == 1 && t.mem.readN a n == flashN s (s.hv .fopArg [1]) n
       tells := fun t => SameOutside s t a n },
     { pre := fopAt s 0 && (fail || !reads), post := fun t => t.hv .fopRan [] == 2 }]
  | .fopProgram fail =>
    let a := s.hv .fopArg [1]
    let n := s.hv .fopArg [2]
    [{ pre := fopAt s 1 && !fail && sramSpan (s.hv .fopArg [3]) n && cleanBytes s (s.hv .fopArg [3]) n &&
         decide (a + n ≤ flashCapacity s.board) && decide (flashCapacity s.board ≤ 2 ^ 40)
       keepMem := false
       post := fun t => t.hv .fopRan [] == 1
       tells := fun t => ((∀ k, k < n → flashByte s (a + k) = 0xFF) → flashN t a n = s.mem.readN (s.hv .fopArg [3]) n) ∧
         ∀ m, m < fuseBase → t.mem.read m = s.mem.read m }]
  | .fopErase fail =>
    let a := s.hv .fopArg [1]
    let n := s.hv .fopArg [2]
    [{ pre := fopAt s 2 && !fail && decide (a % 65536 = 0) && decide (n % 65536 = 0) && decide (0 < flashCount s.board) &&
         decide (a + n ≤ flashCapacity s.board) && decide (flashCapacity s.board ≤ 2 ^ 40)
       keepMem := false
       post := fun t => t.hv .fopRan [] == 1
       tells := fun t => (∀ k, k < n → flashByte t (a + k) = 0xFF) ∧
         (∀ l, l < flashCapacity s.board → l < a ∨ a + n ≤ l → flashByte t l = flashByte s l) ∧
         ∀ m, m < fuseBase → t.mem.read m = s.mem.read m }]
  | .fopDone => match s.jobs with
    | .fop :: r => [{
        pre := s.hv .fopRan [] == 1 || s.hv .fopRan [] == 2
        sets := [(.guardFop, [], F.guardFop_BUSY, 0), (.guardFop, [], F.guardFop_DONE, 1), (.guardFop, [], F.guardFop_ERR,
          if s.hv .fopRan [] = 2 then 1 else s.fld .guardFop [] F.guardFop_ERR)]
        events := [(0, 498)]
        post := fun t => decide (t.jobs = r) }]
    | _ => []
  | _ => []

end Sys2Proof.Claims

/-- R524 to R528, R531, R538: a configuration instruction whose operands have arrived does what it says: WREG and WMEM
send their writes, FRAME stores the frame in the shadow plane, RBC compares, POLL reads until the value matches, CALL
runs a routine on the core, SYNC waits for its dies, END ends a share, and the last FINAL is user start; the limits of
POLL and CALL end the load with CFGERR. The choice is the model's where log entries 46 and 94 say so. -/
def Obligations.Composing : Prop := ∀ (s : State) (i : Instr), ∀ r ∈ composeRows s i, Does s i r

/-- R521 to R523, R535, R539 to R544: the guard core probes the copies and chooses one, releases the next chunk of a
full load, takes and ends partial loads, and reads, programs and erases flash. The choice is the model's where log
entries 7, 46 and 47 say so. -/
def Obligations.FormeLoading : Prop := ∀ (s : State) (i : Instr), ∀ r ∈ loadRows s i, Does s i r

namespace Sys2Proof.Claims

/-- The plane registers of a galley, live and shadow (R547). -/
def planeKeys (d g : Nat) (k : RKey) : Bool :=
  match k.n, k.ix with
  | .galleyClk, a :: b :: _ => a == d && b == g
  | .galleyFportCfg, a :: b :: _ => a == d && b == g
  | .galleyFportWin, a :: b :: _ => a == d && b == g
  | .galleyClksel, a :: b :: _ => a == d && b == g
  | _, _ => false

/-- Side 1 of the plane registers in t is side 0 of them in s: each side is the live or the shadow copy. -/
def planeCopied (s t : State) (d g : Nat) (live0 live1 : Bool) : Bool :=
  let at_ (live : Bool) (ix : List Nat) : List Nat := if live then liveIx ix else ix
  t.reg .galleyClk (at_ live1 [d, g]) == s.reg .galleyClk (at_ live0 [d, g]) &&
    (List.range 4).all (fun k =>
      t.reg .galleyFportCfg (at_ live1 [d, g, k]) == s.reg .galleyFportCfg (at_ live0 [d, g, k]) &&
        t.reg .galleyFportWin (at_ live1 [d, g, k]) == s.reg .galleyFportWin (at_ live0 [d, g, k])) &&
    (List.range 32).all fun n => t.fld .galleyClksel (at_ live1 [d, g, n]) F.galleyClksel_SRC ==
      s.fld .galleyClksel (at_ live0 [d, g, n]) F.galleyClksel_SRC

/-- The galleys of GMASK of a die (R563). -/
def swapSet (s : State) (d : Nat) : List Nat :=
  (List.range 16).filter fun g => (s.fld .ctlXswap [d] F.ctlXswap_GMASK) / 2 ^ g % 2 == 1

/-- The quoins of a galley have a latch that a clock opens (R555). -/
def clockedLatch (s : State) (d g : Nat) : Bool := quoinSigs.any fun q => (latchNet s d g q).isSome

/-- The planes of a galley have been exchanged (R550). -/
def galleySwapped (s t : State) (d g : Nat) : Bool :=
  t.hv .livePlane [d, g] == 1 - liveOf s d g && planeCopied s t d g false true && planeCopied s t d g true false &&
    t.bit .galleySwap [d, g] F.galleySwap_SWAPPED &&
    t.fld .galleySwap [d, g] F.galleySwap_COUNT == (s.fld .galleySwap [d, g] F.galleySwap_COUNT + 1) % 256

/-- Clones, quoins, draining and triggered swaps (R547 to R566, R571). -/
def galleyRows (s : State) : Instr → List Row
  | .clone _ d g _ =>
    let src := frameBase d g (liveOf s d g)
    let dst := frameBase d g (1 - liveOf s d g)
    [{ pre := !cloning s d g && !partialBusy s d g
       sets := [(.galleySwap, [d.val, g.val], F.galleySwap_CLONING, 1)]
       also := planeKeys d g, keepMem := false
       post := fun t => planeCopied s t d g true false
       tells := fun t => ∀ n, t.mem.read n =
         if dst ≤ n ∧ n < dst + 0x600000 ∨ dst + 0x7E0000 ≤ n ∧ n < dst + 0x7E0100 then
           ⟨(s.mem.read (n - dst + src)).data, if (s.mem.read (n - dst + src)).st = 2 then 2 else 0⟩
         else s.mem.read n }]
  | .cloneDone d g => [{ pre := s.runs d g, sets := [(.galleySwap, [d.val, g.val], F.galleySwap_CLONING, 0)] }]
  | .quoinClose _ d g _ => [{
      sets := [(.galleyQuoin, [d.val, g.val], F.galleyQuoin_CLOSE, 1), (.galleyQuoin, [d.val, g.val], F.galleyQuoin_CLOSED, 1)]
      post := fun t => t.hv .quoinOpening [d, g] == 0
      -- every latch that was open holds what its quoin cell declares: the present value, zero or one
      tells := fun t => ∀ q ∈ quoinSigs, t.fabv (.held d g q) =
        if latched s d g q then s.fabv (.held d g q)
        else match cell s d g (.quoin q) with
          | 0 => (sigNow s d g q).toNat
          | c => c / 2 }]
  | .quoinOpen _ d g _ =>
    let closed := galleyClosed s d g && s.hv .quoinOpening [d, g] == 0
    let to_ (c : Nat) : List (RegName × List Nat × Fld × Nat) :=
      [(.galleyQuoin, [d.val, g.val], F.galleyQuoin_CLOSE, 0), (.galleyQuoin, [d.val, g.val], F.galleyQuoin_CLOSED, c)]
    [{ pre := !quoinHeld s d g && closed && clockedLatch s d g, sets := to_ 1
       post := fun t => t.hv .quoinOpening [d, g] == 1 && t.hv .openNets [d, g] == 0 },
     { pre := !quoinHeld s d g && closed && !clockedLatch s d g, sets := to_ 0 },
     { pre := !quoinHeld s d g && !closed, sets := to_ (s.fld .galleyQuoin [d, g] F.galleyQuoin_CLOSED) },
     { pre := quoinHeld s d g }]
  | .caseQuoinClose _ d c _ => [{
      sets := [(.caseQuoin, [d.val, c.val], F.caseQuoin_CLOSE, 1), (.caseQuoin, [d.val, c.val], F.caseQuoin_CLOSED, 1)] }]
  | .quiesce _ d g v => [{
      sets := [(.galleyDrain, [d.val, g.val], F.galleyDrain_QUIESCE, 1),
        (.galleyDrain, [d.val, g.val], F.galleyDrain_LIMIT, F.galleyDrain_LIMIT.get v)] }]
  | .dexp d g => [{
      pre := quiesced s d g && s.fld .galleyDrain [d, g] F.galleyDrain_LIMIT != 0 && inflight s d g != 0 && s.runs d g
      sets := [(.galleyDrain, [d.val, g.val], F.galleyDrain_DEXP, 1)], events := [(d, 179)] }]
  | .xswapGo _ d v => [{
      sets := [(.ctlXswap, [d.val], F.ctlXswap_DMASK, F.ctlXswap_DMASK.get v),
        (.ctlXswap, [d.val], F.ctlXswap_GMASK, F.ctlXswap_GMASK.get v)]
      post := fun t => (List.range 4).all fun e =>
        let asked := F.ctlXswap_DMASK.get v / 2 ^ e % 2
        if e = d.val then t.hv .xswapOwn [e] == s.hv .xswapOwn [e] + asked
        else t.hv .xswapSent [d, e] == s.hv .xswapSent [d, e] + asked * (if activePort s d e then 1 else 2 ^ 16) }]
  | .xswapTrigger e d =>
    let n := s.hv .xswapSent [e, d]
    let here := n != 0 && s.hv .clkWait [] == 0 && activePort s e d
    let gone : State → Bool := fun t => t.hv .xswapSent [e, d] == n - (if n < 2 ^ 16 then 1 else 2 ^ 16)
    let late : List (RegName × List Nat × Fld × Nat) :=
      if n < 2 ^ 16 then [] else [(.ctlXswap, [d.val], F.ctlXswap_LATE, 1)]
    [{ pre := here && !s.bit .ctlXswap [d] F.ctlXswap_PENDING
       sets := (.ctlXswap, [d.val], F.ctlXswap_PENDING, 1) :: late
       events := if n < 2 ^ 16 then [] else [(d, 179)], post := gone },
     { pre := here && s.bit .ctlXswap [d] F.ctlXswap_PENDING
       sets := (.ctlXswap, [d.val], F.ctlXswap_REFUSED, 1) :: late
       events := [(d, 179)], post := gone },
     { pre := n != 0 && s.hv .clkWait [] == 0 && !activePort s e d
       post := fun t => t.hv .xswapSent [e, d] == 2 ^ 16 * (n % 2 ^ 16 + n / 2 ^ 16) }]
  | .xswapCheck d =>
    let due := s.bit .ctlXswap [d] F.ctlXswap_PENDING || s.hv .xswapOwn [d] != 0
    let blocked := s.hv .clkWait [] == 1 || (swapSet s d).any (swapBlocked s d)
    let taken : State → Bool := fun t => if s.bit .ctlXswap [d] F.ctlXswap_PENDING
      then !t.bit .ctlXswap [d] F.ctlXswap_PENDING && t.hv .xswapOwn [d] == s.hv .xswapOwn [d]
      else t.hv .xswapOwn [d] == s.hv .xswapOwn [d] - 1
    [{ pre := due && !blocked
       sets := [(.ctlXswap, [d.val], F.ctlXswap_DONE, 1)], events := [(d, 179)]
       also := fun k => (swapSet s d).any (fun g => planeKeys d g k || decide (k = ⟨.galleySwap, [d, g]⟩)) ||
         decide (k.n = .ioBankStatus ∧ k.ix.head? = some d.val) || decide (k ∈ eventKeys d 162)
       post := fun t => taken t && (swapSet s d).all (galleySwapped s t d)
       -- user registers and wire registers start from their initial values (R238, R247, R253)
       tells := fun t => ∀ g ∈ swapSet s d, ∀ k : FabKey, k.fresh d g = true → t.fabv k = 0 },
     { pre := due && blocked
       sets := [(.ctlXswap, [d.val], F.ctlXswap_REFUSED, 1)], events := [(d, 179)], post := taken }]
  | _ => []

end Sys2Proof.Claims

/-- R547 to R566, R571: a clone copies the live plane to the shadow plane, quoins close with the value that each cell declares
and begin to open, QUIESCE and its limit take effect, and a trigger is sent, arrives, and at its check exchanges the planes of
every galley of GMASK, whose registers start again, or of none. The choice is the model's where log entries 37, 50, 51 and 92
say so. -/
def Obligations.GalleyChanges : Prop := ∀ (s : State) (i : Instr), ∀ r ∈ galleyRows s i, Does s i r

namespace Sys2Proof.Claims

/-- CMD of the row of a fuse command, and the bits that do not take (R577, R578). -/
def fuseRow : Instr → Option (Nat × List Nat)
  | .addkey l => some (1, l) | .revoke l => some (2, l) | .floorCmd l => some (3, l) | .sfloor l => some (4, l)
  | .setfk l => some (5, l) | .policyCmd l => some (6, l) | .encreq l => some (7, l) | .debugBurn l => some (8, l)
  | _ => none

/-- A fuse command ends with BUSY 0 and no longer waits (R580). -/
def fuseEnds (r : List GuardJob) (t : State) : Bool := decide (t.jobs = r) && !t.bit .secReq [0] F.secReq_BUSY

/-- The fuse commands (R574, R577 to R580). -/
def fuseRows (s : State) (i : Instr) : List Row :=
  match fuseRow i, s.jobs with
  | some (code, weak), .fuse :: r =>
    let a := s.hv .reqAddr [0]
    let q := secRead a 0 512 s
    match q.1 with
    | some (x, false) =>
      let bits := fuseBurns s code (bytesAt x 6 1) (bytesAt x 8 4) x
      let takes := bits.all fun k => !weak.contains k || fuseBits s k 1 == 1
      let dbg := fuseDbg s ||| (if code = 8 then bytesAt x 8 4 else 0)
      let relocks := decide (code = 8) && decide (2 ≤ dbg) && !debugLocked s
      let mine := bytesAt x 4 1 == code
      let burnt : State → Prop := fun t => (∀ k, fuseBits t k 1 = if k ∈ bits then 1 else fuseBits s k 1) ∧
        ∀ m, m < fuseBase → t.mem.read m = q.2.mem.read m
      [{ pre := mine && (fuseReason s x).isNone && takes && !relocks
         sets := [(.secSstat, [], F.secSstat_FDONE, 1), (.secReq, [0], F.secReq_BUSY, 0)], events := [(0, 499)]
         also := fun _ => a != mboxBase, keepMem := false, post := fuseEnds r, tells := burnt },
       { pre := mine && (fuseReason s x).isNone && takes && relocks
         sets := [(.secSstat, [], F.secSstat_FDONE, 1), (.secSstat, [], F.secSstat_UNLOCKED, 0)], events := [(0, 499)]
         also := fun _ => true, keepMem := false, keepUnits := false, post := fuseEnds r, tells := burnt },
       { pre := mine && (fuseReason s x).isNone && !takes
         sets := [(.secSstat, [], F.secSstat_FREF, 1), (.secSstat, [], F.secSstat_REASON, 7)], events := [(0, 499)]
         also := fun k => a != mboxBase || decide (k = ⟨.secReq, [0]⟩), keepMem := false, post := fuseEnds r },
       { pre := mine && (fuseReason s x).isSome
         sets := [(.secSstat, [], F.secSstat_FREF, 1), (.secSstat, [], F.secSstat_REASON, (fuseReason s x).getD 0)]
         events := [(0, 499)], keepMem := decide (a = mboxBase)
         also := fun k => a != mboxBase || decide (k = ⟨.secReq, [0]⟩), post := fuseEnds r }]
    | _ => [{
        sets := [(.secSstat, [], F.secSstat_FREF, 1), (.secSstat, [], F.secSstat_REASON, 1)], events := [(0, 499)]
        also := fun _ => true, keepMem := false, post := fuseEnds r }]
  | _, _ => []

/-- What relocking clears (R653). -/
def relocked (t : State) : Bool :=
  !t.bit .secSstat [] F.secSstat_UNLOCKED && t.sec.scope == 0 && t.sec.duration == 0 &&
    !t.bit .debugCtl [] F.debugCtl_BRKHALT && (List.range 4).all fun d => (List.range 16).all fun k =>
      !t.bit .debugLoupe [d, k] F.debugLoupe_EN && t.fld .caseImpCtl [d, k] F.caseImpCtl_REV_WAIT == 0

/-- No processor is Halted, and none has a halt or a step to come. -/
def noneHalted (s : State) : Bool := s.units.all fun e => decide (e.2.st ≠ .halted) && !e.2.haltDue && !e.2.stepping

/-- A relock: halted processors resume (R653, R659). -/
def relockRow (s : State) (pre : Bool) : Row :=
  { pre := pre, post := relocked, keepUnits := noneHalted s
    also := fun k => !noneHalted s || decide (k = ⟨.secSstat, []⟩) || decide (k = ⟨.debugCtl, []⟩) ||
      decide (k.n = .debugLoupe) || decide (k.n = .caseImpCtl) || decide (k = ⟨.debugHstat, []⟩) ||
      decide (k = ⟨.debugHreq, []⟩) || decide (k ∈ eventKeys 0 502) }

/-- A new challenge is drawn (R588). -/
def challenged (s t : State) : Bool :=
  (List.range 6).all fun k => t.reg .secDchal [k] == (Config.challenge s.freeCtr).extractLsb' (64 * k) 64

/-- Attestation and debug unlock (R584, R586 to R589). -/
def unlockRows (s : State) : Instr → List Row
  | .attest => match s.jobs with
    | .attest :: r =>
      let a := s.hv .reqAddr [1]
      let q := secRead a 32 48 s
      match q.1 with
      | some (nonce, _) => [
          { pre := hasIdentity s && a == mboxBase
            sets := [(.secSstat, [], F.secSstat_ADONE, 1), (.secReq, [1], F.secReq_BUSY, 0)], events := [(0, 499)]
            also := fun k => decide (k.n = .secMbox)
            post := fun t =>
              let m := mboxBytes t
              decide (t.jobs = r) && bytesAt m 0 4 == 0x54535441 && bytesAt m 12 4 == folioFloor s &&
                bytesAt m 0 416 == reportBody s nonce % 256 ^ 416 },
          { pre := hasIdentity s && sramSpan a 512 && cleanBytes s (a + 32) 48, keepMem := false
            sets := [(.secSstat, [], F.secSstat_ADONE, 1), (.secReq, [1], F.secReq_BUSY, 0)], events := [(0, 499)]
            post := fun t => decide (t.jobs = r) && t.mem.readN a 416 == reportBody s nonce % 256 ^ 416
            tells := fun t => SameOutside s t a 512 },
          { pre := !hasIdentity s
            sets := [(.secSstat, [], F.secSstat_AERR, 1), (.secReq, [1], F.secReq_BUSY, 0)], events := [(0, 499)]
            also := fun _ => true, keepMem := false, post := fun t => decide (t.jobs = r) }]
      | none => []
    | _ => []
  | .unlockAttempt secs => match s.jobs with
    | .unlock :: r =>
      let wait := s.fld .secSstat [] F.secSstat_WAIT - secs
      let done : State → Bool := fun t => decide (t.jobs = r)
      let fails := min (s.fld .secSstat [] F.secSstat_FAILS + 1) (2 ^ F.secSstat_FAILS.width - 1)
      [{ pre := wait != 0
         sets := [(.secSstat, [], F.secSstat_DDENY, 1), (.secSstat, [], F.secSstat_WAIT, wait)], events := [(0, 499)]
         post := done },
       { pre := wait == 0 && unlockOk s
         sets := [(.secSstat, [], F.secSstat_DGRANT, 1), (.secSstat, [], F.secSstat_UNLOCKED, 1),
           (.secSstat, [], F.secSstat_FAILS, 0)]
         events := [(0, 499)], also := fun k => decide (k.n = .secDchal)
         post := fun t => done t && challenged s t && t.sec.scope == bytesAt (unlockRecord s) 5 1 &&
           t.sec.duration == bytesAt (unlockRecord s) 8 4 },
       { pre := wait == 0 && !unlockOk s
         sets := [(.secSstat, [], F.secSstat_DDENY, 1), (.secSstat, [], F.secSstat_FAILS, fails),
           (.secSstat, [], F.secSstat_WAIT, 2 ^ min fails 6), (.secSstat, [], F.secSstat_UNLOCKED,
             s.fld .secSstat [] F.secSstat_UNLOCKED)]
         events := [(0, 499)], also := fun k => decide (k.n = .secDchal)
         post := fun t => done t && challenged s t && decide (t.sec = s.sec) }]
    | _ => []
  | .dlock _ _ => [relockRow s (!debugLocked s), { pre := debugLocked s }]
  | .unlockExpiry => [relockRow s (!debugLocked s && s.sec.duration != 0)]
  | _ => []

end Sys2Proof.Claims

/-- R574, R577 to R580: a fuse command that no rule refuses burns its bits and no other, sets FDONE and ends; one with a
bit that does not take, and one that a rule refuses, set FREF with the reason. R584, R586 to R589, R653: ATTEST writes
the report, an unlock attempt is granted, denied or made to wait with a new challenge where the rules say so, and a
relock locks debug, clears what it enabled and resumes what it halted. The choice is the model's where log entries 44
and 52 say so. -/
def Obligations.FusesAndUnlock : Prop :=
  ∀ (s : State) (i : Instr), ∀ r ∈ fuseRows s i ++ unlockRows s i, Does s i r

namespace Sys2Proof.Claims

/-- The events of a domain (R628). -/
def selEvents : DomSel → List (Nat × Nat)
  | .die d _ => [(d, 180)]
  | .pkg _ => [(0, 501)]

/-- A byte of the memories of a domain of a die (R383, R390). -/
def domainByte (d k a : Nat) : Bool :=
  let at_ (b n : Nat) : Bool := decide (b ≤ a) && decide (a < b + n)
  if k < 16 then at_ (frameBase d k 0) 0x1000000
  else if k < 32 then at_ (caseBase d (k - 16)) 0x100000 || at_ (lmemBase d (k - 16) 0) (9 * 0x40000)
  else if k = 32 then at_ (sramBase d) 0x80000
  else if k = 34 then at_ (cmapBase d 0) 0x100000 || at_ (cmapBase d 1) 0x100000
  else false

/-- A domain of a die holds its reset contents (R219, R615, R620): its registers, but for REMAP and USTATE and what waits at
the event router, its memories, and every processor of it, Stopped (R126, R623). -/
def domainFresh (t : State) (d k : Nat) : Prop :=
  (∀ x : RKey, keyDom x = .die d k → x.n ≠ .caseSpareRemap → x.n ≠ .caseSpareStatus → x.n ≠ .eventPend →
    x.n ≠ .eventRoute → t.reg x.n x.ix = resetAt x.n x.ix) ∧
  (∀ a, domainByte d k a = true → t.mem.read a = ⟨0, 0⟩) ∧
  (∀ u, unitDom u = .die d k → t.unit u = UnitState.init u)

/-- The registers that a reset of a domain changes. -/
def contentKeys (s : State) (r : DomSel) (k : RKey) : Bool :=
  match r with
  | .die d n => n.val == 33 || decide (keyDom k = .die d n) || decide (k = ⟨.debugHreq, []⟩) ||
    (decide (35 ≤ n.val) && decide (n.val < 38) && ethAlso d k)
  | .pkg n => if n.val = 0 then decide (domOf (addrOf k.n k.ix) = .pkg 0) else n.val == 3 && (debugKey k || !noneHalted s)

/-- A reset of a domain leaves the memories, and the processors, as they are. -/
def contentMem : DomSel → Bool
  | .die _ k => decide (35 ≤ k.val)
  | .pkg _ => true
def contentUnits (s : State) : DomSel → Bool
  | .die _ k => decide (k.val < 16) || decide (34 ≤ k.val)
  | .pkg k => k.val != 3 || noneHalted s

/-- A die after its reset (R619 to R621). -/
def dieFresh (t : State) (d cause state : Nat) : Bool :=
  t.fld .powerDie [d] F.powerDie_DSTATE == state && t.fld .powerDie [d] F.powerDie_DCAUSE == cause &&
    (List.range 39).all fun k => t.fld .powerDom [d, k] F.powerDom_STATE == 2 && t.fld .powerDom [d, k] F.powerDom_ON == 1

/-- Domains and dies (R611 to R621). -/
def powerRows (s : State) : Instr → List Row
  | .domainOff w r _ =>
    let n := (selReg r).1
    let ix := (selReg r).2
    let st := selFld s r F.powerDom_STATE
    [{ pre := st == 2 && mayStop s w r
       sets := [(n, ix, F.powerDom_STATE, 3), (n, ix, F.powerDom_ON, 0)]
       also := contentKeys s r, keepMem := contentMem r, keepUnits := contentUnits s r
       tells := fun t => match r with | .die d k => domainFresh t d k | .pkg _ => True },
     { pre := st == 2 && !mayStop s w r
       sets := [(n, ix, F.powerDom_STATE, 2), (n, ix, F.powerDom_ON, 1), (n, ix, F.powerDom_REFUSED, 1)], events := selEvents r },
     { pre := st == 1 || st == 3, sets := [(n, ix, F.powerDom_STATE, st), (n, ix, F.powerDom_ON, 0)] }]
  | .domainOn _ r _ =>
    let n := (selReg r).1
    let ix := (selReg r).2
    let st := selFld s r F.powerDom_STATE
    [{ pre := st != 2, sets := [(n, ix, F.powerDom_STATE, if st = 0 then 1 else st), (n, ix, F.powerDom_ON, 1)] }]
  | .domainReset _ r v =>
    let n := (selReg r).1
    let ix := (selReg r).2
    [{ pre := selFld s r F.powerDom_STATE == 2 && F.powerDom_ON.get v == 1 && !selHeld s r && (match r with
         | .die d k => !domTested s d k && (k.val != 33 || !linksMayRun s)
         | .pkg _ => true)
       sets := [(n, ix, F.powerDom_STATE, 2), (n, ix, F.powerDom_RESET, 0)]
       also := contentKeys s r, keepMem := contentMem r, keepUnits := contentUnits s r
       tells := fun t => match r with
         | .die d k => domainFresh t d k
         | .pkg k => (k = 0 → t.time = { TimeState.init with keys := s.time.keys, follow := s.time.follow, rates := s.time.rates }) ∧ (k = 3 → t.tap = TapState.init) }]
  | .switchOpen r =>
    let n := (selReg r).1
    let ix := (selReg r).2
    let net := match r with | .die _ k => k.val == 33 | .pkg _ => false
    [{ pre := selFld s r F.powerDom_STATE == 3
       sets := [(n, ix, F.powerDom_STATE, selFld s r F.powerDom_ON), (n, ix, F.powerDom_CHG, 1)], events := selEvents r
       also := fun k => net || (match r with
         | .die d _ => decide (k = ⟨.bistLockout, [d]⟩) || decide (k = ⟨.powerDie, [d]⟩)
         | .pkg p => p.val == 0 && decide (k = ⟨.timeStatus, []⟩))
       post := fun t => match r with
         | .die d k => (decide (32 ≤ k.val) || (t.fld .bistLockout [d] (if k.val < 16 then F.bistLockout_GALLEY
             else F.bistLockout_CASE)) / 2 ^ (k.val % 16) % 2 == 0) &&
           (!((List.range 39).all fun j => j == k.val || s.fld .powerDom [d, j] F.powerDom_STATE == 0) ||
             t.fld .powerDie [d] F.powerDie_DSTATE == 0)
         | .pkg _ => true }]
  | .domainPowered r =>
    let n := (selReg r).1
    let ix := (selReg r).2
    let wide := match r with | .die _ k => k.val == 33 | .pkg k => k.val == 1 || k.val == 2
    [{ pre := selFld s r F.powerDom_STATE == 1 && selFld s r F.powerDom_ON == 1 && selFld s r F.powerDom_RESET == 0
       sets := [(n, ix, F.powerDom_STATE, 2), (n, ix, F.powerDom_CHG, 1)], events := selEvents r
       also := fun k => wide || contentKeys s r k || (match r with | .die d _ => decide (k = ⟨.powerDie, [d]⟩) | .pkg _ => false)
       keepMem := contentMem r, keepUnits := contentUnits s r
       post := fun t => match r with
         | .die d k => !((List.range 39).all fun j => j == k.val || s.fld .powerDom [d, j] F.powerDom_STATE == 2) ||
             s.fld .powerDie [d] F.powerDie_DSTATE != 0 || t.fld .powerDie [d] F.powerDie_DSTATE == 1
         | .pkg _ => true
       tells := fun t => match r with | .die d k => k ≠ 33 → domainFresh t d k | .pkg _ => True }]
  | .dieOff _ d _ => [{
      pre := s.fld .powerDie [d] F.powerDie_ON == 1
      sets := [(.powerDie, [d.val], F.powerDie_ON, 0)]
      also := fun _ => true, keepMem := false, keepUnits := false
      post := fun t => (List.range 39).all fun k => t.fld .powerDom [d, k] F.powerDom_ON == 0 &&
        t.fld .powerDom [d, k] F.powerDom_STATE == (if s.fld .powerDom [d, k] F.powerDom_STATE = 2 then 3
          else s.fld .powerDom [d, k] F.powerDom_STATE) }]
  | .dieOn _ d _ => [{
      pre := s.fld .powerDie [d] F.powerDie_ON == 0
      sets := [(.powerDie, [d.val], F.powerDie_ON, 1)]
      also := fun k => decide (k.n = .powerDom ∧ k.ix.head? = some d.val)
      post := fun t => (List.range 39).all fun k => t.fld .powerDom [d, k] F.powerDom_ON == 1 &&
        t.fld .powerDom [d, k] F.powerDom_STATE == (if s.fld .powerDom [d, k] F.powerDom_STATE = 0 then 1
          else s.fld .powerDom [d, k] F.powerDom_STATE) }]
  | .dieReset _ d _ => [{
      pre := !(List.range 39).all fun k => s.fld .powerDom [d, k] F.powerDom_STATE == 0
      also := fun _ => true, keepMem := false, keepUnits := false
      post := fun t => dieFresh t d 2 (if gstate s = 5 ∧ s.hv .supplyOut [d] = 0 then 2 else 1)
      tells := fun t => ∀ k, k < 39 → k ≠ 33 → domainFresh t d k }]
  | .supfail d => [{
      sets := [(.powerDie, [d.val], F.powerDie_SUPFAIL, 1), (.powerSupstat, [], ⟨d.val, 1⟩, 0)], events := [(0, 501)]
      also := fun _ => true, keepMem := false, keepUnits := false
      post := fun t => dieFresh t d 5 1 && t.hv .supplyOut [d] == 1
      tells := fun t => ∀ k, k < 39 → k ≠ 33 → domainFresh t d k }]
  | _ => []

/-- A source failure (R434, R600 to R604). -/
def failureRow (s : State) (root : Option (Fin 4)) (pre : Bool) (more : List (RegName × List Nat × Fld × Nat)) : Row :=
  { pre := pre && (ckstate s == 1 || ckstate s == 4)
    sets := more ++ [(.powerClkflags, [], F.powerClkflags_CKFAIL, 1), (.powerClkstat, [], F.powerClkstat_CKSTATE, 3)] ++
      (match root with
        | none => [(.powerClkstat, [], F.powerClkstat_CAUSE, 1), (.powerClkstat, [], F.powerClkstat_REFSRC, 0),
            (.powerClkstat, [], F.powerClkstat_ROOTLOCK, 0)]
        | some d => [(.powerClkstat, [], F.powerClkstat_CAUSE, 2 + d.val),
            (.powerClkstat, [], ⟨F.powerClkstat_ROOTLOCK.lo + d.val, 1⟩, 0)])
    events := [(0, 500)]
    also := fun k => decide (k.n = .ddrStatus ∨ k.n = .lgrpLaneStatus ∨ k.n = .lgrpLaneFlags) ||
      (List.range 4).any fun d => decide (k ∈ eventKeys d 170)
    -- every lane is idle, and reports no signal (R440)
    post := fun t => t.hv .clkWait [] == 1 && t.hv .proven [] == 0 && decide (t.windows = []) &&
      (List.range 4).all fun d =>
        (List.range 12).all (fun p => lstate s d p != 5 || t.hv .ckPort [d, p] == 1) &&
          ((List.range 2).all fun k => ddrState t d k == if ddrState s d k = 3 then 5 else ddrState s d k) &&
            (List.range 24).all fun n => t.fld .lgrpLaneStatus [d, n / 8, n % 8] F.lgrpLaneStatus_SIGDET == 0 &&
              t.fld .lgrpLaneStatus [d, n / 8, n % 8] F.lgrpLaneStatus_CDRLOCK == 0
    -- an output with a safe level takes it, and one without releases its pad (R293)
    tells := fun t => ∀ d g k, padStrapped t d g k = false → padDir t d g k ≠ 0 →
      padAlone t d g k = if padSafe t d g k = 1 then .drive false else if padSafe t d g k = 2 then .drive true
        else strapped t d (pinBank g k) }

/-- The reference clock (R594 to R606). -/
def clockSourceRows (s : State) : Instr → List Row
  | .provingWindow count =>
    let w := (count.val :: s.windows).take 4
    let outside := decide (count.val < 7946) || decide (8438 < count.val)
    let fails := outside && (ckstate s == 1 || ckstate s == 4)
    let up := s.hv .guardUp [] == 1
    [{ pre := up && !fails && !windowsProve w, sets := [(.powerClkstat, [], F.powerClkstat_WINCNT, count.val)]
       post := fun t => decide (t.windows = w) && t.hv .proven [] == s.hv .proven [] },
     { pre := up && !fails && windowsProve w
       sets := (.powerClkstat, [], F.powerClkstat_WINCNT, count.val) ::
         (if ckstate s = 3 then [(.powerClkstat, [], F.powerClkstat_REFSRC, 1)] else [])
       post := fun t => decide (t.windows = w) && t.hv .proven [] == 1 },
     failureRow s none (up && outside) [(.powerClkstat, [], F.powerClkstat_WINCNT, count.val)]]
  | .handOver => [{
      pre := s.hv .guardUp [] == 1 && s.hv .proven [] == 1 && ckstate s == 0
      sets := [(.powerClkstat, [], F.powerClkstat_REFSRC, 1), (.powerClkstat, [], F.powerClkstat_ROOTLOCK, 15),
        (.powerClkstat, [], F.powerClkstat_CKSTATE, 1)]
      also := fun _ => true
      post := fun t => (List.range 4).all fun d => (List.range 12).all fun p =>
        !(lstate s d p == 0 && portPowered s d p && !s.domOff (partnerOf d p) 33) || lstate t d p == 1 }]
  | .referenceNotProven => [{
      pre := s.hv .guardUp [] == 1 && s.hv .proven [] == 0 && ckstate s == 0
      sets := [(.powerClkflags, [], F.powerClkflags_REFFAIL, 1)], events := [(0, 500)] }]
  | .sourceFailure root => [failureRow s root true []]
  | .rootRelockTry d ok => [
      { pre := ckstate s == 3 && s.hv .proven [] == 1 && ok
        sets := [(.powerClkstat, [], ⟨F.powerClkstat_ROOTLOCK.lo + d.val, 1⟩, 1)] },
      { pre := !ok }]
  | .sourceReturn =>
    let waits := (List.range 4).any fun d => (List.range 12).any fun p => s.hv .ckPort [d, p] == 1 && lstate s d p == 5
    [{ pre := ckstate s == 3 && s.hv .proven [] == 1 && s.fld .powerClkstat [] F.powerClkstat_ROOTLOCK == 15 &&
         s.hv .reselect [] == 0
       sets := (.powerClkstat, [], F.powerClkstat_CKSTATE, if waits then 4 else 1) ::
         (if waits then [] else [(.powerClkflags, [], F.powerClkflags_RETURNED, 1)])
       events := if waits then [] else [(0, 500)], also := fun _ => true
       post := fun t => t.hv .clkWait [] == 0 && (List.range 4).all fun d =>
         (List.range 2).all fun k => ddrState t d k == ddrState s d k &&
           (ddrState s d k != 5 || t.hv .centring [d, k] == if ddrTwoRanks s d k then 3 else 1) }]
  | .waitLimit => [{
      pre := ckstate s == 3 && s.fld .powerClkctl [] F.powerClkctl_WAITLIM != 0
      sets := [(.powerClkflags, [], F.powerClkflags_WLIM, 1)], events := [(0, 500)]
      also := fun _ => true, keepMem := false, keepUnits := false
      post := fun t => t.hv .reselect [] == 1 && (List.range 4).all fun d => dieFresh t d 4 1 }]
  | _ => []

/-- Power-on, guard and debug resets, supplies and sensors (R575, R586, R588, R619 to R625, R692, R704). -/
def resetRows (s : State) : Instr → List Row
  | .powerOnReset => [{
      also := fun _ => true, keepMem := false, keepUnits := false
      post := fun t => decide (t.units = []) && t.hv .guardUp [] == 0 && decide (t.flight = []) && decide (t.jobs = []) &&
        decide (t.sec = SecState.init) && decide (t.tap = TapState.init) && decide (t.time = TimeState.init)
      tells := fun t => (∀ n ix, n ≠ .powerSupstat → t.reg n ix = resetAt n ix) ∧
        (∀ m, m < fuseBase → t.mem.read m = ⟨0, 0⟩) ∧
        ∀ m, fuseBase ≤ m → Store.get t.mem.bytes m = Store.get s.mem.bytes m }]
  | .pornRise board puf => [{
      pre := s.hv .guardUp [] == 0
      sets := [(.powerSupstat, [], ⟨0, 26⟩, 2 ^ 26 - 1), (.powerSupstat, [], F.powerSupstat_HK33, board.hk33.toNat)]
      also := fun k => probeKeys k || decide (k.n = .secSstat) || decide (k.n = .secDchal) ||
        decide (k.n = .caseSpareRemap) || decide (k.n = .caseSpareStatus) || decide (k.n = .photonInpwr) ||
        decide (k.n = .photonLaser)
      keepUnits := false, keepMem := false
      post := fun t => t.hv .guardUp [] == 1 && decide (t.board = board) && probed { s with board := board } t &&
        decide ((t.unit .guard).st = .running) && (t.unit .guard).pc == 0 && challenged s t &&
        t.hv .identity [] == puf.toNat && (puf || t.bit .secSstat [] F.secSstat_IDFAIL) &&
        (fuseDbg s != 0 || (t.bit .secSstat [] F.secSstat_UNLOCKED && t.sec.scope == 0xFF)) &&
        (!board.lightA || t.bit .photonLaser [] F.photonLaser_A_OK) && (!board.lightB || t.bit .photonLaser [] F.photonLaser_B_OK) &&
        (let sel := s.fld .photonLaser [] F.photonLaser_SEL
         t.fld .photonLaser [] F.photonLaser_ACT == if !inputOk t sel && inputOk t (1 - sel) then 1 - sel else sel)
      -- the memories of the guard core are filled (R383), and no other memory changes
      tells := fun t => ∀ m, t.mem.read m =
        if guardBase ≤ m ∧ m < guardBase + min Config.guardMemSize (2 ^ 52) then ⟨0, 0⟩ else s.mem.read m }]
  | .guardReset puf => [{
      pre := s.pdomOn 3 && granted s 6 && s.hv .guardUp [] == 1
      sets := [(.powerRcause, [], F.powerRcause_GCAUSE, 4), (.powerRcause, [], F.powerRcause_GCOUNT,
        min (s.fld .powerRcause [] F.powerRcause_GCOUNT + 1) (2 ^ F.powerRcause_GCOUNT.width - 1))]
      also := fun _ => true, keepMem := false, keepUnits := false
      post := fun t => probed s t && decide ((t.unit .guard).st = .running) && challenged s t && decide (t.flight = []) &&
        decide (t.time = TimeState.init) && t.hv .identity [] == puf.toNat && !t.bit .debugCtl [] F.debugCtl_BRKHALT &&
        (fuseDbg s == 0 || !t.bit .secSstat [] F.secSstat_UNLOCKED) && (List.range 4).all fun d =>
          t.reg .powerDie [d] == resetAt .powerDie [d] && decide (t.unit (.core (fin4 d)) = UnitState.init (.core (fin4 d))) }]
  | .debugReset => [{
      also := fun k => debugKey k || !noneHalted s, keepUnits := noneHalted s
      post := fun t => decide (t.tap = TapState.init)
      tells := fun t => noneHalted s = true → ∀ x, debugKey x = true → t.reg x.n x.ix = resetAt x.n x.ix }]
  | .temperatureRead d raw =>
    let lim : Int := 8 * s.fld .powerTemp [d] F.powerTemp_TLIM
    let temp : RegName × List Nat × Fld × Nat := (.powerTemp, [d.val], F.powerTemp_TEMP, raw.toNat)
    let hot := decide (lim ≤ raw.toInt) && s.hv .thotArmed [d] == 0
    [{ pre := hot, sets := [temp, (.powerTemp, [d.val], F.powerTemp_THOT, 1)], events := [(0, 501)]
       post := fun t => t.hv .thotArmed [d] == 1 },
     { pre := !hot, sets := [temp]
       post := fun t => t.hv .thotArmed [d] == if raw.toInt < lim - 40 then 0 else s.hv .thotArmed [d] }]
  | .railWindowChange rail inside =>
    let shown : RegName × List Nat × Fld × Nat := (.powerSupstat, [], ⟨rail.val, 1⟩, inside.toNat)
    let lanes := decide (10 ≤ rail.val) && decide (rail.val < 18) && !inside
    let roots := rail.val == 6 && !inside
    let d := (rail.val - 10) % 4
    let unlocked : RegName × List Nat × Fld × Nat := (.powerClkstat, [], F.powerClkstat_ROOTLOCK, 0)
    [{ pre := (decide (6 ≤ rail.val) && decide (rail.val < 26) || decide (rail.val < 6) && inside) && !lanes && !roots
       sets := [shown]
       post := fun t => decide (4 ≤ rail.val) || t.hv .supplyOut [rail] == 0 },
     -- VCCAUX: every die root unlocks, a source failure
     failureRow s (some 0) roots [shown, unlocked],
     { pre := roots && ckstate s != 1 && ckstate s != 4, sets := [shown, unlocked] },
     -- VCCLA and VCCLT: the lane PLLs of the die unlock
     { pre := lanes, sets := [shown], also := fun k => (List.range 3).any fun j => groupAlso d j k
       post := fun t => (List.range 6).all fun n => t.fld .lgrpPll [d, n / 2, n % 2] F.lgrpPll_LOCK == 0 &&
         t.fld .lgrpPll [d, n / 2, n % 2] F.lgrpPll_LOL == max (s.fld .lgrpPll [d, n / 2, n % 2] F.lgrpPll_LOL)
           (s.fld .lgrpPll [d, n / 2, n % 2] F.lgrpPll_LOCK) },
     idleRow s (decide (26 ≤ rail.val) || decide (rail.val < 6) && !inside)]
  | _ => []

end Sys2Proof.Claims

/-- R611 to R621: a domain is switched off where its preconditions hold and refused elsewhere, powers on with its reset
contents, and is reset in place; a die is switched off and on by its domains, and a die reset leaves every domain On
with its reset contents. The choice is the model's where log entry 49 says so. -/
def Obligations.PowerDomains : Prop := ∀ (s : State) (i : Instr), ∀ r ∈ powerRows s i, Does s i r

/-- R434, R594 to R606: four windows prove the reference, the hand-over takes it into use, a source failure stops the
clocks, puts DRAM to self-refresh and the pads to their safe states (R293), and the sources return, or a wait limit
resets the dies. The choice is the model's
where log entry 48 says so. -/
def Obligations.ReferenceClock : Prop := ∀ (s : State) (i : Instr), ∀ r ∈ clockSourceRows s i, Does s i r

/-- R575, R586, R588, R619 to R625, R692, R704: what a power-on reset, the rise of PORN, a guard reset and a debug reset
leave, and what supplies and temperature sensors show and unlock. The choice is the model's where log entries 6, 8, 49 and 91
say so. -/
def Obligations.ResetsAndSensors : Prop := ∀ (s : State) (i : Instr), ∀ r ∈ resetRows s i, Does s i r

namespace Sys2Proof.Claims

/-- GO of `bist.ctl` with a TKIND (R629, R630, R642). -/
def testRows (s : State) (d : Fin 4) (kind : Nat) (v : W64) : List Row :=
  let unit := F.bistCtl_UNIT.get v
  let pos := F.bistCtl_POS.get v
  let logic := F.bistCtl_LOGIC.get v
  let ok := s.fld .bistStatus [d] F.bistStatus_STATE == 0 && decide (pos ≤ 8) &&
    (logic == 1 || F.bistCtl_MEM.get v == 1) && testReady s d kind unit pos
  [{ pre := F.bistCtl_STOP.get v == 0 && ok
     sets := [(.bistStatus, [d.val], F.bistStatus_STATE, if logic = 1 then 1 else 2),
       (.bistStatus, [d.val], F.bistStatus_LFAIL, 0), (.bistStatus, [d.val], F.bistStatus_MFAIL, 0),
       (.bistCtl, [d.val], F.bistCtl_TKIND, kind), (.bistCtl, [d.val], F.bistCtl_UNIT, unit)] ++
       (if kind = 0 then [(.galleyQuoin, [d.val, unit], F.galleyQuoin_CLOSE, 1), (.galleyQuoin, [d.val, unit], F.galleyQuoin_CLOSED, 1)]
        else if kind = 1 then [(.caseSpareStatus, [d.val, unit], F.caseSpareStatus_USTATE, 2)] else [])
     post := fun t => t.hv .bistKind [d] == kind && t.hv .bistUnit [d] == unit && t.hv .bistPos [d] == pos },
   { pre := F.bistCtl_STOP.get v == 0 && !ok
     sets := [(.bistStatus, [d.val], F.bistStatus_REFUSED, 1)], events := [(d, 181)] }]

/-- The target of a test is back (R629, R645). -/
def testedKeys (d kind unit : Nat) (k : RKey) : Bool :=
  match kind with
  | 0 => decide (keyDom k = .die d unit) || decide (k = ⟨.debugHreq, []⟩)
  | 1 => decide (k = ⟨.caseSpareStatus, [d, unit]⟩)
  | _ => decide (keyDom k = .die d (16 + unit)) || decide (k = ⟨.debugHreq, []⟩)

/-- Self-test and repair (R629 to R646). -/
def bistRows (s : State) : Instr → List Row
  | .galleyTest _ d v => testRows s d 0 v
  | .positionTest _ d v => testRows s d 1 v
  | .caseTest _ d v => testRows s d 2 v
  | .testStop _ d v =>
    let st := s.fld .bistStatus [d] F.bistStatus_STATE
    [{ pre := F.bistCtl_GO.get v == 0 && (st == 1 || st == 2)
       sets := [(.bistStatus, [d.val], F.bistStatus_STATE, 3), (.bistStatus, [d.val], F.bistStatus_ABORTED, 1)]
       events := [(d, 181)], also := fun k => decide (k = ⟨.bistCtl, [d]⟩) }]
  | .logicSelfTestDone d sig golden => [{
      pre := s.fld .bistStatus [d] F.bistStatus_STATE == 1 && s.hv .clkWait [] == 0 &&
        golden == Config.golden (s.hv .bistKind [d])
      sets := [(.bistSig, [d.val], F.bistSig_SIG, sig.toNat), (.bistSig, [d.val], F.bistSig_GOLDEN, golden.toNat),
        (.bistStatus, [d.val], F.bistStatus_LFAIL, if sig = golden then 0 else 1),
        (.bistStatus, [d.val], F.bistStatus_STATE, if s.hv .bistParts [d] / 2 % 2 = 1 then 2 else 3)] },
      idleRow s (golden != Config.golden (s.hv .bistKind [d]))]
  | .memorySelfTestDone d fails =>
    let own := fails.filter fun b => ownMacro (s.hv .bistKind [d]) (s.hv .bistUnit [d]) (s.hv .bistPos [d]) b.1 &&
      decide (b.2.1 < macroBytes b.1)
    let on := s.fld .bistStatus [d] F.bistStatus_STATE == 2 && s.hv .clkWait [] == 0
    let repair := s.hv .bistParts [d] / 4 % 2 == 1
    let ends (bad : Nat) : List (RegName × List Nat × Fld × Nat) :=
      [(.bistStatus, [d.val], F.bistStatus_MFAIL, bad), (.bistStatus, [d.val], F.bistStatus_STATE, 3)]
    [{ pre := on && s.hv .bistRun [d] == 0 && decide (own = [])
       sets := (.bistMfail, [d.val], F.bistMfail_COUNT, 0) :: ends 0 },
     { pre := on && s.hv .bistRun [d] == 0 && decide (own ≠ []) && !repair
       sets := ends 1
       also := fun k => decide (k = ⟨.bistMfail, [d]⟩)
       post := fun t => t.fld .bistMfail [d] F.bistMfail_COUNT != 0 && own.any fun b =>
         t.fld .bistMfail [d] F.bistMfail_MACRO == b.1 % 2 ^ 17 && t.fld .bistMfail [d] F.bistMfail_ADDR == b.2.1 % 2 ^ 16 &&
           t.fld .bistMfail [d] F.bistMfail_BIT == b.2.2.val },
     { pre := on && s.hv .bistRun [d] == 1, sets := ends (if own = [] then 0 else 1) }] ++
    (match own, (List.range 64).find? fun k => softEntry s d k / 2 ^ 31 % 2 == 0 with
      | [b], some k => [{
          pre := on && s.hv .bistRun [d] == 0 && repair && decide (repairsOf s d b.1 = []) &&
            decide (b.1 < 2 ^ 17)
          sets := [(.bistStatus, [d.val], F.bistStatus_REPAIRED, 1), (.bistSrep, [d.val, k], ⟨0, 10⟩, b.2.1 / 64),
            (.bistSrep, [d.val, k], ⟨10, 17⟩, b.1), (.bistSrep, [d.val, k], ⟨27, 2⟩, d.val), (.bistSrep, [d.val, k], ⟨31, 1⟩, 1)]
          events := [(d, 181)], also := fun k => decide (k = ⟨.bistMfail, [d]⟩)
          post := fun t => t.hv .bistRun [d] == 1 && t.fld .bistStatus [d] F.bistStatus_STATE == 2 &&
            decide (t.repairs = s.repairs ++ [(d.val, b.1, 0, b.2.1 / 64)]) }]
      | _, _ => [])
  | .finishingDone d =>
    let kind := s.hv .bistKind [d]
    let unit := s.hv .bistUnit [d]
    let f := if kind = 0 then F.bistLockout_GALLEY else F.bistLockout_CASE
    let early := s.hv .bistParts [d] / 8 % 2 == 1
    let fail := !early && (s.bit .bistStatus [d] F.bistStatus_LFAIL || s.bit .bistStatus [d] F.bistStatus_MFAIL)
    let on := s.fld .bistStatus [d] F.bistStatus_STATE == 3 && s.hv .clkWait [] == 0 && decide (kind ≤ 2) &&
      decide (unit < 16) && decide (s.hv .bistPos [d] ≤ 8)
    -- a reset of the case came while one of its positions was tested, and follows (R643)
    let due := s.hv .bistParts [d] / 16 == 1
    [{ pre := on && kind == 1 && due
       sets := [(.bistStatus, [d.val], F.bistStatus_STATE, 0), (.bistStatus, [d.val], F.bistStatus_DONE, 1)]
       events := [(d, 181)]
       also := fun k => testedKeys d 2 unit k || decide (k = ⟨.caseSpareStatus, [d, unit]⟩), keepMem := false, keepUnits := false
       tells := fun t => domainFresh t d (16 + unit) },
     { pre := on && !due
       sets := [(.bistStatus, [d.val], F.bistStatus_STATE, 0), (.bistStatus, [d.val], F.bistStatus_DONE, 1),
         (.bistStatus, [d.val], F.bistStatus_FAIL, if fail then 1 else s.fld .bistStatus [d] F.bistStatus_FAIL)] ++
         (if kind = 1 then [(.caseSpareStatus, [d.val, unit], F.caseSpareStatus_USTATE, 1)] else []) ++
         (if kind = 2 then [(.caseQuoin, [d.val, unit], F.caseQuoin_CLOSED, 1)] else [])
       events := [(d, 181)]
       also := fun k => testedKeys d kind unit k || decide (k = ⟨.bistLockout, [d]⟩), keepMem := false
       keepUnits := decide (kind = 0)
       post := fun t => (kind == 1 || (t.fld .bistLockout [d] f / 2 ^ unit % 2 ==
           if early then s.fld .bistLockout [d] f / 2 ^ unit % 2 else if fail then 1 else 0)) &&
         (kind != 1 || t.hv .spareTested [d, unit] == if early || fail then 0 else 1)
       tells := fun t => kind = 0 → domainFresh t d unit }]
  | _ => []

end Sys2Proof.Claims

/-- R629 to R646: a self-test starts on a target that is ready and is refused elsewhere; its parts end with their
results, the first failing bit and the repair; at its end the target is back, DONE is set and the unit is locked out or
let in. The choice is the model's where log entry 53 says so. -/
def Obligations.SelfTests : Prop := ∀ (s : State) (i : Instr), ∀ r ∈ bistRows s i, Does s i r

namespace Sys2Proof.Claims

/-- The test access port holds instruction `op`; nothing else of the device has changed. -/
def tapRow (pre : Bool) (f : TapState → Bool) : Row := { pre := pre, post := fun t => f t.tap }

/-- The instructions of the SCAN group (R652, R670, R671): what each captures and drives. -/
def scanRows (s : State) (op : Nat) (f : TapState → Bool) : List Row :=
  let allowed := granted s 4 && (op == 2 || pinsFree s)
  [tapRow (s.pdomOn 3 && allowed) fun x => x.ir == op && f x,
   { pre := s.pdomOn 3 && !allowed
     sets := [(.debugHstat, [], F.debugHstat_SCANREF, 1)], events := [(0, 502)], post := fun t => t.tap.ir == 0xFF },
   tapRow (!s.pdomOn 3) fun x => x.ir == 0xFF]

/-- A register of the four blocks of the port, as its offset names it (R648, R649). -/
def portReg (blk : Fin 4) (off : Nat) (w64 : Bool) : RegHit := regHit (portBase blk + off) (if w64 then 8 else 4)

/-- The debug port and its test access port (R647 to R656, R670 to R672). -/
def portRows (s : State) : Instr → List Row
  | .idcode => [tapRow (s.pdomOn 3) fun x => x.ir == 1 &&
      x.dr.toNat == (F.idIdcode_STEPPING.get (identityCode s)) * 2 ^ 28 + 0x9440 * 2 ^ 12 + 0x1D3 * 2 + 1,
      tapRow (!s.pdomOn 3) fun x => x.ir == 0xFF]
  | .samplePreload pins bits => scanRows s 2 fun x => x.captured == pins && x.boundary == bits
  | .extest pins bits => scanRows s 3 fun x => x.captured == pins && x.boundary == bits
  | .extestPulse pins bits => scanRows s 4 fun x => x.captured == pins && x.boundary == bits
  | .extestTrain pins bits => scanRows s 5 fun x => x.captured == pins && x.boundary == bits
  | .clamp => scanRows s 6 fun x => x.boundary == s.tap.boundary
  | .highz => scanRows s 7 fun _ => true
  | .bypass => [tapRow true fun x => x.ir == 0xFF]
  | .dreg blk off w64 wr v =>
    match portReg blk off.toNat w64 with
    | .reg ⟨n, ix, live⟩ =>
      let open_ := openReg n || granted s 0
      [{ pre := s.pdomOn 3 && !wr && open_ && (!debugLocked s || openReg n)
         post := fun t => t.tap.ir == 0x20 && t.tap.res == 0 && t.tap.dr == regView .debug n ix s && t.answer.status == OK },
       { pre := s.pdomOn 3 && !wr && !open_
         post := fun t => t.tap.ir == 0x20 && t.tap.res == 2 && t.answer.status == REFUSED },
       { pre := s.pdomOn 3 && wr && !debugLocked s && decide (n = .debugData) && w64 && !live
         sets := [(.debugData, [], ⟨0, 64⟩, v.toNat)]
         post := fun t => t.tap.res == 0 && t.answer.status == OK },
       { pre := s.pdomOn 3 && wr && (debugLocked s && !openReg n || !debugLocked s && !writeAllowed s n ix (if w64 then v
           else v &&& 0xFFFFFFFF))
         post := fun t => t.tap.res == 2 && t.answer.status == REFUSED }]
    | _ => []
  | .debugWindow far off w64 wr v =>
    match portReg ⟨off.toNat / 2 ^ 20 % 4, by omega⟩ (off.toNat % 2 ^ 20) w64 with
    | .reg ⟨n, ix, live⟩ =>
      let on := windowExposed s (pcieDie far) && s.pdomOn 3
      [{ pre := on && !wr && (openReg n || granted s 0) && (!debugLocked s || openReg n)
         post := fun t => t.answer.status == OK && t.answer.data == regView .debug n ix s },
       { pre := on && wr && !debugLocked s && decide (n = .debugData) && w64 && !live
         sets := [(.debugData, [], ⟨0, 64⟩, v.toNat)], post := fun t => t.answer.status == OK },
       { pre := on && wr && debugLocked s && !openReg n, post := fun t => t.answer.status == REFUSED }]
    | _ => []
  | .debugAccess v =>
    let a := F.debugAcc_ADDR.get v
    let n := 2 ^ F.debugAcc_SIZE.get v
    let wr := F.debugAcc_WRITE.get v == 1
    let data := (s.reg .debugData []).toNat % 256 ^ n
    let on := s.pdomOn 3 && !debugLocked s && !s.bit .debugAcc [] F.debugAcc_BUSY
    let may := a % n == 0 && requestAllowed s wr a n (BitVec.ofNat 64 data)
    [{ pre := on && may
       sets := [(.debugAcc, [], F.debugAcc_BUSY, 1), (.debugAcc, [], F.debugAcc_ADDR, a)]
       post := fun t => decide ((t.init .debug).queue = (s.init .debug).queue ++
         [{ mkReq s .debug (if wr then .wr else .rd) a n (if wr then data else 0) with
            pri := F.debugAcc_PRI.get v, quiet := !wr && F.debugAcc_NOQUIET.get v == 0, acc := (s.init .debug).nextAcc }]) },
     { pre := on && !may, sets := [(.debugAcc, [], F.debugAcc_STATUS, REFUSED)]
       post := fun t => decide (t.inits = s.inits) },
     { pre := !(s.pdomOn 3 && !debugLocked s), post := fun t => t.answer.status == REFUSED }]
  | _ => []

/-- No processor has still to halt, to resume or to step (R657). -/
def settled (s : State) : Bool := s.units.all fun e => e.2.resume == 0 && !e.2.stepping && !e.2.haltDue

/-- One processor that the halt controller names: its domain is On, its die Released, it is not part of a Halted case. -/
def haltOne (s : State) (v : W64) : Option UnitId :=
  match haltTarget s (F.debugHreq_KIND.get v) (F.debugHreq_NUM.get v) with
  | some (.unit u) => if targetOn s (.unit u) && (match u with
      | .eng d c _ => s.hv .caseHalted [d, c] != 1
      | _ => true) then some u else none
  | _ => none

/-- The halt controller and the watchdog (R657 to R667). -/
def haltRows (s : State) : Instr → List Row
  | .debugHalt v =>
    let on := haltGranted s && !s.bit .debugHreq [] F.debugHreq_BUSY
    (match haltOne s v with
      | some u =>
        let x := s.unit u
        let free := decide (x.st ≠ .halted) && decide (x.st ≠ .armed) && (match u with | .core d => !composing s d | _ => true)
        -- a migration pause ends first, and so does a replay (R210, R230)
        let busy := decide (x.st = .migrating) || (decide (x.st = .running) && x.mismRun != 0)
        [{ pre := on && free && !busy && settled s && x.resume == 0 && !x.stepping &&
             (decide (x.st ≠ .running) || (asyncCause s u).isNone)
           sets := [(.debugHstat, [], F.debugHstat_DONE, 1), (.debugHreq, [], F.debugHreq_BUSY, 0)], events := [(0, 502)]
           keepUnits := false
           post := fun t => decide ((t.unit u).st = .halted) && decide ((t.unit u).back = x.st) && (t.unit u).pc == x.pc &&
             decide ((t.unit u).resv = none) && (List.range 32).all fun k => (t.unit u).getG k == x.getG k
           tells := fun t => ∀ w, w ≠ u → t.unit w = s.unit w },
         { pre := on && free && busy
           sets := [(.debugHreq, [], F.debugHreq_BUSY, 1)], keepUnits := false
           post := fun t => decide (t.unit u = { x with haltDue := true }) },
         { pre := on && !free
           sets := [(.debugHstat, [], F.debugHstat_REFUSED, 1)], events := [(0, 502)] }]
      | none => []) ++ [{ pre := !haltGranted s, post := fun t => t.answer.status == REFUSED }]
  | .debugResume v =>
    match haltOne s v with
    | some u =>
      let x := s.unit u
      let here := match u with | .eng d c p => s.hv .slotCtr [d, c] == s.hv .haltSlot [d, c, p] | _ => true
      [{ pre := haltGranted s && !s.bit .debugHreq [] F.debugHreq_BUSY && decide (x.st = .halted) && here &&
           decide (x.held = []) && decide (x.back ≠ .halted) && !x.stopping
         also := fun k => decide (k = ⟨.debugHreq, []⟩) || decide (k = ⟨.debugHstat, []⟩) || decide (k ∈ eventKeys 0 502) ||
           decide (k.n = .caseEngWdog ∨ k.n = .ctlWdog)
         keepUnits := false
         post := fun t => decide ((t.unit u).st = x.back) && (t.unit u).pc == x.pc &&
           (List.range 32).all fun k => (t.unit u).getG k == x.getG k
         tells := fun t => ∀ w, w ≠ u → t.unit w = s.unit w },
       { pre := haltGranted s && !s.bit .debugHreq [] F.debugHreq_BUSY && decide (x.st = .halted) && !here
         sets := [(.debugHreq, [], F.debugHreq_BUSY, 1)], keepUnits := false
         post := fun t => decide ((t.unit u).st = .halted) && (t.unit u).resume == 1 },
       { pre := haltGranted s && decide (x.st ≠ .halted)
         sets := [(.debugHstat, [], F.debugHstat_REFUSED, 1)], events := [(0, 502)] }]
    | none => []
  | .debugStep v =>
    match haltOne s v with
    | some u =>
      let x := s.unit u
      let here := match u with | .eng d c p => s.hv .slotCtr [d, c] == s.hv .haltSlot [d, c, p] | _ => true
      [{ pre := haltGranted s && !s.bit .debugHreq [] F.debugHreq_BUSY && decide (x.st = .halted) && here &&
           decide (x.held = []) && decide (x.back = .running) && !x.stopping
         sets := [(.debugHreq, [], F.debugHreq_BUSY, 1)]
         keepUnits := false
         post := fun t => decide ((t.unit u).st = .running) && (t.unit u).stepping && (t.unit u).pc == x.pc &&
           (List.range 32).all fun k => (t.unit u).getG k == x.getG k
         tells := fun t => ∀ w, w ≠ u → t.unit w = s.unit w }]
    | none => []
  | .watchdogExpiry u =>
    let row (n : RegName) (ix : List Nat) (due : Bool) (events : List (Nat × Nat)) : Row :=
      { pre := due && s.fld n ix F.caseEngWdog_PERIOD != 0 && decide ((s.unit u).st = .running) && s.live u
        sets := [(n, ix, F.caseEngWdog_WEXP, 1), (n, ix, F.caseEngWdog_REMAIN, 256 * s.fld n ix F.caseEngWdog_PERIOD)]
        events := events, keepUnits := false
        post := fun t => decide (t.unit u = { s.unit u with wdog := true })
        tells := fun t => ∀ w, w ≠ u → t.unit w = s.unit w }
    match u with
    | .eng d c p =>
      let sl := s.slotOf d c p
      if sl < 8 then [row .caseEngWdog [d, c, sl] (s.fld .caseEngWdog [d, c, sl] F.caseEngWdog_REMAIN == 0)
        (if s.caseClosed d c then [] else [(d.val, 182)])] else []
    | .core d => [row .ctlWdog [d] (s.fld .ctlWdog [d] F.caseEngWdog_REMAIN == 0) [(d.val, 182)]]
    | .guard => []
  | _ => []

/-- The event router (R675 to R684). -/
def eventRows (s : State) : Instr → List Row
  | .raiseEvent _ d v =>
    let n := F.eventRaise_NUM.get v
    [{ pre := decide (256 ≤ n) && decide (n ≤ 447), events := [(d, n)], sets := [(.eventRaise, [d.val], F.eventRaise_NUM, n)] },
     { pre := !(decide (256 ≤ n) && decide (n ≤ 447)), sets := [(.eventRaise, [d.val], F.eventRaise_NUM, n)] }]
  | .pendClear _ d w v => [{
      keepUnits := false
      also := fun k => decide (k = ⟨.eventPend, [d, w]⟩) ||
        (List.range 32).any fun b => v.getLsbD b && decide (k = ⟨.eventRoute, [d, 32 * w + b]⟩)
      post := fun t => t.reg .eventPend [d, w] == s.reg .eventPend [d, w] &&& ~~~(v &&& 0xFFFFFFFF) &&
        (List.range 32).all fun b => t.fld .eventRoute [d, 32 * w + b] F.eventRoute_TAKEN ==
          if v.getLsbD b then 0 else s.fld .eventRoute [d, 32 * w + b] F.eventRoute_TAKEN
      tells := fun t => ∀ u, (t.unit u).st = (s.unit u).st ∧ (t.unit u).pc = (s.unit u).pc ∧
        ∀ k, (t.unit u).getG k = (s.unit u).getG k }]
  | .fabricEvent d g k => [
      { pre := galleyRuns s d g && !galleyClosed s d g && s.hv .eventOwed [d, g, k] == 1
        events := [(d, 192 + 4 * g.val + k.val)], post := fun t => t.hv .eventOwed [d, g, k] == 0 },
      idleRow s (!(galleyRuns s d g && !galleyClosed s d g && s.hv .eventOwed [d, g, k] == 1))]
  | .eventDelivery d n => match routeTarget s d n with
    | some u => [
        { pre := deliverable s (512 * d + n) u && reachable s d u && !(s.unit u).delivered.contains (512 * d + n)
          keepUnits := false
          post := fun t =>
            decide (t.unit u = { s.unit u with delivered := (s.unit u).delivered ++ [512 * d.val + n.val] })
          tells := fun t => ∀ w, w ≠ u → t.unit w = s.unit w },
        { pre := !deliverable s (512 * d + n) u || !reachable s d u }]
    | none => [{}]
  | _ => []

end Sys2Proof.Claims


/-- R675 to R684: a software event and a fabric event become pending, a pending bit is cleared with its TAKEN mark, and
an event reaches the processor that its route names, or waits. The choice is the model's where log entry 57 says so. -/
def Obligations.EventRouter : Prop := ∀ (s : State) (i : Instr), ∀ r ∈ eventRows s i, Does s i r

/-- R647 to R656, R670 to R672: the instructions of the test access port, and register accesses and requests through the
debug port, take effect as far as the scope of the unlock permits, and are refused beyond it. R657 to R667: the halt
controller halts, resumes and steps the processor that it names, and refuses what it must; a watchdog that expires sets
WEXP, posts its cause and starts again. The choice is the model's where log entries 17, 54, 55 and 56 say so. -/
def Obligations.DebugPortAndHalt : Prop :=
  ∀ (s : State) (i : Instr), ∀ r ∈ portRows s i ++ haltRows s i, Does s i r

/-- A command waits its turn: one step runs the command at the front of the queue with the rest of the queue; with nothing
waiting one cycle of the clocks passes, which is the model's choice (log entry 2). -/
def Obligations.StepRunsCommand : Prop :=
  ∀ (s : State) (c : Instr) (r : List Instr),
    (s.pending = c :: r → step s = exec c { s with pending := r }) ∧ (s.pending = [] → step s = .next (tick s))

/-- R46, R47, R92 to R95, R119, R145, R146: the word of every legal scalar and vector instruction decodes to that
instruction, with every operand. -/
def Obligations.InstructionWordsDecode : Prop :=
  (∀ i : SInstr, i.wf = true → decodeScalar (scalarWord i) = i) ∧ (∀ v : VInstr, v.wf = true → decodeVector (vectorWord v) = v)

/-- R92 to R95, R145, R146: words written out from the encodings of the spec. -/
def Obligations.WrittenOutWords : Prop :=
  decodeScalar 0x00000000 = .add { rd := 0, ra := 0, rb := 0, rc := 0 } ∧
  decodeScalar 0x04A4FFF8 = .addi { rd := 5, ra := 4, imm := 0xFFF8 } ∧
  decodeVector 0xC0000000 = .vnop { vd := 0, va := 0, vb := 0, pg := 0, t := 0 }

/-- R378 to R383, R390, R413: the memories stay in canonical form: whatever command runs in a state whose memories are, they
are after it. -/
def Obligations.MemoryStaysCanonical : Prop :=
  ∀ (s t : State), s.MemOk → step s = .next t → t.MemOk

/-- R17, R88, R219, R383, R390: what reset leaves: memories in canonical form that read as zero, every register at its reset
value, every processor Stopped with its general registers at 0, a die control core at control level and every other at level
0, the engines of a case in their own positions, nothing in flight. The queue of commands is empty, and so are the general
registers, by the model's choice (log entry 1). -/
def Obligations.ResetState : Prop :=
  State.reset.MemOk ∧ State.reset.pending = [] ∧ State.reset.flight = [] ∧ (∀ a, State.reset.mem.read a = ⟨0, 0⟩) ∧
  (∀ n ix, State.reset.reg n ix = resetAt n ix) ∧
  (∀ u, (State.reset.unit u).st = .stopped ∧ (∀ k, (State.reset.unit u).getG k = 0) ∧
    (State.reset.unit u).st_ fPRIV = (match u with | .core _ => 1 | _ => 0)) ∧
  (∀ d c sl, sl ≤ 8 → State.reset.posOf d c sl = sl)

/-- R96: division by zero and the division of −2^63 by −1 return what the rule says, and do not trap: on a Rolran-C they run
wherever a MUL of the same registers would. -/
def Obligations.DivisionCorners : Prop :=
  ∀ (s : State) (u : UnitId) (r : FmtR) (x : SInstr) (i : Instr), isEng u = false → scRow u noVec x = some i →
    Issues s u (.mul r) noVec →
    ((s.unit u).getG r.rb.toNat = 0 →
      (x = .divs r ∨ x = .divu r →
        exec i s = .next (s.setUnit u ((moved s u 0).setG r.rd.toNat (BitVec.allOnes 64)))) ∧
      (x = .rems r ∨ x = .remu r →
        exec i s = .next (s.setUnit u ((moved s u 0).setG r.rd.toNat ((s.unit u).getG r.ra.toNat))))) ∧
    ((s.unit u).getG r.ra.toNat = BitVec.ofInt 64 (-2 ^ 63) → (s.unit u).getG r.rb.toNat = BitVec.ofInt 64 (-1) →
      (x = .divs r → exec i s = .next (s.setUnit u ((moved s u 0).setG r.rd.toNat (BitVec.ofInt 64 (-2 ^ 63))))) ∧
      (x = .rems r → exec i s = .next (s.setUnit u ((moved s u 0).setG r.rd.toNat 0))))

/-- R678: a write of GO to `raise` with NUM from 256 to 447 raises that software event of the die, any other NUM is ignored,
and any initiator may write `raise` on any die. -/
def Obligations.SoftwareEvents : Prop :=
  ∀ (s : State) (w : Who) (d : Fin 4) (v : W64) (n : Nat), n = F.eventRaise_NUM.get v →
    mayWrite w .eventRaise [d] = true ∧
    (unitOff s (addrOf .eventRaise [d]) = false → heldReset s (addrOf .eventRaise [d]) = false →
      Gives (exec (.raiseEvent w d v) s) fun t => t.answer.status = OK ∧
        (256 ≤ n ∧ n ≤ 447 → Pending t d n ∧ t.bit .eventRoute [d, n] F.eventRoute_TAKEN = false) ∧
        (¬ (256 ≤ n ∧ n ≤ 447) → ∀ e k, t.reg .eventPend [e, k] = s.reg .eventPend [e, k]) ∧
        (∀ e k j, 512 * e + 32 * k + j ≠ 512 * d.val + n → j < 32 → k < 16 →
          (t.reg .eventPend [e, k]).getLsbD j = (s.reg .eventPend [e, k]).getLsbD j))
end

