-- ==== Sys2Proof/Laws/Dispatch.lean ====
section
/-! SUPPORT. The meaning of each command, by name: a proof about a command rewrites with its lemma and never unfolds the
whole of `exec`. -/

namespace Sys2Proof.Machine
open Sys2Proof

@[simp] theorem exec_registerWrite (who : Who) (addr : Nat) (bytes : Nat) (v : W64) (s : State) : exec (.registerWrite who addr bytes v) s = execRegisterWrite who addr bytes v s := rfl
@[simp] theorem exec_rcRead (who : Who) (addr : Nat) (bytes : Nat) (quiet : Bool) (s : State) : exec (.rcRead who addr bytes quiet) s = execRcRead who addr bytes quiet s := rfl
@[simp] theorem exec_add (u : UnitId) (r : FmtR) (v : VInstr) (s : State) : exec (.add u r v) s = execAdd u r v s := rfl
@[simp] theorem exec_sub (u : UnitId) (r : FmtR) (v : VInstr) (s : State) : exec (.sub u r v) s = execSub u r v s := rfl
@[simp] theorem exec_and (u : UnitId) (r : FmtR) (v : VInstr) (s : State) : exec (.and u r v) s = execAnd u r v s := rfl
@[simp] theorem exec_or (u : UnitId) (r : FmtR) (v : VInstr) (s : State) : exec (.or u r v) s = execOr u r v s := rfl
@[simp] theorem exec_xor (u : UnitId) (r : FmtR) (v : VInstr) (s : State) : exec (.xor u r v) s = execXor u r v s := rfl
@[simp] theorem exec_andn (u : UnitId) (r : FmtR) (v : VInstr) (s : State) : exec (.andn u r v) s = execAndn u r v s := rfl
@[simp] theorem exec_shl (u : UnitId) (r : FmtR) (v : VInstr) (s : State) : exec (.shl u r v) s = execShl u r v s := rfl
@[simp] theorem exec_shr (u : UnitId) (r : FmtR) (v : VInstr) (s : State) : exec (.shr u r v) s = execShr u r v s := rfl
@[simp] theorem exec_sra (u : UnitId) (r : FmtR) (v : VInstr) (s : State) : exec (.sra u r v) s = execSra u r v s := rfl
@[simp] theorem exec_ror (u : UnitId) (r : FmtR) (v : VInstr) (s : State) : exec (.ror u r v) s = execRor u r v s := rfl
@[simp] theorem exec_slt (u : UnitId) (r : FmtR) (v : VInstr) (s : State) : exec (.slt u r v) s = execSlt u r v s := rfl
@[simp] theorem exec_sltu (u : UnitId) (r : FmtR) (v : VInstr) (s : State) : exec (.sltu u r v) s = execSltu u r v s := rfl
@[simp] theorem exec_min (u : UnitId) (r : FmtR) (v : VInstr) (s : State) : exec (.min u r v) s = execMin u r v s := rfl
@[simp] theorem exec_max (u : UnitId) (r : FmtR) (v : VInstr) (s : State) : exec (.max u r v) s = execMax u r v s := rfl
@[simp] theorem exec_minu (u : UnitId) (r : FmtR) (v : VInstr) (s : State) : exec (.minu u r v) s = execMinu u r v s := rfl
@[simp] theorem exec_maxu (u : UnitId) (r : FmtR) (v : VInstr) (s : State) : exec (.maxu u r v) s = execMaxu u r v s := rfl
@[simp] theorem exec_clz (u : UnitId) (r : FmtR) (v : VInstr) (s : State) : exec (.clz u r v) s = execClz u r v s := rfl
@[simp] theorem exec_ctz (u : UnitId) (r : FmtR) (v : VInstr) (s : State) : exec (.ctz u r v) s = execCtz u r v s := rfl
@[simp] theorem exec_pop (u : UnitId) (r : FmtR) (v : VInstr) (s : State) : exec (.pop u r v) s = execPop u r v s := rfl
@[simp] theorem exec_ext (u : UnitId) (r : FmtR) (v : VInstr) (s : State) : exec (.ext u r v) s = execExt u r v s := rfl
@[simp] theorem exec_sel (u : UnitId) (r : FmtR) (v : VInstr) (s : State) : exec (.sel u r v) s = execSel u r v s := rfl
@[simp] theorem exec_mul (u : UnitId) (r : FmtR) (v : VInstr) (s : State) : exec (.mul u r v) s = execMul u r v s := rfl
@[simp] theorem exec_mulhs (u : UnitId) (r : FmtR) (v : VInstr) (s : State) : exec (.mulhs u r v) s = execMulhs u r v s := rfl
@[simp] theorem exec_mulhu (u : UnitId) (r : FmtR) (v : VInstr) (s : State) : exec (.mulhu u r v) s = execMulhu u r v s := rfl
@[simp] theorem exec_divs (u : UnitId) (r : FmtR) (v : VInstr) (s : State) : exec (.divs u r v) s = execDivs u r v s := rfl
@[simp] theorem exec_divu (u : UnitId) (r : FmtR) (v : VInstr) (s : State) : exec (.divu u r v) s = execDivu u r v s := rfl
@[simp] theorem exec_rems (u : UnitId) (r : FmtR) (v : VInstr) (s : State) : exec (.rems u r v) s = execRems u r v s := rfl
@[simp] theorem exec_remu (u : UnitId) (r : FmtR) (v : VInstr) (s : State) : exec (.remu u r v) s = execRemu u r v s := rfl
@[simp] theorem exec_addi (u : UnitId) (r : FmtI) (v : VInstr) (s : State) : exec (.addi u r v) s = execAddi u r v s := rfl
@[simp] theorem exec_andi (u : UnitId) (r : FmtI) (v : VInstr) (s : State) : exec (.andi u r v) s = execAndi u r v s := rfl
@[simp] theorem exec_ori (u : UnitId) (r : FmtI) (v : VInstr) (s : State) : exec (.ori u r v) s = execOri u r v s := rfl
@[simp] theorem exec_xori (u : UnitId) (r : FmtI) (v : VInstr) (s : State) : exec (.xori u r v) s = execXori u r v s := rfl
@[simp] theorem exec_slti (u : UnitId) (r : FmtI) (v : VInstr) (s : State) : exec (.slti u r v) s = execSlti u r v s := rfl
@[simp] theorem exec_sltui (u : UnitId) (r : FmtI) (v : VInstr) (s : State) : exec (.sltui u r v) s = execSltui u r v s := rfl
@[simp] theorem exec_shi (u : UnitId) (r : FmtI) (v : VInstr) (s : State) : exec (.shi u r v) s = execShi u r v s := rfl
@[simp] theorem exec_mvz (u : UnitId) (r : FmtK) (v : VInstr) (s : State) : exec (.mvz u r v) s = execMvz u r v s := rfl
@[simp] theorem exec_mvk (u : UnitId) (r : FmtK) (v : VInstr) (s : State) : exec (.mvk u r v) s = execMvk u r v s := rfl
@[simp] theorem exec_mvn (u : UnitId) (r : FmtK) (v : VInstr) (s : State) : exec (.mvn u r v) s = execMvn u r v s := rfl
@[simp] theorem exec_l (u : UnitId) (r : FmtM) (v : VInstr) (s : State) : exec (.l u r v) s = execL u r v s := rfl
@[simp] theorem exec_s (u : UnitId) (r : FmtM) (v : VInstr) (s : State) : exec (.s u r v) s = execS u r v s := rfl
@[simp] theorem exec_cl (u : UnitId) (r : FmtM) (v : VInstr) (s : State) : exec (.cl u r v) s = execCl u r v s := rfl
@[simp] theorem exec_cs (u : UnitId) (r : FmtM) (v : VInstr) (s : State) : exec (.cs u r v) s = execCs u r v s := rfl
@[simp] theorem exec_xl (u : UnitId) (r : FmtM) (v : VInstr) (s : State) : exec (.xl u r v) s = execXl u r v s := rfl
@[simp] theorem exec_xs (u : UnitId) (r : FmtM) (v : VInstr) (s : State) : exec (.xs u r v) s = execXs u r v s := rfl
@[simp] theorem exec_cat (u : UnitId) (r : FmtA) (v : VInstr) (s : State) : exec (.cat u r v) s = execCat u r v s := rfl
@[simp] theorem exec_xat (u : UnitId) (r : FmtA) (v : VInstr) (s : State) : exec (.xat u r v) s = execXat u r v s := rfl
@[simp] theorem exec_lkl (u : UnitId) (r : FmtA) (v : VInstr) (s : State) : exec (.lkl u r v) s = execLkl u r v s := rfl
@[simp] theorem exec_stu (u : UnitId) (r : FmtA) (v : VInstr) (s : State) : exec (.stu u r v) s = execStu u r v s := rfl
@[simp] theorem exec_beq (u : UnitId) (r : FmtB) (v : VInstr) (s : State) : exec (.beq u r v) s = execBeq u r v s := rfl
@[simp] theorem exec_bne (u : UnitId) (r : FmtB) (v : VInstr) (s : State) : exec (.bne u r v) s = execBne u r v s := rfl
@[simp] theorem exec_blt (u : UnitId) (r : FmtB) (v : VInstr) (s : State) : exec (.blt u r v) s = execBlt u r v s := rfl
@[simp] theorem exec_bge (u : UnitId) (r : FmtB) (v : VInstr) (s : State) : exec (.bge u r v) s = execBge u r v s := rfl
@[simp] theorem exec_bltu (u : UnitId) (r : FmtB) (v : VInstr) (s : State) : exec (.bltu u r v) s = execBltu u r v s := rfl
@[simp] theorem exec_bgeu (u : UnitId) (r : FmtB) (v : VInstr) (s : State) : exec (.bgeu u r v) s = execBgeu u r v s := rfl
@[simp] theorem exec_jl (u : UnitId) (r : FmtJ) (v : VInstr) (s : State) : exec (.jl u r v) s = execJl u r v s := rfl
@[simp] theorem exec_jr (u : UnitId) (r : FmtI) (v : VInstr) (s : State) : exec (.jr u r v) s = execJr u r v s := rfl
@[simp] theorem exec_loop (u : UnitId) (r : FmtL) (v : VInstr) (s : State) : exec (.loop u r v) s = execLoop u r v s := rfl
@[simp] theorem exec_loopi (u : UnitId) (r : FmtLI) (v : VInstr) (s : State) : exec (.loopi u r v) s = execLoopi u r v s := rfl
@[simp] theorem exec_srd (u : UnitId) (r : FmtY) (v : VInstr) (s : State) : exec (.srd u r v) s = execSrd u r v s := rfl
@[simp] theorem exec_swr (u : UnitId) (r : FmtY) (v : VInstr) (s : State) : exec (.swr u r v) s = execSwr u r v s := rfl
@[simp] theorem exec_fence (u : UnitId) (r : FmtY) (v : VInstr) (s : State) : exec (.fence u r v) s = execFence u r v s := rfl
@[simp] theorem exec_sys (u : UnitId) (r : FmtY) (v : VInstr) (s : State) : exec (.sys u r v) s = execSys u r v s := rfl
@[simp] theorem exec_brk (u : UnitId) (r : FmtY) (v : VInstr) (s : State) : exec (.brk u r v) s = execBrk u r v s := rfl
@[simp] theorem exec_rte (u : UnitId) (r : FmtY) (v : VInstr) (s : State) : exec (.rte u r v) s = execRte u r v s := rfl
@[simp] theorem exec_halt (u : UnitId) (r : FmtY) (v : VInstr) (s : State) : exec (.halt u r v) s = execHalt u r v s := rfl
@[simp] theorem exec_wev (u : UnitId) (r : FmtY) (v : VInstr) (s : State) : exec (.wev u r v) s = execWev u r v s := rfl
@[simp] theorem exec_takeTrap (u : UnitId) (s : State) : exec (.takeTrap u) s = execTakeTrap u s := rfl
@[simp] theorem exec_vnop (u : UnitId) (r : FmtVR) (x : SInstr) (s : State) : exec (.vnop u r x) s = execVnop u r x s := rfl
@[simp] theorem exec_vadd (u : UnitId) (r : FmtVR) (x : SInstr) (s : State) : exec (.vadd u r x) s = execVadd u r x s := rfl
@[simp] theorem exec_vsub (u : UnitId) (r : FmtVR) (x : SInstr) (s : State) : exec (.vsub u r x) s = execVsub u r x s := rfl
@[simp] theorem exec_vadds (u : UnitId) (r : FmtVR) (x : SInstr) (s : State) : exec (.vadds u r x) s = execVadds u r x s := rfl
@[simp] theorem exec_vsubs (u : UnitId) (r : FmtVR) (x : SInstr) (s : State) : exec (.vsubs u r x) s = execVsubs u r x s := rfl
@[simp] theorem exec_vmin (u : UnitId) (r : FmtVR) (x : SInstr) (s : State) : exec (.vmin u r x) s = execVmin u r x s := rfl
@[simp] theorem exec_vmax (u : UnitId) (r : FmtVR) (x : SInstr) (s : State) : exec (.vmax u r x) s = execVmax u r x s := rfl
@[simp] theorem exec_vabs (u : UnitId) (r : FmtVR) (x : SInstr) (s : State) : exec (.vabs u r x) s = execVabs u r x s := rfl
@[simp] theorem exec_vneg (u : UnitId) (r : FmtVR) (x : SInstr) (s : State) : exec (.vneg u r x) s = execVneg u r x s := rfl
@[simp] theorem exec_vand (u : UnitId) (r : FmtVR) (x : SInstr) (s : State) : exec (.vand u r x) s = execVand u r x s := rfl
@[simp] theorem exec_vor (u : UnitId) (r : FmtVR) (x : SInstr) (s : State) : exec (.vor u r x) s = execVor u r x s := rfl
@[simp] theorem exec_vxor (u : UnitId) (r : FmtVR) (x : SInstr) (s : State) : exec (.vxor u r x) s = execVxor u r x s := rfl
@[simp] theorem exec_vsel (u : UnitId) (r : FmtVR) (x : SInstr) (s : State) : exec (.vsel u r x) s = execVsel u r x s := rfl
@[simp] theorem exec_vconj (u : UnitId) (r : FmtVR) (x : SInstr) (s : State) : exec (.vconj u r x) s = execVconj u r x s := rfl
@[simp] theorem exec_vperm (u : UnitId) (r : FmtVR) (x : SInstr) (s : State) : exec (.vperm u r x) s = execVperm u r x s := rfl
@[simp] theorem exec_vzipl (u : UnitId) (r : FmtVR) (x : SInstr) (s : State) : exec (.vzipl u r x) s = execVzipl u r x s := rfl
@[simp] theorem exec_vziph (u : UnitId) (r : FmtVR) (x : SInstr) (s : State) : exec (.vziph u r x) s = execVziph u r x s := rfl
@[simp] theorem exec_vuzpe (u : UnitId) (r : FmtVR) (x : SInstr) (s : State) : exec (.vuzpe u r x) s = execVuzpe u r x s := rfl
@[simp] theorem exec_vuzpo (u : UnitId) (r : FmtVR) (x : SInstr) (s : State) : exec (.vuzpo u r x) s = execVuzpo u r x s := rfl
@[simp] theorem exec_vshl (u : UnitId) (r : FmtVI) (x : SInstr) (s : State) : exec (.vshl u r x) s = execVshl u r x s := rfl
@[simp] theorem exec_vshls (u : UnitId) (r : FmtVI) (x : SInstr) (s : State) : exec (.vshls u r x) s = execVshls u r x s := rfl
@[simp] theorem exec_vsra (u : UnitId) (r : FmtVI) (x : SInstr) (s : State) : exec (.vsra u r x) s = execVsra u r x s := rfl
@[simp] theorem exec_vsrar (u : UnitId) (r : FmtVI) (x : SInstr) (s : State) : exec (.vsrar u r x) s = execVsrar u r x s := rfl
@[simp] theorem exec_vsrl (u : UnitId) (r : FmtVI) (x : SInstr) (s : State) : exec (.vsrl u r x) s = execVsrl u r x s := rfl
@[simp] theorem exec_vsplat (u : UnitId) (r : FmtVI) (x : SInstr) (s : State) : exec (.vsplat u r x) s = execVsplat u r x s := rfl
@[simp] theorem exec_vceq (u : UnitId) (r : FmtVP) (x : SInstr) (s : State) : exec (.vceq u r x) s = execVceq u r x s := rfl
@[simp] theorem exec_vclt (u : UnitId) (r : FmtVP) (x : SInstr) (s : State) : exec (.vclt u r x) s = execVclt u r x s := rfl
@[simp] theorem exec_vcle (u : UnitId) (r : FmtVP) (x : SInstr) (s : State) : exec (.vcle u r x) s = execVcle u r x s := rfl
@[simp] theorem exec_pand (u : UnitId) (r : FmtVP) (x : SInstr) (s : State) : exec (.pand u r x) s = execPand u r x s := rfl
@[simp] theorem exec_por (u : UnitId) (r : FmtVP) (x : SInstr) (s : State) : exec (.por u r x) s = execPor u r x s := rfl
@[simp] theorem exec_pnot (u : UnitId) (r : FmtVP) (x : SInstr) (s : State) : exec (.pnot u r x) s = execPnot u r x s := rfl
@[simp] theorem exec_vbc (u : UnitId) (r : FmtVG) (x : SInstr) (s : State) : exec (.vbc u r x) s = execVbc u r x s := rfl
@[simp] theorem exec_vext (u : UnitId) (r : FmtVG) (x : SInstr) (s : State) : exec (.vext u r x) s = execVext u r x s := rfl
@[simp] theorem exec_vins (u : UnitId) (r : FmtVG) (x : SInstr) (s : State) : exec (.vins u r x) s = execVins u r x s := rfl
@[simp] theorem exec_pfromg (u : UnitId) (r : FmtVG) (x : SInstr) (s : State) : exec (.pfromg u r x) s = execPfromg u r x s := rfl
@[simp] theorem exec_ptog (u : UnitId) (r : FmtVG) (x : SInstr) (s : State) : exec (.ptog u r x) s = execPtog u r x s := rfl
@[simp] theorem exec_vl (u : UnitId) (r : FmtVM) (x : SInstr) (s : State) : exec (.vl u r x) s = execVl u r x s := rfl
@[simp] theorem exec_vl2 (u : UnitId) (r : FmtVM) (x : SInstr) (s : State) : exec (.vl2 u r x) s = execVl2 u r x s := rfl
@[simp] theorem exec_vs (u : UnitId) (r : FmtVM) (x : SInstr) (s : State) : exec (.vs u r x) s = execVs u r x s := rfl
@[simp] theorem exec_vmacH (u : UnitId) (r : FmtVA) (x : SInstr) (s : State) : exec (.vmacH u r x) s = execVmacH u r x s := rfl
@[simp] theorem exec_vmacbH (u : UnitId) (r : FmtVA) (x : SInstr) (s : State) : exec (.vmacbH u r x) s = execVmacbH u r x s := rfl
@[simp] theorem exec_vmacB (u : UnitId) (r : FmtVA) (x : SInstr) (s : State) : exec (.vmacB u r x) s = execVmacB u r x s := rfl
@[simp] theorem exec_vmacbB (u : UnitId) (r : FmtVA) (x : SInstr) (s : State) : exec (.vmacbB u r x) s = execVmacbB u r x s := rfl
@[simp] theorem exec_vcmac (u : UnitId) (r : FmtVA) (x : SInstr) (s : State) : exec (.vcmac u r x) s = execVcmac u r x s := rfl
@[simp] theorem exec_vcmacb (u : UnitId) (r : FmtVA) (x : SInstr) (s : State) : exec (.vcmacb u r x) s = execVcmacb u r x s := rfl
@[simp] theorem exec_vcmacbj (u : UnitId) (r : FmtVA) (x : SInstr) (s : State) : exec (.vcmacbj u r x) s = execVcmacbj u r x s := rfl
@[simp] theorem exec_vcmulr (u : UnitId) (r : FmtVX) (x : SInstr) (s : State) : exec (.vcmulr u r x) s = execVcmulr u r x s := rfl
@[simp] theorem exec_vbf4 (u : UnitId) (r : FmtVX) (x : SInstr) (s : State) : exec (.vbf4 u r x) s = execVbf4 u r x s := rfl
@[simp] theorem exec_voutH (u : UnitId) (r : FmtVO) (x : SInstr) (s : State) : exec (.voutH u r x) s = execVoutH u r x s := rfl
@[simp] theorem exec_voutW (u : UnitId) (r : FmtVO) (x : SInstr) (s : State) : exec (.voutW u r x) s = execVoutW u r x s := rfl
@[simp] theorem exec_vaget (u : UnitId) (r : FmtVO) (x : SInstr) (s : State) : exec (.vaget u r x) s = execVaget u r x s := rfl
@[simp] theorem exec_vaput (u : UnitId) (r : FmtVO) (x : SInstr) (s : State) : exec (.vaput u r x) s = execVaput u r x s := rfl
@[simp] theorem exec_vared (u : UnitId) (r : FmtVO) (x : SInstr) (s : State) : exec (.vared u r x) s = execVared u r x s := rfl
@[simp] theorem exec_vfmaF (u : UnitId) (r : FmtVF) (x : SInstr) (s : State) : exec (.vfmaF u r x) s = execVfmaF u r x s := rfl
@[simp] theorem exec_vfmsF (u : UnitId) (r : FmtVF) (x : SInstr) (s : State) : exec (.vfmsF u r x) s = execVfmsF u r x s := rfl
@[simp] theorem exec_vfmaBf (u : UnitId) (r : FmtVF) (x : SInstr) (s : State) : exec (.vfmaBf u r x) s = execVfmaBf u r x s := rfl
@[simp] theorem exec_vfmsBf (u : UnitId) (r : FmtVF) (x : SInstr) (s : State) : exec (.vfmsBf u r x) s = execVfmsBf u r x s := rfl
@[simp] theorem exec_vfmawBf (u : UnitId) (r : FmtVF) (x : SInstr) (s : State) : exec (.vfmawBf u r x) s = execVfmawBf u r x s := rfl
@[simp] theorem exec_vfaddF (u : UnitId) (r : FmtVF) (x : SInstr) (s : State) : exec (.vfaddF u r x) s = execVfaddF u r x s := rfl
@[simp] theorem exec_vfmulF (u : UnitId) (r : FmtVF) (x : SInstr) (s : State) : exec (.vfmulF u r x) s = execVfmulF u r x s := rfl
@[simp] theorem exec_vfcvtBf (u : UnitId) (r : FmtVF) (x : SInstr) (s : State) : exec (.vfcvtBf u r x) s = execVfcvtBf u r x s := rfl
@[simp] theorem exec_vmsa (u : UnitId) (r : FmtVN1) (x : SInstr) (s : State) : exec (.vmsa u r x) s = execVmsa u r x s := rfl
@[simp] theorem exec_vmsr (u : UnitId) (r : FmtVN2) (x : SInstr) (s : State) : exec (.vmsr u r x) s = execVmsr u r x s := rfl
@[simp] theorem exec_engineGo (who : Who) (d : Fin 4) (c : Fin 16) (sl : Fin 8) (v : W64) (s : State) : exec (.engineGo who d c sl v) s = execEngineGo who d c sl v s := rfl
@[simp] theorem exec_engineStop (who : Who) (d : Fin 4) (c : Fin 16) (sl : Fin 8) (v : W64) (s : State) : exec (.engineStop who d c sl v) s = execEngineStop who d c sl v s := rfl
@[simp] theorem exec_engineStopped (d : Fin 4) (c : Fin 16) (p : Fin 9) (s : State) : exec (.engineStopped d c p) s = execEngineStopped d c p s := rfl
@[simp] theorem exec_engineArm (who : Who) (d : Fin 4) (c : Fin 16) (sl : Fin 8) (v : W64) (s : State) : exec (.engineArm who d c sl v) s = execEngineArm who d c sl v s := rfl
@[simp] theorem exec_caseStart (who : Who) (d : Fin 4) (c : Fin 16) (v : W64) (s : State) : exec (.caseStart who d c v) s = execCaseStart who d c v s := rfl
@[simp] theorem exec_caseStartRelease (d : Fin 4) (c : Fin 16) (s : State) : exec (.caseStartRelease d c) s = execCaseStartRelease d c s := rfl
@[simp] theorem exec_coreGo (who : Who) (d : Fin 4) (v : W64) (s : State) : exec (.coreGo who d v) s = execCoreGo who d v s := rfl
@[simp] theorem exec_coreStop (who : Who) (d : Fin 4) (v : W64) (s : State) : exec (.coreStop who d v) s = execCoreStop who d v s := rfl
@[simp] theorem exec_caseGrant (d : Fin 4) (c : Fin 16) (s : State) : exec (.caseGrant d c) s = execCaseGrant d c s := rfl
@[simp] theorem exec_impSwapRequest (who : Who) (d : Fin 4) (c : Fin 16) (v : W64) (s : State) : exec (.impSwapRequest who d c v) s = execImpSwapRequest who d c v s := rfl
@[simp] theorem exec_impSwap (d : Fin 4) (c : Fin 16) (s : State) : exec (.impSwap d c) s = execImpSwap d c s := rfl
@[simp] theorem exec_xportSwapRequest (who : Who) (d : Fin 4) (p : Fin 12) (v : W64) (s : State) : exec (.xportSwapRequest who d p v) s = execXportSwapRequest who d p v s := rfl
@[simp] theorem exec_xportSwap (d : Fin 4) (p : Fin 12) (s : State) : exec (.xportSwap d p) s = execXportSwap d p s := rfl
@[simp] theorem exec_dmaRingWrite (who : Who) (d : Fin 4) (c : Fin 16) (k : Fin 4) (v : W64) (s : State) : exec (.dmaRingWrite who d c k v) s = execDmaRingWrite who d c k v s := rfl
@[simp] theorem exec_dmaRun (who : Who) (d : Fin 4) (c : Fin 16) (k : Fin 4) (v : W64) (s : State) : exec (.dmaRun who d c k v) s = execDmaRun who d c k v s := rfl
@[simp] theorem exec_dmaStop (who : Who) (d : Fin 4) (c : Fin 16) (k : Fin 4) (v : W64) (s : State) : exec (.dmaStop who d c k v) s = execDmaStop who d c k v s := rfl
@[simp] theorem exec_dmaPiece (d : Fin 4) (c : Fin 16) (s : State) : exec (.dmaPiece d c) s = execDmaPiece d c s := rfl
@[simp] theorem exec_descriptorComplete (d : Fin 4) (c : Fin 16) (k : Fin 4) (s : State) : exec (.descriptorComplete d c k) s = execDescriptorComplete d c k s := rfl
@[simp] theorem exec_residueMismatch (d : Fin 4) (c : Fin 16) (p : Fin 9) (chk : Fin 8) (vslot : Bool) (t : Nat) (replay : Replay) (s : State) : exec (.residueMismatch d c p chk vslot t replay) s = execResidueMismatch d c p chk vslot t replay s := rfl
@[simp] theorem exec_migrate (who : Who) (d : Fin 4) (c : Fin 16) (v : W64) (s : State) : exec (.migrate who d c v) s = execMigrate who d c v s := rfl
@[simp] theorem exec_migration (d : Fin 4) (c : Fin 16) (ph : MigrPhase) (s : State) : exec (.migration d c ph) s = execMigration d c ph s := rfl
@[simp] theorem exec_returnUnnumbered (who : Who) (d : Fin 4) (c : Fin 16) (v : W64) (s : State) : exec (.returnUnnumbered who d c v) s = execReturnUnnumbered who d c v s := rfl
@[simp] theorem exec_retire (who : Who) (d : Fin 4) (c : Fin 16) (v : W64) (s : State) : exec (.retire who d c v) s = execRetire who d c v s := rfl
@[simp] theorem exec_upllCfg (who : Who) (d : Fin 4) (g : Fin 16) (k : Fin 8) (v : W64) (s : State) : exec (.upllCfg who d g k v) s = execUpllCfg who d g k v s := rfl
@[simp] theorem exec_upllLock (d : Fin 4) (k : Fin 8) (s : State) : exec (.upllLock d k) s = execUpllLock d k s := rfl
@[simp] theorem exec_upllLossOfLock (d : Fin 4) (k : Fin 8) (s : State) : exec (.upllLossOfLock d k) s = execUpllLossOfLock d k s := rfl
@[simp] theorem exec_clockSourceChange (d : Fin 4) (g : Fin 16) (n : Fin 32) (s : State) : exec (.clockSourceChange d g n) s = execClockSourceChange d g n s := rfl
@[simp] theorem exec_forceClock (who : Who) (d : Fin 4) (g : Fin 16) (n : Fin 32) (v : W64) (s : State) : exec (.forceClock who d g n v) s = execForceClock who d g n v s := rfl
@[simp] theorem exec_queueWrite (d : Fin 4) (g : Fin 16) (b : Fin 480) (data : W32) (late : Bool) (s : State) : exec (.queueWrite d g b data late) s = execQueueWrite d g b data late s := rfl
@[simp] theorem exec_queueRead (d : Fin 4) (g : Fin 16) (b : Fin 480) (late : Bool) (s : State) : exec (.queueRead d g b late) s = execQueueRead d g b late s := rfl
@[simp] theorem exec_clrerr (d : Fin 4) (g : Fin 16) (e : ClrEdges) (s : State) : exec (.clrerr d g e) s = execClrerr d g e s := rfl
@[simp] theorem exec_queueRst (d : Fin 4) (g : Fin 16) (b : Fin 480) (s : State) : exec (.queueRst d g b) s = execQueueRst d g b s := rfl
@[simp] theorem exec_blockRamAccess (d : Fin 4) (g : Fin 16) (b : Fin 480) (pa : Option PortOp) (pb : Option PortOp) (s : State) : exec (.blockRamAccess d g b pa pb) s = execBlockRamAccess d g b pa pb s := rfl
@[simp] theorem exec_bankPgFall (d : Fin 4) (b : Fin 8) (vcco : Fin 4) (s : State) : exec (.bankPgFall d b vcco) s = execBankPgFall d b vcco s := rfl
@[simp] theorem exec_bankPgRise (d : Fin 4) (b : Fin 8) (vcco : Fin 4) (s : State) : exec (.bankPgRise d b vcco) s = execBankPgRise d b vcco s := rfl
@[simp] theorem exec_qpinDly (who : Who) (d : Fin 4) (m : Fin 64) (v : W64) (s : State) : exec (.qpinDly who d m v) s = execQpinDly who d m v s := rfl
@[simp] theorem exec_delayLineArrive (d : Fin 4) (m : Fin 64) (s : State) : exec (.delayLineArrive d m) s = execDelayLineArrive d m s := rfl
@[simp] theorem exec_inject (who : Who) (offer : Option Offer) (marks : OfferMarks) (s : State) : exec (.inject who offer marks) s = execInject who offer marks s := rfl
@[simp] theorem exec_rdReq (who : Who) (tag : Nat) (gen : Nat) (reply : Option FabricReply) (s : State) : exec (.rdReq who tag gen reply) s = execRdReq who tag gen reply s := rfl
@[simp] theorem exec_wrReq (who : Who) (tag : Nat) (gen : Nat) (reply : Option FabricReply) (s : State) : exec (.wrReq who tag gen reply) s = execWrReq who tag gen reply s := rfl
@[simp] theorem exec_atReq (who : Who) (tag : Nat) (gen : Nat) (reply : Option FabricReply) (s : State) : exec (.atReq who tag gen reply) s = execAtReq who tag gen reply s := rfl
@[simp] theorem exec_rdr (who : Who) (tag : Nat) (gen : Nat) (s : State) : exec (.rdr who tag gen) s = execRdr who tag gen s := rfl
@[simp] theorem exec_wrr (who : Who) (tag : Nat) (gen : Nat) (s : State) : exec (.wrr who tag gen) s = execWrr who tag gen s := rfl
@[simp] theorem exec_atr (who : Who) (tag : Nat) (gen : Nat) (s : State) : exec (.atr who tag gen) s = execAtr who tag gen s := rfl
@[simp] theorem exec_timeout (who : Who) (tag : Nat) (s : State) : exec (.timeout who tag) s = execTimeout who tag s := rfl
@[simp] theorem exec_sequencedFrame (d : Fin 4) (p : Fin 12) (send : FrameSend) (crd : Fin 16) (noise : List LaneFlip) (s : State) : exec (.sequencedFrame d p send crd noise) s = execSequencedFrame d p send crd noise s := rfl
@[simp] theorem exec_nak (d : Fin 4) (p : Fin 12) (noise : List LaneFlip) (s : State) : exec (.nak d p noise) s = execNak d p noise s := rfl
@[simp] theorem exec_retryTimeout (d : Fin 4) (p : Fin 12) (s : State) : exec (.retryTimeout d p) s = execRetryTimeout d p s := rfl
@[simp] theorem exec_frameHandover (d : Fin 4) (p : Fin 12) (net : Fin 3) (q : Fin 4) (s : State) : exec (.frameHandover d p net q) s = execFrameHandover d p net q s := rfl
@[simp] theorem exec_heartbeat (d : Fin 4) (p : Fin 12) (s : State) : exec (.heartbeat d p) s = execHeartbeat d p s := rfl
@[simp] theorem exec_heartbeatSend (d : Fin 4) (p : Fin 12) (s : State) : exec (.heartbeatSend d p) s = execHeartbeatSend d p s := rfl
@[simp] theorem exec_probeWindowEnd (d : Fin 4) (p : Fin 12) (lanes : W64) (hi : BitVec 6) (s : State) : exec (.probeWindowEnd d p lanes hi) s = execProbeWindowEnd d p lanes hi s := rfl
@[simp] theorem exec_propose (d : Fin 4) (m : Heard) (s : State) : exec (.propose d m) s = execPropose d m s := rfl
@[simp] theorem exec_confirm (d : Fin 4) (m : Heard) (s : State) : exec (.confirm d m) s = execConfirm d m s := rfl
@[simp] theorem exec_commit (d : Fin 4) (m : Heard) (s : State) : exec (.commit d m) s = execCommit d m s := rfl
@[simp] theorem exec_trainingTimeout (d : Fin 4) (p : Fin 12) (s : State) : exec (.trainingTimeout d p) s = execTrainingTimeout d p s := rfl
@[simp] theorem exec_deadline (d : Fin 4) (p : Fin 12) (s : State) : exec (.deadline d p) s = execDeadline d p s := rfl
@[simp] theorem exec_carrierSwitch (d : Fin 4) (p : Fin 12) (s : State) : exec (.carrierSwitch d p) s = execCarrierSwitch d p s := rfl
@[simp] theorem exec_holdExpiry (d : Fin 4) (p : Fin 12) (s : State) : exec (.holdExpiry d p) s = execHoldExpiry d p s := rfl
@[simp] theorem exec_lossOfSignal (d : Fin 4) (p : Fin 12) (lane : Fin 70) (s : State) : exec (.lossOfSignal d p lane) s = execLossOfSignal d p lane s := rfl
@[simp] theorem exec_noGoodFrame (d : Fin 4) (p : Fin 12) (s : State) : exec (.noGoodFrame d p) s = execNoGoodFrame d p s := rfl
@[simp] theorem exec_linkRetrain (who : Who) (d : Fin 4) (p : Fin 12) (v : W64) (s : State) : exec (.linkRetrain who d p v) s = execLinkRetrain who d p v s := rfl
@[simp] theorem exec_disable (who : Who) (d : Fin 4) (p : Fin 12) (v : W64) (s : State) : exec (.disable who d p v) s = execDisable who d p v s := rfl
@[simp] theorem exec_carrierReturn (who : Who) (d : Fin 4) (p : Fin 12) (v : W64) (s : State) : exec (.carrierReturn who d p v) s = execCarrierReturn who d p v s := rfl
@[simp] theorem exec_ringLock (d : Fin 4) (p : Fin 12) (rx : Bool) (k : Fin 18) (s : State) : exec (.ringLock d p rx k) s = execRingLock d p rx k s := rfl
@[simp] theorem exec_ringLossOfLock (d : Fin 4) (p : Fin 12) (rx : Bool) (k : Fin 18) (s : State) : exec (.ringLossOfLock d p rx k) s = execRingLossOfLock d p rx k s := rfl
@[simp] theorem exec_ringRetry (d : Fin 4) (p : Fin 12) (rx : Bool) (k : Fin 18) (ok : Bool) (s : State) : exec (.ringRetry d p rx k ok) s = execRingRetry d p rx k ok s := rfl
@[simp] theorem exec_lineLoss (b : Bool) (k : Fin 18) (s : State) : exec (.lineLoss b k) s = execLineLoss b k s := rfl
@[simp] theorem exec_inputOk (b : Bool) (power : BitVec 16) (s : State) : exec (.inputOk b power) s = execInputOk b power s := rfl
@[simp] theorem exec_laserSel (who : Who) (v : W64) (s : State) : exec (.laserSel who v) s = execLaserSel who v s := rfl
@[simp] theorem exec_cmapClear (who : Who) (d : Fin 4) (k : Fin 2) (v : W64) (s : State) : exec (.cmapClear who d k v) s = execCmapClear who d k v s := rfl
@[simp] theorem exec_cmapClearDone (d : Fin 4) (k : Fin 2) (s : State) : exec (.cmapClearDone d k) s = execCmapClearDone d k s := rfl
@[simp] theorem exec_granuleFill (d : Fin 4) (k : Fin 2) (granule : Fin 1048576) (s : State) : exec (.granuleFill d k granule) s = execGranuleFill d k granule s := rfl
@[simp] theorem exec_scrubStart (who : Who) (d : Fin 4) (v : W64) (s : State) : exec (.scrubStart who d v) s = execScrubStart who d v s := rfl
@[simp] theorem exec_scrubRead (d : Fin 4) (s : State) : exec (.scrubRead d) s = execScrubRead d s := rfl
@[simp] theorem exec_scrubStop (who : Who) (d : Fin 4) (v : W64) (s : State) : exec (.scrubStop who d v) s = execScrubStop who d v s := rfl
@[simp] theorem exec_scrubPassEnd (d : Fin 4) (us : W32) (s : State) : exec (.scrubPassEnd d us) s = execScrubPassEnd d us s := rfl
@[simp] theorem exec_patrolRead (d : Fin 4) (s : State) : exec (.patrolRead d) s = execPatrolRead d s := rfl
@[simp] theorem exec_init (who : Who) (d : Fin 4) (k : Fin 2) (v : W64) (ok : Bool) (s : State) : exec (.init who d k v ok) s = execInit who d k v ok s := rfl
@[simp] theorem exec_ddrRetrain (who : Who) (d : Fin 4) (k : Fin 2) (v : W64) (s : State) : exec (.ddrRetrain who d k v) s = execDdrRetrain who d k v s := rfl
@[simp] theorem exec_centringPass (d : Fin 4) (k : Fin 2) (rank : Fin 2) (s : State) : exec (.centringPass d k rank) s = execCentringPass d k rank s := rfl
@[simp] theorem exec_zqCalibration (d : Fin 4) (k : Fin 2) (rank : Fin 2) (s : State) : exec (.zqCalibration d k rank) s = execZqCalibration d k rank s := rfl
@[simp] theorem exec_dramCommand (d : Fin 4) (k : Fin 2) (ok : List Nat) (ref : List Nat) (s : State) : exec (.dramCommand d k ok ref) s = execDramCommand d k ok ref s := rfl
@[simp] theorem exec_refreshInterval (d : Fin 4) (k : Fin 2) (rank : Fin 2) (s : State) : exec (.refreshInterval d k rank) s = execRefreshInterval d k rank s := rfl
@[simp] theorem exec_prechargePowerDown (d : Fin 4) (k : Fin 2) (rank : Fin 2) (s : State) : exec (.prechargePowerDown d k rank) s = execPrechargePowerDown d k rank s := rfl
@[simp] theorem exec_panic (d : Fin 4) (g : Fin 16) (j : Fin 4) (on : Bool) (s : State) : exec (.panic d g j on) s = execPanic d g j on s := rfl
@[simp] theorem exec_lanePllLock (d : Fin 4) (j : Fin 3) (a : Fin 2) (s : State) : exec (.lanePllLock d j a) s = execLanePllLock d j a s := rfl
@[simp] theorem exec_lanePllLossOfLock (d : Fin 4) (j : Fin 3) (a : Fin 2) (s : State) : exec (.lanePllLossOfLock d j a) s = execLanePllLossOfLock d j a s := rfl
@[simp] theorem exec_ownerChange (who : Who) (d : Fin 4) (j : Fin 3) (n : Fin 8) (v : W64) (s : State) : exec (.ownerChange who d j n v) s = execOwnerChange who d j n v s := rfl
@[simp] theorem exec_ownerSettle (d : Fin 4) (j : Fin 3) (n : Fin 8) (s : State) : exec (.ownerSettle d j n) s = execOwnerSettle d j n s := rfl
@[simp] theorem exec_txeq (who : Who) (d : Fin 4) (j : Fin 3) (n : Fin 8) (v : W64) (s : State) : exec (.txeq who d j n v) s = execTxeq who d j n v s := rfl
@[simp] theorem exec_adapted (d : Fin 4) (j : Fin 3) (n : Fin 8) (ctle : BitVec 5) (dfe : BitVec 8) (ffe : List (BitVec 8)) (s : State) : exec (.adapted d j n ctle dfe ffe) s = execAdapted d j n ctle dfe ffe s := rfl
@[simp] theorem exec_cdrLossOfLock (d : Fin 4) (j : Fin 3) (n : Fin 8) (los : Bool) (s : State) : exec (.cdrLossOfLock d j n los) s = execCdrLossOfLock d j n los s := rfl
@[simp] theorem exec_histogramRun (who : Who) (d : Fin 4) (j : Fin 3) (n : Fin 8) (v : W64) (s : State) : exec (.histogramRun who d j n v) s = execHistogramRun who d j n v s := rfl
@[simp] theorem exec_histogramDone (d : Fin 4) (j : Fin 3) (n : Fin 8) (counts : List (Fin 512 × Nat)) (s : State) : exec (.histogramDone d j n counts) s = execHistogramDone d j n counts s := rfl
@[simp] theorem exec_ethPortEnable (who : Who) (d : Fin 4) (m : Fin 4) (q : Fin 8) (v : W64) (s : State) : exec (.ethPortEnable who d m q v) s = execEthPortEnable who d m q v s := rfl
@[simp] theorem exec_ethFrameReceive (d : Fin 4) (m : Fin 4) (q : Fin 8) (f : FrameIn) (sub : Nat) (s : State) : exec (.ethFrameReceive d m q f sub) s = execEthFrameReceive d m q f sub s := rfl
@[simp] theorem exec_ethFrameTransmit (d : Fin 4) (m : Fin 4) (q : Fin 8) (r : Fin 8) (sub : Nat) (s : State) : exec (.ethFrameTransmit d m q r sub) s = execEthFrameTransmit d m q r sub s := rfl
@[simp] theorem exec_linkChange (d : Fin 4) (m : Fin 4) (q : Fin 8) (up : Bool) (cal : Bool) (eq : List LaneEq) (s : State) : exec (.linkChange d m q up cal eq) s = execLinkChange d m q up cal eq s := rfl
@[simp] theorem exec_saload (who : Who) (d : Fin 4) (m : Fin 4) (v : W64) (s : State) : exec (.saload who d m v) s = execSaload who d m v s := rfl
@[simp] theorem exec_pcieInboundTlp (far : Bool) (op : ReqOp) (bar : Option (Fin 3)) (addr : Nat) (len : Nat) (data : Nat) (cmp : W64) (afn : BitVec 3) (ord : Bool) (tc : Fin 8) (s : State) : exec (.pcieInboundTlp far op bar addr len data cmp afn ord tc) s = execPcieInboundTlp far op bar addr len data cmp afn ord tc s := rfl
@[simp] theorem exec_pcieCompletion (far : Bool) (n : Nat) (ok : Bool) (poisoned : Bool) (data : Nat) (s : State) : exec (.pcieCompletion far n ok poisoned data) s = execPcieCompletion far n ok poisoned data s := rfl
@[simp] theorem exec_pcieLinkChange (far : Bool) (up : Bool) (rev : Bool) (gen : Fin 6) (lanes : Fin 17) (ltssm : BitVec 6) (eq : List LaneEq) (s : State) : exec (.pcieLinkChange far up rev gen lanes ltssm eq) s = execPcieLinkChange far up rev gen lanes ltssm eq s := rfl
@[simp] theorem exec_jesdLinkEnable (who : Who) (d : Fin 4) (j : Fin 3) (l : Fin 4) (v : W64) (sync : Bool) (s : State) : exec (.jesdLinkEnable who d j l v sync) s = execJesdLinkEnable who d j l v sync s := rfl
@[simp] theorem exec_sysrefEdge (d : Fin 4) (j : Fin 3) (l : Fin 4) (src : Fin 9) (off : Bool) (s : State) : exec (.sysrefEdge d j l src off) s = execSysrefEdge d j l src off s := rfl
@[simp] theorem exec_evaluation (e : EvalIn) (s : State) : exec (.evaluation e) s = execEvaluation e s := rfl
@[simp] theorem exec_ppsIn (sub : Nat) (s : State) : exec (.ppsIn sub) s = execPpsIn sub s := rfl
@[simp] theorem exec_meas (who : Who) (n : Fin 4) (v : W64) (s : State) : exec (.meas who n v) s = execMeas who n v s := rfl
@[simp] theorem exec_step (who : Who) (v : W64) (s : State) : exec (.step who v) s = execStep who v s := rfl
@[simp] theorem exec_stepApply (s : State) : exec (.stepApply) s = execStepApply s := rfl
@[simp] theorem exec_hold (who : Who) (v : W64) (s : State) : exec (.hold who v) s = execHold who v s := rfl
@[simp] theorem exec_servoEn (who : Who) (v : W64) (s : State) : exec (.servoEn who v) s = execServoEn who v s := rfl
@[simp] theorem exec_timeFrame (reach : BitVec 4) (s : State) : exec (.timeFrame reach) s = execTimeFrame reach s := rfl
@[simp] theorem exec_echoExchange (d : Fin 4) (p : Fin 12) (e : EchoIn) (s : State) : exec (.echoExchange d p e) s = execEchoExchange d p e s := rfl
@[simp] theorem exec_followerGap (d : Fin 4) (s : State) : exec (.followerGap d) s = execFollowerGap d s := rfl
@[simp] theorem exec_sensorRead (raw : Option (BitVec 16)) (s : State) : exec (.sensorRead raw) s = execSensorRead raw s := rfl
@[simp] theorem exec_tuningFrame (s : State) : exec (.tuningFrame) s = execTuningFrame s := rfl
@[simp] theorem exec_modelAlign (s : State) : exec (.modelAlign) s = execModelAlign s := rfl
@[simp] theorem exec_xoLoss (s : State) : exec (.xoLoss) s = execXoLoss s := rfl
@[simp] theorem exec_ppsOut (rise : Bool) (s : State) : exec (.ppsOut rise) s = execPpsOut rise s := rfl
@[simp] theorem exec_sysrefOut (off : Bool) (s : State) : exec (.sysrefOut off) s = execSysrefOut off s := rfl
@[simp] theorem exec_uartReceive (b : Byte) (s : State) : exec (.uartReceive b) s = execUartReceive b s := rfl
@[simp] theorem exec_uartTransmit (who : Who) (v : W64) (s : State) : exec (.uartTransmit who v) s = execUartTransmit who v s := rfl
@[simp] theorem exec_authload (who : Who) (v : W64) (s : State) : exec (.authload who v) s = execAuthload who v s := rfl
@[simp] theorem exec_reselect (who : Who) (v : W64) (s : State) : exec (.reselect who v) s = execReselect who v s := rfl
@[simp] theorem exec_darkHoldRetry (s : State) : exec (.darkHoldRetry) s = execDarkHoldRetry s := rfl
@[simp] theorem exec_chunkRelease (s : State) : exec (.chunkRelease) s = execChunkRelease s := rfl
@[simp] theorem exec_wreg (d : Fin 4) (s : State) : exec (.wreg d) s = execWreg d s := rfl
@[simp] theorem exec_wmem (d : Fin 4) (s : State) : exec (.wmem d) s = execWmem d s := rfl
@[simp] theorem exec_frameInstr (d : Fin 4) (s : State) : exec (.frameInstr d) s = execFrameInstr d s := rfl
@[simp] theorem exec_rbc (d : Fin 4) (s : State) : exec (.rbc d) s = execRbc d s := rfl
@[simp] theorem exec_poll (d : Fin 4) (s : State) : exec (.poll d) s = execPoll d s := rfl
@[simp] theorem exec_pollLimit (d : Fin 4) (s : State) : exec (.pollLimit d) s = execPollLimit d s := rfl
@[simp] theorem exec_callProg (d : Fin 4) (s : State) : exec (.callProg d) s = execCallProg d s := rfl
@[simp] theorem exec_callLimit (d : Fin 4) (s : State) : exec (.callLimit d) s = execCallLimit d s := rfl
@[simp] theorem exec_sync (d : Fin 4) (s : State) : exec (.sync d) s = execSync d s := rfl
@[simp] theorem exec_endSeg (d : Fin 4) (s : State) : exec (.endSeg d) s = execEndSeg d s := rfl
@[simp] theorem exec_pload (who : Who) (v : W64) (s : State) : exec (.pload who v) s = execPload who v s := rfl
@[simp] theorem exec_ploadEnd (s : State) : exec (.ploadEnd) s = execPloadEnd s := rfl
@[simp] theorem exec_fopRead (fail : Bool) (s : State) : exec (.fopRead fail) s = execFopRead fail s := rfl
@[simp] theorem exec_fopProgram (fail : Bool) (s : State) : exec (.fopProgram fail) s = execFopProgram fail s := rfl
@[simp] theorem exec_fopErase (fail : Bool) (s : State) : exec (.fopErase fail) s = execFopErase fail s := rfl
@[simp] theorem exec_fopDone (s : State) : exec (.fopDone) s = execFopDone s := rfl
@[simp] theorem exec_clone (who : Who) (d : Fin 4) (g : Fin 16) (v : W64) (s : State) : exec (.clone who d g v) s = execClone who d g v s := rfl
@[simp] theorem exec_cloneDone (d : Fin 4) (g : Fin 16) (s : State) : exec (.cloneDone d g) s = execCloneDone d g s := rfl
@[simp] theorem exec_quoinClose (who : Who) (d : Fin 4) (g : Fin 16) (v : W64) (s : State) : exec (.quoinClose who d g v) s = execQuoinClose who d g v s := rfl
@[simp] theorem exec_quoinOpen (who : Who) (d : Fin 4) (g : Fin 16) (v : W64) (s : State) : exec (.quoinOpen who d g v) s = execQuoinOpen who d g v s := rfl
@[simp] theorem exec_caseQuoinClose (who : Who) (d : Fin 4) (c : Fin 16) (v : W64) (s : State) : exec (.caseQuoinClose who d c v) s = execCaseQuoinClose who d c v s := rfl
@[simp] theorem exec_quiesce (who : Who) (d : Fin 4) (g : Fin 16) (v : W64) (s : State) : exec (.quiesce who d g v) s = execQuiesce who d g v s := rfl
@[simp] theorem exec_dexp (d : Fin 4) (g : Fin 16) (s : State) : exec (.dexp d g) s = execDexp d g s := rfl
@[simp] theorem exec_xswapGo (who : Who) (d : Fin 4) (v : W64) (s : State) : exec (.xswapGo who d v) s = execXswapGo who d v s := rfl
@[simp] theorem exec_xswapTrigger (e : Fin 4) (d : Fin 4) (s : State) : exec (.xswapTrigger e d) s = execXswapTrigger e d s := rfl
@[simp] theorem exec_xswapCheck (d : Fin 4) (s : State) : exec (.xswapCheck d) s = execXswapCheck d s := rfl
@[simp] theorem exec_addkey (weak : List Nat) (s : State) : exec (.addkey weak) s = execAddkey weak s := rfl
@[simp] theorem exec_revoke (weak : List Nat) (s : State) : exec (.revoke weak) s = execRevoke weak s := rfl
@[simp] theorem exec_floorCmd (weak : List Nat) (s : State) : exec (.floorCmd weak) s = execFloorCmd weak s := rfl
@[simp] theorem exec_sfloor (weak : List Nat) (s : State) : exec (.sfloor weak) s = execSfloor weak s := rfl
@[simp] theorem exec_setfk (weak : List Nat) (s : State) : exec (.setfk weak) s = execSetfk weak s := rfl
@[simp] theorem exec_policyCmd (weak : List Nat) (s : State) : exec (.policyCmd weak) s = execPolicyCmd weak s := rfl
@[simp] theorem exec_encreq (weak : List Nat) (s : State) : exec (.encreq weak) s = execEncreq weak s := rfl
@[simp] theorem exec_debugBurn (weak : List Nat) (s : State) : exec (.debugBurn weak) s = execDebugBurn weak s := rfl
@[simp] theorem exec_attest (s : State) : exec (.attest) s = execAttest s := rfl
@[simp] theorem exec_unlockAttempt (secs : Nat) (s : State) : exec (.unlockAttempt secs) s = execUnlockAttempt secs s := rfl
@[simp] theorem exec_dlock (who : Who) (v : W64) (s : State) : exec (.dlock who v) s = execDlock who v s := rfl
@[simp] theorem exec_unlockExpiry (s : State) : exec (.unlockExpiry) s = execUnlockExpiry s := rfl
@[simp] theorem exec_provingWindow (count : Fin 16384) (s : State) : exec (.provingWindow count) s = execProvingWindow count s := rfl
@[simp] theorem exec_handOver (s : State) : exec (.handOver) s = execHandOver s := rfl
@[simp] theorem exec_referenceNotProven (s : State) : exec (.referenceNotProven) s = execReferenceNotProven s := rfl
@[simp] theorem exec_sourceFailure (root : Option (Fin 4)) (s : State) : exec (.sourceFailure root) s = execSourceFailure root s := rfl
@[simp] theorem exec_sourceReturn (s : State) : exec (.sourceReturn) s = execSourceReturn s := rfl
@[simp] theorem exec_rootRelockTry (d : Fin 4) (ok : Bool) (s : State) : exec (.rootRelockTry d ok) s = execRootRelockTry d ok s := rfl
@[simp] theorem exec_waitLimit (s : State) : exec (.waitLimit) s = execWaitLimit s := rfl
@[simp] theorem exec_domainOff (who : Who) (r : DomSel) (v : W64) (s : State) : exec (.domainOff who r v) s = execDomainOff who r v s := rfl
@[simp] theorem exec_domainOn (who : Who) (r : DomSel) (v : W64) (s : State) : exec (.domainOn who r v) s = execDomainOn who r v s := rfl
@[simp] theorem exec_switchOpen (r : DomSel) (s : State) : exec (.switchOpen r) s = execSwitchOpen r s := rfl
@[simp] theorem exec_domainPowered (r : DomSel) (s : State) : exec (.domainPowered r) s = execDomainPowered r s := rfl
@[simp] theorem exec_domainReset (who : Who) (r : DomSel) (v : W64) (s : State) : exec (.domainReset who r v) s = execDomainReset who r v s := rfl
@[simp] theorem exec_dieOff (who : Who) (d : Fin 4) (v : W64) (s : State) : exec (.dieOff who d v) s = execDieOff who d v s := rfl
@[simp] theorem exec_dieOn (who : Who) (d : Fin 4) (v : W64) (s : State) : exec (.dieOn who d v) s = execDieOn who d v s := rfl
@[simp] theorem exec_dieReset (who : Who) (d : Fin 4) (v : W64) (s : State) : exec (.dieReset who d v) s = execDieReset who d v s := rfl
@[simp] theorem exec_supfail (d : Fin 4) (s : State) : exec (.supfail d) s = execSupfail d s := rfl
@[simp] theorem exec_powerOnReset (s : State) : exec (.powerOnReset) s = execPowerOnReset s := rfl
@[simp] theorem exec_pornRise (board : Board) (puf : Bool) (s : State) : exec (.pornRise board puf) s = execPornRise board puf s := rfl
@[simp] theorem exec_guardReset (puf : Bool) (s : State) : exec (.guardReset puf) s = execGuardReset puf s := rfl
@[simp] theorem exec_debugReset (s : State) : exec (.debugReset) s = execDebugReset s := rfl
@[simp] theorem exec_temperatureRead (d : Fin 4) (raw : BitVec 12) (s : State) : exec (.temperatureRead d raw) s = execTemperatureRead d raw s := rfl
@[simp] theorem exec_galleyTest (who : Who) (d : Fin 4) (v : W64) (s : State) : exec (.galleyTest who d v) s = execGalleyTest who d v s := rfl
@[simp] theorem exec_positionTest (who : Who) (d : Fin 4) (v : W64) (s : State) : exec (.positionTest who d v) s = execPositionTest who d v s := rfl
@[simp] theorem exec_caseTest (who : Who) (d : Fin 4) (v : W64) (s : State) : exec (.caseTest who d v) s = execCaseTest who d v s := rfl
@[simp] theorem exec_logicSelfTestDone (d : Fin 4) (sig : W32) (golden : W32) (s : State) : exec (.logicSelfTestDone d sig golden) s = execLogicSelfTestDone d sig golden s := rfl
@[simp] theorem exec_memorySelfTestDone (d : Fin 4) (fails : List (Nat × Nat × Fin 13)) (s : State) : exec (.memorySelfTestDone d fails) s = execMemorySelfTestDone d fails s := rfl
@[simp] theorem exec_finishingDone (d : Fin 4) (s : State) : exec (.finishingDone d) s = execFinishingDone d s := rfl
@[simp] theorem exec_testStop (who : Who) (d : Fin 4) (v : W64) (s : State) : exec (.testStop who d v) s = execTestStop who d v s := rfl
@[simp] theorem exec_idcode (s : State) : exec (.idcode) s = execIdcode s := rfl
@[simp] theorem exec_samplePreload (pins : Nat) (bits : Nat) (s : State) : exec (.samplePreload pins bits) s = execSamplePreload pins bits s := rfl
@[simp] theorem exec_extest (pins : Nat) (bits : Nat) (s : State) : exec (.extest pins bits) s = execExtest pins bits s := rfl
@[simp] theorem exec_extestPulse (pins : Nat) (bits : Nat) (s : State) : exec (.extestPulse pins bits) s = execExtestPulse pins bits s := rfl
@[simp] theorem exec_extestTrain (pins : Nat) (bits : Nat) (s : State) : exec (.extestTrain pins bits) s = execExtestTrain pins bits s := rfl
@[simp] theorem exec_clamp (s : State) : exec (.clamp) s = execClamp s := rfl
@[simp] theorem exec_highz (s : State) : exec (.highz) s = execHighz s := rfl
@[simp] theorem exec_bypass (s : State) : exec (.bypass) s = execBypass s := rfl
@[simp] theorem exec_dreg (blk : Fin 4) (off : BitVec 20) (w64 : Bool) (write : Bool) (data : W64) (s : State) : exec (.dreg blk off w64 write data) s = execDreg blk off w64 write data s := rfl
@[simp] theorem exec_debugWindow (far : Bool) (off : BitVec 22) (w64 : Bool) (write : Bool) (data : W64) (s : State) : exec (.debugWindow far off w64 write data) s = execDebugWindow far off w64 write data s := rfl
@[simp] theorem exec_debugAccess (v : W64) (s : State) : exec (.debugAccess v) s = execDebugAccess v s := rfl
@[simp] theorem exec_debugHalt (v : W64) (s : State) : exec (.debugHalt v) s = execDebugHalt v s := rfl
@[simp] theorem exec_debugResume (v : W64) (s : State) : exec (.debugResume v) s = execDebugResume v s := rfl
@[simp] theorem exec_debugStep (v : W64) (s : State) : exec (.debugStep v) s = execDebugStep v s := rfl
@[simp] theorem exec_watchdogExpiry (u : UnitId) (s : State) : exec (.watchdogExpiry u) s = execWatchdogExpiry u s := rfl
@[simp] theorem exec_raiseEvent (who : Who) (d : Fin 4) (v : W64) (s : State) : exec (.raiseEvent who d v) s = execRaiseEvent who d v s := rfl
@[simp] theorem exec_pendClear (who : Who) (d : Fin 4) (w : Fin 16) (v : W64) (s : State) : exec (.pendClear who d w v) s = execPendClear who d w v s := rfl
@[simp] theorem exec_fabricEvent (d : Fin 4) (g : Fin 16) (k : Fin 4) (s : State) : exec (.fabricEvent d g k) s = execFabricEvent d g k s := rfl
@[simp] theorem exec_eventDelivery (d : Fin 4) (n : Fin 512) (s : State) : exec (.eventDelivery d n) s = execEventDelivery d n s := rfl
@[simp] theorem exec_cdrLock (d : Fin 4) (j : Fin 3) (n : Fin 8) (s : State) : exec (.cdrLock d j n) s = execCdrLock d j n s := rfl
@[simp] theorem exec_checkerLock (d : Fin 4) (j : Fin 3) (n : Fin 8) (s : State) : exec (.checkerLock d j n) s = execCheckerLock d j n s := rfl
@[simp] theorem exec_checkerUnlock (d : Fin 4) (j : Fin 3) (n : Fin 8) (bits : Nat) (wrong : Nat) (syms : Nat) (s : State) : exec (.checkerUnlock d j n bits wrong syms) s = execCheckerUnlock d j n bits wrong syms s := rfl
@[simp] theorem exec_prbs31Received (d : Fin 4) (p : Fin 12) (s : State) : exec (.prbs31Received d p) s = execPrbs31Received d p s := rfl
@[simp] theorem exec_rawTransmitWord (d : Fin 4) (j : Fin 3) (n : Fin 8) (offer : Option (BitVec 256)) (take : Bool) (s : State) : exec (.rawTransmitWord d j n offer take) s = execRawTransmitWord d j n offer take s := rfl
@[simp] theorem exec_jesdSyncLoss (d : Fin 4) (j : Fin 3) (l : Fin 4) (s : State) : exec (.jesdSyncLoss d j l) s = execJesdSyncLoss d j l s := rfl
@[simp] theorem exec_jesdCrcError (d : Fin 4) (j : Fin 3) (l : Fin 4) (s : State) : exec (.jesdCrcError d j l) s = execJesdCrcError d j l s := rfl
@[simp] theorem exec_railWindowChange (rail : Fin 32) (inside : Bool) (s : State) : exec (.railWindowChange rail inside) s = execRailWindowChange rail inside s := rfl

end Sys2Proof.Machine
end

