-- ==== Sys2Proof/Laws/Mem.lean ====
section
/-! SUPPORT. What the memory operations do: the byte read back after a write (R379 to R382), and that every one of
them keeps the canonical form. -/

namespace Sys2Proof.Machine
open Sys2Proof

/-- A word with fresh check bits reads as its byte, without an error (R379, R380). -/
theorem decode_encode (b : Byte) : decodeByte (encodeByte b) = ⟨b, 0⟩ := by
  revert b; decide +kernel

/-- The poison word is uncorrectable over a zero byte (R382). -/
theorem decode_poison : decodeByte (encodeByte 0#8 ^^^ poisonWord) = ⟨0#8, 2⟩ := by decide +kernel

/-- A byte that nothing has written reads as zero without an error (R383). -/
theorem decode_zero : decodeByte (encodeByte 0#8 ^^^ 0#13) = ⟨0#8, 0⟩ := by decide +kernel

namespace Mem

theorem read_write (m : Mem) (a c : Nat) (b : Byte) :
    (m.write a b).read c = if a = c then ⟨b, 0⟩ else m.read c := by
  unfold Mem.read Mem.word Mem.write
  by_cases h : a = c
  · simp [h, Store.get_set, decode_encode]
  · simp [h, Store.get_set]

theorem read_poison (m : Mem) (a c : Nat) :
    (m.poison a).read c = if a = c then ⟨0, 2⟩ else m.read c := by
  unfold Mem.read Mem.word Mem.poison
  by_cases h : a = c
  · simp [h, Store.get_set, decode_poison]
  · simp [h, Store.get_set]

/-- A write of n bytes leaves every byte outside them. -/
theorem read_writeN_out (n : Nat) : ∀ (m : Mem) (a x c : Nat), ¬ (a ≤ c ∧ c < a + n) →
    (m.writeN a n x).read c = m.read c := by
  induction n with
  | zero => intros; rfl
  | succ n ih =>
    intro m a x c h
    rw [Mem.writeN, ih _ _ _ _ (by omega), read_write, if_neg (by omega)]

/-- Each byte of a write of n bytes reads back (R7). -/
theorem read_writeN_in (n : Nat) : ∀ (m : Mem) (a x i : Nat), i < n →
    (m.writeN a n x).read (a + i) = ⟨BitVec.ofNat 8 (x / 256 ^ i), 0⟩ := by
  induction n with
  | zero => intro m a x i h; omega
  | succ n ih =>
    intro m a x i h
    rw [Mem.writeN]
    cases i with
    | zero => rw [read_writeN_out _ _ _ _ _ (by omega), read_write]; simp
    | succ i =>
      have := ih (m.write a (BitVec.ofNat 8 x)) (a + 1) (x / 256) i (by omega)
      rw [show a + (i + 1) = a + 1 + i by omega, this, Nat.div_div_eq_div_mul, Nat.pow_succ, Nat.mul_comm]

/-- A write of n bytes reads back as the value, within n bytes (R7). -/
theorem readN_writeN (n : Nat) : ∀ (m : Mem) (a x : Nat), (m.writeN a n x).readN a n = x % 256 ^ n := by
  induction n with
  | zero => intro m a x; simp [Mem.readN, Nat.mod_one]
  | succ n ih =>
    intro m a x
    have h0 := read_writeN_in (n + 1) m a x 0 (by omega)
    simp only [Nat.add_zero, Nat.pow_zero, Nat.div_one] at h0
    rw [Mem.readN, h0, Mem.writeN, ih]
    rw [BitVec.toNat_ofNat, show 256 ^ (n + 1) = 256 * 256 ^ n from Nat.pow_succ'.trans rfl, show (2 : Nat) ^ 8 = 256 from rfl, Nat.mod_mul (x := x) (a := 256)]

@[simp] theorem fill_read (m : Mem) (a n c : Nat) :
    (m.fill a n).read c = if a ≤ c ∧ c < a + n then ⟨0, 0⟩ else m.read c := by
  unfold Mem.read Mem.word Mem.fill
  by_cases h : a ≤ c ∧ c < a + n
  · simpa [Store.get_clear, h] using decode_zero
  · simp only [Store.get_clear, h, if_false]

theorem wf_iff (m : Mem) :
    m.wf = true ↔ Store.wf (w := 8) m.bytes = true ∧ m.flaws.wf = true ∧ m.lines.wf = true := by
  simp [Mem.wf, and_assoc]

theorem wf_write (m : Mem) (a : Nat) (b : Byte) (h : m.wf = true) : (m.write a b).wf = true := by
  rw [wf_iff] at *
  simp only [Mem.write]
  exact ⟨Store.wf_set _ _ _ h.1, Store.wf_set _ _ _ h.2.1, h.2.2⟩

theorem wf_poison (m : Mem) (a : Nat) (h : m.wf = true) : (m.poison a).wf = true := by
  rw [wf_iff] at *
  simp only [Mem.poison]
  exact ⟨Store.wf_set _ _ _ h.1, Store.wf_set _ _ _ h.2.1, h.2.2⟩

theorem wf_writeN (n : Nat) : ∀ (m : Mem) (a x : Nat), m.wf = true → (m.writeN a n x).wf = true := by
  induction n with
  | zero => intro m a x h; exact h
  | succ n ih => intro m a x h; exact ih _ _ _ (wf_write m a _ h)

theorem wf_writeBad (n : Nat) : ∀ (m : Mem) (a x b : Nat), m.wf = true → (m.writeBad a n x b).wf = true := by
  induction n with
  | zero => intro m a x b h; exact h
  | succ n ih =>
    intro m a x b h
    apply ih
    split
    · exact wf_poison m a h
    · exact wf_write m a _ h

theorem wf_writeMask (n : Nat) : ∀ (m : Mem) (a x b : Nat), m.wf = true → (m.writeMask a n x b).wf = true := by
  induction n with
  | zero => intro m a x b h; exact h
  | succ n ih =>
    intro m a x b h
    apply ih
    split
    · exact wf_write m a _ h
    · exact h

theorem wf_fill (m : Mem) (a n : Nat) (h : m.wf = true) : (m.fill a n).wf = true := by
  rw [wf_iff] at *
  simp only [Mem.fill]
  exact ⟨Store.wf_clear _ _ _ h.1, Store.wf_clear _ _ _ h.2.1, h.2.2⟩

theorem wf_copyByte (m0 m : Mem) (a b : Nat) (h : m.wf = true) : (copyByte m0 m a b).wf = true := by
  unfold copyByte
  dsimp only
  split
  · rw [wf_iff] at *
    exact ⟨Store.wf_set _ _ _ h.1, Store.wf_set _ _ _ h.2.1, h.2.2⟩
  · exact wf_write m b _ h

theorem wf_copyKeys (m0 : Mem) (src dst n : Nat) (l : List Nat) :
    ∀ m : Mem, m.wf = true → (copyKeys m0 m src dst n l).wf = true := by
  induction l with
  | nil => intro m h; exact h
  | cons a r ih =>
    intro m h
    apply ih
    split
    · exact wf_copyByte _ _ _ _ h
    · exact h

theorem wf_copyN (m : Mem) (src dst n : Nat) (h : m.wf = true) : (m.copyN src dst n).wf = true :=
  wf_copyKeys _ _ _ _ _ _ (wf_fill m dst n h)

end Mem

end Sys2Proof.Machine
end

