-- ==== Sys2Proof/Laws/State.lean ====
section
/-! SUPPORT. The updates of the state by named access: what each field and each accessor reads after each update. -/

namespace Sys2Proof.Machine
open Sys2Proof

variable (s : State)

/-! A field of a word. -/

theorem Fld.get_eq (f : Fld) (v : W64) : f.get v = v.toNat / 2 ^ f.lo % 2 ^ f.width := by
  simp [Fld.get, BitVec.toNat_ushiftRight, Nat.shiftRight_eq_div_pow]

theorem Fld.get_lt (f : Fld) (v : W64) : f.get v < 2 ^ f.width := Nat.mod_lt _ (Nat.two_pow_pos _)

theorem Fld.testBit_get (f : Fld) (v : W64) (i : Nat) :
    (f.get v).testBit i = (decide (i < f.width) && v.getLsbD (f.lo + i)) := by
  simp [Fld.get, Nat.testBit_mod_two_pow, BitVec.testBit_toNat]

theorem Fld.getLsbD_mask (f : Fld) (j : Nat) :
    f.mask.getLsbD j = (decide (j < 64) && decide (f.lo ≤ j) && decide (j - f.lo < f.width)) := by
  simp only [Fld.mask, BitVec.getLsbD_ofNat, Nat.testBit_mul_two_pow, Nat.testBit_two_pow_sub_one]
  cases decide (j < 64) <;> simp

theorem Fld.getLsbD_put (f : Fld) (v : W64) (x j : Nat) (hj : j < 64) :
    (f.put v x).getLsbD j =
      if f.lo ≤ j ∧ j < f.lo + f.width then x.testBit (j - f.lo) else v.getLsbD j := by
  simp only [Fld.put, BitVec.getLsbD_or, BitVec.getLsbD_and, BitVec.getLsbD_not, Fld.getLsbD_mask,
    BitVec.getLsbD_shiftLeft, BitVec.getLsbD_ofNat, Nat.testBit_mod_two_pow, hj]
  by_cases h1 : f.lo ≤ j
  · by_cases h2 : j - f.lo < f.width
    · have h3 : j < f.lo + f.width := by omega
      have h4 : j - f.lo < 64 := by omega
      simp [h1, h2, h3, h4, Nat.not_lt.mpr h1]
    · have h3 : ¬ (j < f.lo + f.width) := by omega
      simp [h1, h2, h3]
  · have h3 : j < f.lo := by omega
    simp [h1, h3]

/-- A field reads what was put into it, within its width. -/
theorem Fld.get_put (f : Fld) (v : W64) (x : Nat) (h : f.lo + f.width ≤ 64) :
    f.get (f.put v x) = x % 2 ^ f.width := by
  apply Nat.eq_of_testBit_eq
  intro i
  rw [Fld.testBit_get, Nat.testBit_mod_two_pow]
  by_cases hi : i < f.width
  · have : f.lo + i < 64 := by omega
    rw [Fld.getLsbD_put f v x _ this]
    simp [hi]
  · simp [hi]

/-- A put into one field leaves another that shares no bit with it. -/
theorem Fld.get_put_other (f g : Fld) (v : W64) (x : Nat) (hg : g.lo + g.width ≤ 64)
    (h : f.lo + f.width ≤ g.lo ∨ g.lo + g.width ≤ f.lo) : g.get (f.put v x) = g.get v := by
  apply Nat.eq_of_testBit_eq
  intro i
  rw [Fld.testBit_get, Fld.testBit_get]
  by_cases hi : i < g.width
  · have h64 : g.lo + i < 64 := by omega
    have hn : ¬ (f.lo ≤ g.lo + i ∧ g.lo + i < f.lo + f.width) := by omega
    rw [Fld.getLsbD_put f v x _ h64, if_neg hn]
  · simp [hi]


/-! One lemma per field of the state and per update of another field. -/

@[simp] theorem State.setReg_hid (n : RegName) (ix : List Nat) (v : W64) : (s.setReg n ix v).hid = s.hid := rfl
@[simp] theorem State.setReg_units (n : RegName) (ix : List Nat) (v : W64) : (s.setReg n ix v).units = s.units := rfl
@[simp] theorem State.setReg_cases (n : RegName) (ix : List Nat) (v : W64) : (s.setReg n ix v).cases = s.cases := rfl
@[simp] theorem State.setReg_blocks (n : RegName) (ix : List Nat) (v : W64) : (s.setReg n ix v).blocks = s.blocks := rfl
@[simp] theorem State.setReg_ddrs (n : RegName) (ix : List Nat) (v : W64) : (s.setReg n ix v).ddrs = s.ddrs := rfl
@[simp] theorem State.setReg_scrubs (n : RegName) (ix : List Nat) (v : W64) : (s.setReg n ix v).scrubs = s.scrubs := rfl
@[simp] theorem State.setReg_inits (n : RegName) (ix : List Nat) (v : W64) : (s.setReg n ix v).inits = s.inits := rfl
@[simp] theorem State.setReg_links (n : RegName) (ix : List Nat) (v : W64) : (s.setReg n ix v).links = s.links := rfl
@[simp] theorem State.setReg_lanes (n : RegName) (ix : List Nat) (v : W64) : (s.setReg n ix v).lanes = s.lanes := rfl
@[simp] theorem State.setReg_eths (n : RegName) (ix : List Nat) (v : W64) : (s.setReg n ix v).eths = s.eths := rfl
@[simp] theorem State.setReg_pcies (n : RegName) (ix : List Nat) (v : W64) : (s.setReg n ix v).pcies = s.pcies := rfl
@[simp] theorem State.setReg_accepted (n : RegName) (ix : List Nat) (v : W64) : (s.setReg n ix v).accepted = s.accepted := rfl
@[simp] theorem State.setReg_time (n : RegName) (ix : List Nat) (v : W64) : (s.setReg n ix v).time = s.time := rfl
@[simp] theorem State.setReg_board (n : RegName) (ix : List Nat) (v : W64) : (s.setReg n ix v).board = s.board := rfl
@[simp] theorem State.setReg_jobs (n : RegName) (ix : List Nat) (v : W64) : (s.setReg n ix v).jobs = s.jobs := rfl
@[simp] theorem State.setReg_sel (n : RegName) (ix : List Nat) (v : W64) : (s.setReg n ix v).sel = s.sel := rfl
@[simp] theorem State.setReg_load (n : RegName) (ix : List Nat) (v : W64) : (s.setReg n ix v).load = s.load := rfl
@[simp] theorem State.setReg_comps (n : RegName) (ix : List Nat) (v : W64) : (s.setReg n ix v).comps = s.comps := rfl
@[simp] theorem State.setReg_sec (n : RegName) (ix : List Nat) (v : W64) : (s.setReg n ix v).sec = s.sec := rfl
@[simp] theorem State.setReg_tap (n : RegName) (ix : List Nat) (v : W64) : (s.setReg n ix v).tap = s.tap := rfl
@[simp] theorem State.setReg_windows (n : RegName) (ix : List Nat) (v : W64) : (s.setReg n ix v).windows = s.windows := rfl
@[simp] theorem State.setReg_flight (n : RegName) (ix : List Nat) (v : W64) : (s.setReg n ix v).flight = s.flight := rfl
@[simp] theorem State.setReg_mem (n : RegName) (ix : List Nat) (v : W64) : (s.setReg n ix v).mem = s.mem := rfl
@[simp] theorem State.setReg_fab (n : RegName) (ix : List Nat) (v : W64) : (s.setReg n ix v).fab = s.fab := rfl
@[simp] theorem State.setReg_mesh (n : RegName) (ix : List Nat) (v : W64) : (s.setReg n ix v).mesh = s.mesh := rfl
@[simp] theorem State.setReg_replies (n : RegName) (ix : List Nat) (v : W64) : (s.setReg n ix v).replies = s.replies := rfl
@[simp] theorem State.setReg_sides (n : RegName) (ix : List Nat) (v : W64) : (s.setReg n ix v).sides = s.sides := rfl
@[simp] theorem State.setReg_netFlaws (n : RegName) (ix : List Nat) (v : W64) : (s.setReg n ix v).netFlaws = s.netFlaws := rfl
@[simp] theorem State.setReg_repairs (n : RegName) (ix : List Nat) (v : W64) : (s.setReg n ix v).repairs = s.repairs := rfl
@[simp] theorem State.setReg_freeCtr (n : RegName) (ix : List Nat) (v : W64) : (s.setReg n ix v).freeCtr = s.freeCtr := rfl
@[simp] theorem State.setReg_answer (n : RegName) (ix : List Nat) (v : W64) : (s.setReg n ix v).answer = s.answer := rfl
@[simp] theorem State.setReg_pending (n : RegName) (ix : List Nat) (v : W64) : (s.setReg n ix v).pending = s.pending := rfl

@[simp] theorem State.setFld_hid (n : RegName) (ix : List Nat) (f : Fld) (x : Nat) : (s.setFld n ix f x).hid = s.hid := rfl
@[simp] theorem State.setFld_units (n : RegName) (ix : List Nat) (f : Fld) (x : Nat) : (s.setFld n ix f x).units = s.units := rfl
@[simp] theorem State.setFld_cases (n : RegName) (ix : List Nat) (f : Fld) (x : Nat) : (s.setFld n ix f x).cases = s.cases := rfl
@[simp] theorem State.setFld_blocks (n : RegName) (ix : List Nat) (f : Fld) (x : Nat) : (s.setFld n ix f x).blocks = s.blocks := rfl
@[simp] theorem State.setFld_ddrs (n : RegName) (ix : List Nat) (f : Fld) (x : Nat) : (s.setFld n ix f x).ddrs = s.ddrs := rfl
@[simp] theorem State.setFld_scrubs (n : RegName) (ix : List Nat) (f : Fld) (x : Nat) : (s.setFld n ix f x).scrubs = s.scrubs := rfl
@[simp] theorem State.setFld_inits (n : RegName) (ix : List Nat) (f : Fld) (x : Nat) : (s.setFld n ix f x).inits = s.inits := rfl
@[simp] theorem State.setFld_links (n : RegName) (ix : List Nat) (f : Fld) (x : Nat) : (s.setFld n ix f x).links = s.links := rfl
@[simp] theorem State.setFld_lanes (n : RegName) (ix : List Nat) (f : Fld) (x : Nat) : (s.setFld n ix f x).lanes = s.lanes := rfl
@[simp] theorem State.setFld_eths (n : RegName) (ix : List Nat) (f : Fld) (x : Nat) : (s.setFld n ix f x).eths = s.eths := rfl
@[simp] theorem State.setFld_pcies (n : RegName) (ix : List Nat) (f : Fld) (x : Nat) : (s.setFld n ix f x).pcies = s.pcies := rfl
@[simp] theorem State.setFld_accepted (n : RegName) (ix : List Nat) (f : Fld) (x : Nat) : (s.setFld n ix f x).accepted = s.accepted := rfl
@[simp] theorem State.setFld_time (n : RegName) (ix : List Nat) (f : Fld) (x : Nat) : (s.setFld n ix f x).time = s.time := rfl
@[simp] theorem State.setFld_board (n : RegName) (ix : List Nat) (f : Fld) (x : Nat) : (s.setFld n ix f x).board = s.board := rfl
@[simp] theorem State.setFld_jobs (n : RegName) (ix : List Nat) (f : Fld) (x : Nat) : (s.setFld n ix f x).jobs = s.jobs := rfl
@[simp] theorem State.setFld_sel (n : RegName) (ix : List Nat) (f : Fld) (x : Nat) : (s.setFld n ix f x).sel = s.sel := rfl
@[simp] theorem State.setFld_load (n : RegName) (ix : List Nat) (f : Fld) (x : Nat) : (s.setFld n ix f x).load = s.load := rfl
@[simp] theorem State.setFld_comps (n : RegName) (ix : List Nat) (f : Fld) (x : Nat) : (s.setFld n ix f x).comps = s.comps := rfl
@[simp] theorem State.setFld_sec (n : RegName) (ix : List Nat) (f : Fld) (x : Nat) : (s.setFld n ix f x).sec = s.sec := rfl
@[simp] theorem State.setFld_tap (n : RegName) (ix : List Nat) (f : Fld) (x : Nat) : (s.setFld n ix f x).tap = s.tap := rfl
@[simp] theorem State.setFld_windows (n : RegName) (ix : List Nat) (f : Fld) (x : Nat) : (s.setFld n ix f x).windows = s.windows := rfl
@[simp] theorem State.setFld_flight (n : RegName) (ix : List Nat) (f : Fld) (x : Nat) : (s.setFld n ix f x).flight = s.flight := rfl
@[simp] theorem State.setFld_mem (n : RegName) (ix : List Nat) (f : Fld) (x : Nat) : (s.setFld n ix f x).mem = s.mem := rfl
@[simp] theorem State.setFld_fab (n : RegName) (ix : List Nat) (f : Fld) (x : Nat) : (s.setFld n ix f x).fab = s.fab := rfl
@[simp] theorem State.setFld_mesh (n : RegName) (ix : List Nat) (f : Fld) (x : Nat) : (s.setFld n ix f x).mesh = s.mesh := rfl
@[simp] theorem State.setFld_replies (n : RegName) (ix : List Nat) (f : Fld) (x : Nat) : (s.setFld n ix f x).replies = s.replies := rfl
@[simp] theorem State.setFld_sides (n : RegName) (ix : List Nat) (f : Fld) (x : Nat) : (s.setFld n ix f x).sides = s.sides := rfl
@[simp] theorem State.setFld_netFlaws (n : RegName) (ix : List Nat) (f : Fld) (x : Nat) : (s.setFld n ix f x).netFlaws = s.netFlaws := rfl
@[simp] theorem State.setFld_repairs (n : RegName) (ix : List Nat) (f : Fld) (x : Nat) : (s.setFld n ix f x).repairs = s.repairs := rfl
@[simp] theorem State.setFld_freeCtr (n : RegName) (ix : List Nat) (f : Fld) (x : Nat) : (s.setFld n ix f x).freeCtr = s.freeCtr := rfl
@[simp] theorem State.setFld_answer (n : RegName) (ix : List Nat) (f : Fld) (x : Nat) : (s.setFld n ix f x).answer = s.answer := rfl
@[simp] theorem State.setFld_pending (n : RegName) (ix : List Nat) (f : Fld) (x : Nat) : (s.setFld n ix f x).pending = s.pending := rfl

@[simp] theorem State.bumpFld_hid (n : RegName) (ix : List Nat) (f : Fld) (x : Nat) : (s.bumpFld n ix f x).hid = s.hid := rfl
@[simp] theorem State.bumpFld_units (n : RegName) (ix : List Nat) (f : Fld) (x : Nat) : (s.bumpFld n ix f x).units = s.units := rfl
@[simp] theorem State.bumpFld_cases (n : RegName) (ix : List Nat) (f : Fld) (x : Nat) : (s.bumpFld n ix f x).cases = s.cases := rfl
@[simp] theorem State.bumpFld_blocks (n : RegName) (ix : List Nat) (f : Fld) (x : Nat) : (s.bumpFld n ix f x).blocks = s.blocks := rfl
@[simp] theorem State.bumpFld_ddrs (n : RegName) (ix : List Nat) (f : Fld) (x : Nat) : (s.bumpFld n ix f x).ddrs = s.ddrs := rfl
@[simp] theorem State.bumpFld_scrubs (n : RegName) (ix : List Nat) (f : Fld) (x : Nat) : (s.bumpFld n ix f x).scrubs = s.scrubs := rfl
@[simp] theorem State.bumpFld_inits (n : RegName) (ix : List Nat) (f : Fld) (x : Nat) : (s.bumpFld n ix f x).inits = s.inits := rfl
@[simp] theorem State.bumpFld_links (n : RegName) (ix : List Nat) (f : Fld) (x : Nat) : (s.bumpFld n ix f x).links = s.links := rfl
@[simp] theorem State.bumpFld_lanes (n : RegName) (ix : List Nat) (f : Fld) (x : Nat) : (s.bumpFld n ix f x).lanes = s.lanes := rfl
@[simp] theorem State.bumpFld_eths (n : RegName) (ix : List Nat) (f : Fld) (x : Nat) : (s.bumpFld n ix f x).eths = s.eths := rfl
@[simp] theorem State.bumpFld_pcies (n : RegName) (ix : List Nat) (f : Fld) (x : Nat) : (s.bumpFld n ix f x).pcies = s.pcies := rfl
@[simp] theorem State.bumpFld_accepted (n : RegName) (ix : List Nat) (f : Fld) (x : Nat) : (s.bumpFld n ix f x).accepted = s.accepted := rfl
@[simp] theorem State.bumpFld_time (n : RegName) (ix : List Nat) (f : Fld) (x : Nat) : (s.bumpFld n ix f x).time = s.time := rfl
@[simp] theorem State.bumpFld_board (n : RegName) (ix : List Nat) (f : Fld) (x : Nat) : (s.bumpFld n ix f x).board = s.board := rfl
@[simp] theorem State.bumpFld_jobs (n : RegName) (ix : List Nat) (f : Fld) (x : Nat) : (s.bumpFld n ix f x).jobs = s.jobs := rfl
@[simp] theorem State.bumpFld_sel (n : RegName) (ix : List Nat) (f : Fld) (x : Nat) : (s.bumpFld n ix f x).sel = s.sel := rfl
@[simp] theorem State.bumpFld_load (n : RegName) (ix : List Nat) (f : Fld) (x : Nat) : (s.bumpFld n ix f x).load = s.load := rfl
@[simp] theorem State.bumpFld_comps (n : RegName) (ix : List Nat) (f : Fld) (x : Nat) : (s.bumpFld n ix f x).comps = s.comps := rfl
@[simp] theorem State.bumpFld_sec (n : RegName) (ix : List Nat) (f : Fld) (x : Nat) : (s.bumpFld n ix f x).sec = s.sec := rfl
@[simp] theorem State.bumpFld_tap (n : RegName) (ix : List Nat) (f : Fld) (x : Nat) : (s.bumpFld n ix f x).tap = s.tap := rfl
@[simp] theorem State.bumpFld_windows (n : RegName) (ix : List Nat) (f : Fld) (x : Nat) : (s.bumpFld n ix f x).windows = s.windows := rfl
@[simp] theorem State.bumpFld_flight (n : RegName) (ix : List Nat) (f : Fld) (x : Nat) : (s.bumpFld n ix f x).flight = s.flight := rfl
@[simp] theorem State.bumpFld_mem (n : RegName) (ix : List Nat) (f : Fld) (x : Nat) : (s.bumpFld n ix f x).mem = s.mem := rfl
@[simp] theorem State.bumpFld_fab (n : RegName) (ix : List Nat) (f : Fld) (x : Nat) : (s.bumpFld n ix f x).fab = s.fab := rfl
@[simp] theorem State.bumpFld_mesh (n : RegName) (ix : List Nat) (f : Fld) (x : Nat) : (s.bumpFld n ix f x).mesh = s.mesh := rfl
@[simp] theorem State.bumpFld_replies (n : RegName) (ix : List Nat) (f : Fld) (x : Nat) : (s.bumpFld n ix f x).replies = s.replies := rfl
@[simp] theorem State.bumpFld_sides (n : RegName) (ix : List Nat) (f : Fld) (x : Nat) : (s.bumpFld n ix f x).sides = s.sides := rfl
@[simp] theorem State.bumpFld_netFlaws (n : RegName) (ix : List Nat) (f : Fld) (x : Nat) : (s.bumpFld n ix f x).netFlaws = s.netFlaws := rfl
@[simp] theorem State.bumpFld_repairs (n : RegName) (ix : List Nat) (f : Fld) (x : Nat) : (s.bumpFld n ix f x).repairs = s.repairs := rfl
@[simp] theorem State.bumpFld_freeCtr (n : RegName) (ix : List Nat) (f : Fld) (x : Nat) : (s.bumpFld n ix f x).freeCtr = s.freeCtr := rfl
@[simp] theorem State.bumpFld_answer (n : RegName) (ix : List Nat) (f : Fld) (x : Nat) : (s.bumpFld n ix f x).answer = s.answer := rfl
@[simp] theorem State.bumpFld_pending (n : RegName) (ix : List Nat) (f : Fld) (x : Nat) : (s.bumpFld n ix f x).pending = s.pending := rfl

@[simp] theorem State.raiseEvent_hid (d n : Nat) : (s.raiseEvent d n).hid = s.hid := rfl
@[simp] theorem State.raiseEvent_units (d n : Nat) : (s.raiseEvent d n).units = s.units := rfl
@[simp] theorem State.raiseEvent_cases (d n : Nat) : (s.raiseEvent d n).cases = s.cases := rfl
@[simp] theorem State.raiseEvent_blocks (d n : Nat) : (s.raiseEvent d n).blocks = s.blocks := rfl
@[simp] theorem State.raiseEvent_ddrs (d n : Nat) : (s.raiseEvent d n).ddrs = s.ddrs := rfl
@[simp] theorem State.raiseEvent_scrubs (d n : Nat) : (s.raiseEvent d n).scrubs = s.scrubs := rfl
@[simp] theorem State.raiseEvent_inits (d n : Nat) : (s.raiseEvent d n).inits = s.inits := rfl
@[simp] theorem State.raiseEvent_links (d n : Nat) : (s.raiseEvent d n).links = s.links := rfl
@[simp] theorem State.raiseEvent_lanes (d n : Nat) : (s.raiseEvent d n).lanes = s.lanes := rfl
@[simp] theorem State.raiseEvent_eths (d n : Nat) : (s.raiseEvent d n).eths = s.eths := rfl
@[simp] theorem State.raiseEvent_pcies (d n : Nat) : (s.raiseEvent d n).pcies = s.pcies := rfl
@[simp] theorem State.raiseEvent_accepted (d n : Nat) : (s.raiseEvent d n).accepted = s.accepted := rfl
@[simp] theorem State.raiseEvent_time (d n : Nat) : (s.raiseEvent d n).time = s.time := rfl
@[simp] theorem State.raiseEvent_board (d n : Nat) : (s.raiseEvent d n).board = s.board := rfl
@[simp] theorem State.raiseEvent_jobs (d n : Nat) : (s.raiseEvent d n).jobs = s.jobs := rfl
@[simp] theorem State.raiseEvent_sel (d n : Nat) : (s.raiseEvent d n).sel = s.sel := rfl
@[simp] theorem State.raiseEvent_load (d n : Nat) : (s.raiseEvent d n).load = s.load := rfl
@[simp] theorem State.raiseEvent_comps (d n : Nat) : (s.raiseEvent d n).comps = s.comps := rfl
@[simp] theorem State.raiseEvent_sec (d n : Nat) : (s.raiseEvent d n).sec = s.sec := rfl
@[simp] theorem State.raiseEvent_tap (d n : Nat) : (s.raiseEvent d n).tap = s.tap := rfl
@[simp] theorem State.raiseEvent_windows (d n : Nat) : (s.raiseEvent d n).windows = s.windows := rfl
@[simp] theorem State.raiseEvent_flight (d n : Nat) : (s.raiseEvent d n).flight = s.flight := rfl
@[simp] theorem State.raiseEvent_mem (d n : Nat) : (s.raiseEvent d n).mem = s.mem := rfl
@[simp] theorem State.raiseEvent_fab (d n : Nat) : (s.raiseEvent d n).fab = s.fab := rfl
@[simp] theorem State.raiseEvent_mesh (d n : Nat) : (s.raiseEvent d n).mesh = s.mesh := rfl
@[simp] theorem State.raiseEvent_replies (d n : Nat) : (s.raiseEvent d n).replies = s.replies := rfl
@[simp] theorem State.raiseEvent_sides (d n : Nat) : (s.raiseEvent d n).sides = s.sides := rfl
@[simp] theorem State.raiseEvent_netFlaws (d n : Nat) : (s.raiseEvent d n).netFlaws = s.netFlaws := rfl
@[simp] theorem State.raiseEvent_repairs (d n : Nat) : (s.raiseEvent d n).repairs = s.repairs := rfl
@[simp] theorem State.raiseEvent_freeCtr (d n : Nat) : (s.raiseEvent d n).freeCtr = s.freeCtr := rfl
@[simp] theorem State.raiseEvent_answer (d n : Nat) : (s.raiseEvent d n).answer = s.answer := rfl
@[simp] theorem State.raiseEvent_pending (d n : Nat) : (s.raiseEvent d n).pending = s.pending := rfl

@[simp] theorem State.clearRegs_hid (p : RKey → Bool) : (s.clearRegs p).hid = s.hid := rfl
@[simp] theorem State.clearRegs_units (p : RKey → Bool) : (s.clearRegs p).units = s.units := rfl
@[simp] theorem State.clearRegs_cases (p : RKey → Bool) : (s.clearRegs p).cases = s.cases := rfl
@[simp] theorem State.clearRegs_blocks (p : RKey → Bool) : (s.clearRegs p).blocks = s.blocks := rfl
@[simp] theorem State.clearRegs_ddrs (p : RKey → Bool) : (s.clearRegs p).ddrs = s.ddrs := rfl
@[simp] theorem State.clearRegs_scrubs (p : RKey → Bool) : (s.clearRegs p).scrubs = s.scrubs := rfl
@[simp] theorem State.clearRegs_inits (p : RKey → Bool) : (s.clearRegs p).inits = s.inits := rfl
@[simp] theorem State.clearRegs_links (p : RKey → Bool) : (s.clearRegs p).links = s.links := rfl
@[simp] theorem State.clearRegs_lanes (p : RKey → Bool) : (s.clearRegs p).lanes = s.lanes := rfl
@[simp] theorem State.clearRegs_eths (p : RKey → Bool) : (s.clearRegs p).eths = s.eths := rfl
@[simp] theorem State.clearRegs_pcies (p : RKey → Bool) : (s.clearRegs p).pcies = s.pcies := rfl
@[simp] theorem State.clearRegs_accepted (p : RKey → Bool) : (s.clearRegs p).accepted = s.accepted := rfl
@[simp] theorem State.clearRegs_time (p : RKey → Bool) : (s.clearRegs p).time = s.time := rfl
@[simp] theorem State.clearRegs_board (p : RKey → Bool) : (s.clearRegs p).board = s.board := rfl
@[simp] theorem State.clearRegs_jobs (p : RKey → Bool) : (s.clearRegs p).jobs = s.jobs := rfl
@[simp] theorem State.clearRegs_sel (p : RKey → Bool) : (s.clearRegs p).sel = s.sel := rfl
@[simp] theorem State.clearRegs_load (p : RKey → Bool) : (s.clearRegs p).load = s.load := rfl
@[simp] theorem State.clearRegs_comps (p : RKey → Bool) : (s.clearRegs p).comps = s.comps := rfl
@[simp] theorem State.clearRegs_sec (p : RKey → Bool) : (s.clearRegs p).sec = s.sec := rfl
@[simp] theorem State.clearRegs_tap (p : RKey → Bool) : (s.clearRegs p).tap = s.tap := rfl
@[simp] theorem State.clearRegs_windows (p : RKey → Bool) : (s.clearRegs p).windows = s.windows := rfl
@[simp] theorem State.clearRegs_flight (p : RKey → Bool) : (s.clearRegs p).flight = s.flight := rfl
@[simp] theorem State.clearRegs_mem (p : RKey → Bool) : (s.clearRegs p).mem = s.mem := rfl
@[simp] theorem State.clearRegs_fab (p : RKey → Bool) : (s.clearRegs p).fab = s.fab := rfl
@[simp] theorem State.clearRegs_mesh (p : RKey → Bool) : (s.clearRegs p).mesh = s.mesh := rfl
@[simp] theorem State.clearRegs_replies (p : RKey → Bool) : (s.clearRegs p).replies = s.replies := rfl
@[simp] theorem State.clearRegs_sides (p : RKey → Bool) : (s.clearRegs p).sides = s.sides := rfl
@[simp] theorem State.clearRegs_netFlaws (p : RKey → Bool) : (s.clearRegs p).netFlaws = s.netFlaws := rfl
@[simp] theorem State.clearRegs_repairs (p : RKey → Bool) : (s.clearRegs p).repairs = s.repairs := rfl
@[simp] theorem State.clearRegs_freeCtr (p : RKey → Bool) : (s.clearRegs p).freeCtr = s.freeCtr := rfl
@[simp] theorem State.clearRegs_answer (p : RKey → Bool) : (s.clearRegs p).answer = s.answer := rfl
@[simp] theorem State.clearRegs_pending (p : RKey → Bool) : (s.clearRegs p).pending = s.pending := rfl

@[simp] theorem State.setHv_regs (n : HidName) (ix : List Nat) (x : Nat) : (s.setHv n ix x).regs = s.regs := rfl
@[simp] theorem State.setHv_units (n : HidName) (ix : List Nat) (x : Nat) : (s.setHv n ix x).units = s.units := rfl
@[simp] theorem State.setHv_cases (n : HidName) (ix : List Nat) (x : Nat) : (s.setHv n ix x).cases = s.cases := rfl
@[simp] theorem State.setHv_blocks (n : HidName) (ix : List Nat) (x : Nat) : (s.setHv n ix x).blocks = s.blocks := rfl
@[simp] theorem State.setHv_ddrs (n : HidName) (ix : List Nat) (x : Nat) : (s.setHv n ix x).ddrs = s.ddrs := rfl
@[simp] theorem State.setHv_scrubs (n : HidName) (ix : List Nat) (x : Nat) : (s.setHv n ix x).scrubs = s.scrubs := rfl
@[simp] theorem State.setHv_inits (n : HidName) (ix : List Nat) (x : Nat) : (s.setHv n ix x).inits = s.inits := rfl
@[simp] theorem State.setHv_links (n : HidName) (ix : List Nat) (x : Nat) : (s.setHv n ix x).links = s.links := rfl
@[simp] theorem State.setHv_lanes (n : HidName) (ix : List Nat) (x : Nat) : (s.setHv n ix x).lanes = s.lanes := rfl
@[simp] theorem State.setHv_eths (n : HidName) (ix : List Nat) (x : Nat) : (s.setHv n ix x).eths = s.eths := rfl
@[simp] theorem State.setHv_pcies (n : HidName) (ix : List Nat) (x : Nat) : (s.setHv n ix x).pcies = s.pcies := rfl
@[simp] theorem State.setHv_accepted (n : HidName) (ix : List Nat) (x : Nat) : (s.setHv n ix x).accepted = s.accepted := rfl
@[simp] theorem State.setHv_time (n : HidName) (ix : List Nat) (x : Nat) : (s.setHv n ix x).time = s.time := rfl
@[simp] theorem State.setHv_board (n : HidName) (ix : List Nat) (x : Nat) : (s.setHv n ix x).board = s.board := rfl
@[simp] theorem State.setHv_jobs (n : HidName) (ix : List Nat) (x : Nat) : (s.setHv n ix x).jobs = s.jobs := rfl
@[simp] theorem State.setHv_sel (n : HidName) (ix : List Nat) (x : Nat) : (s.setHv n ix x).sel = s.sel := rfl
@[simp] theorem State.setHv_load (n : HidName) (ix : List Nat) (x : Nat) : (s.setHv n ix x).load = s.load := rfl
@[simp] theorem State.setHv_comps (n : HidName) (ix : List Nat) (x : Nat) : (s.setHv n ix x).comps = s.comps := rfl
@[simp] theorem State.setHv_sec (n : HidName) (ix : List Nat) (x : Nat) : (s.setHv n ix x).sec = s.sec := rfl
@[simp] theorem State.setHv_tap (n : HidName) (ix : List Nat) (x : Nat) : (s.setHv n ix x).tap = s.tap := rfl
@[simp] theorem State.setHv_windows (n : HidName) (ix : List Nat) (x : Nat) : (s.setHv n ix x).windows = s.windows := rfl
@[simp] theorem State.setHv_flight (n : HidName) (ix : List Nat) (x : Nat) : (s.setHv n ix x).flight = s.flight := rfl
@[simp] theorem State.setHv_mem (n : HidName) (ix : List Nat) (x : Nat) : (s.setHv n ix x).mem = s.mem := rfl
@[simp] theorem State.setHv_fab (n : HidName) (ix : List Nat) (x : Nat) : (s.setHv n ix x).fab = s.fab := rfl
@[simp] theorem State.setHv_mesh (n : HidName) (ix : List Nat) (x : Nat) : (s.setHv n ix x).mesh = s.mesh := rfl
@[simp] theorem State.setHv_replies (n : HidName) (ix : List Nat) (x : Nat) : (s.setHv n ix x).replies = s.replies := rfl
@[simp] theorem State.setHv_sides (n : HidName) (ix : List Nat) (x : Nat) : (s.setHv n ix x).sides = s.sides := rfl
@[simp] theorem State.setHv_netFlaws (n : HidName) (ix : List Nat) (x : Nat) : (s.setHv n ix x).netFlaws = s.netFlaws := rfl
@[simp] theorem State.setHv_repairs (n : HidName) (ix : List Nat) (x : Nat) : (s.setHv n ix x).repairs = s.repairs := rfl
@[simp] theorem State.setHv_freeCtr (n : HidName) (ix : List Nat) (x : Nat) : (s.setHv n ix x).freeCtr = s.freeCtr := rfl
@[simp] theorem State.setHv_answer (n : HidName) (ix : List Nat) (x : Nat) : (s.setHv n ix x).answer = s.answer := rfl
@[simp] theorem State.setHv_pending (n : HidName) (ix : List Nat) (x : Nat) : (s.setHv n ix x).pending = s.pending := rfl

@[simp] theorem State.setUnit_regs (u : UnitId) (x : UnitState) : (s.setUnit u x).regs = s.regs := rfl
@[simp] theorem State.setUnit_hid (u : UnitId) (x : UnitState) : (s.setUnit u x).hid = s.hid := rfl
@[simp] theorem State.setUnit_cases (u : UnitId) (x : UnitState) : (s.setUnit u x).cases = s.cases := rfl
@[simp] theorem State.setUnit_blocks (u : UnitId) (x : UnitState) : (s.setUnit u x).blocks = s.blocks := rfl
@[simp] theorem State.setUnit_ddrs (u : UnitId) (x : UnitState) : (s.setUnit u x).ddrs = s.ddrs := rfl
@[simp] theorem State.setUnit_scrubs (u : UnitId) (x : UnitState) : (s.setUnit u x).scrubs = s.scrubs := rfl
@[simp] theorem State.setUnit_inits (u : UnitId) (x : UnitState) : (s.setUnit u x).inits = s.inits := rfl
@[simp] theorem State.setUnit_links (u : UnitId) (x : UnitState) : (s.setUnit u x).links = s.links := rfl
@[simp] theorem State.setUnit_lanes (u : UnitId) (x : UnitState) : (s.setUnit u x).lanes = s.lanes := rfl
@[simp] theorem State.setUnit_eths (u : UnitId) (x : UnitState) : (s.setUnit u x).eths = s.eths := rfl
@[simp] theorem State.setUnit_pcies (u : UnitId) (x : UnitState) : (s.setUnit u x).pcies = s.pcies := rfl
@[simp] theorem State.setUnit_accepted (u : UnitId) (x : UnitState) : (s.setUnit u x).accepted = s.accepted := rfl
@[simp] theorem State.setUnit_time (u : UnitId) (x : UnitState) : (s.setUnit u x).time = s.time := rfl
@[simp] theorem State.setUnit_board (u : UnitId) (x : UnitState) : (s.setUnit u x).board = s.board := rfl
@[simp] theorem State.setUnit_jobs (u : UnitId) (x : UnitState) : (s.setUnit u x).jobs = s.jobs := rfl
@[simp] theorem State.setUnit_sel (u : UnitId) (x : UnitState) : (s.setUnit u x).sel = s.sel := rfl
@[simp] theorem State.setUnit_load (u : UnitId) (x : UnitState) : (s.setUnit u x).load = s.load := rfl
@[simp] theorem State.setUnit_comps (u : UnitId) (x : UnitState) : (s.setUnit u x).comps = s.comps := rfl
@[simp] theorem State.setUnit_sec (u : UnitId) (x : UnitState) : (s.setUnit u x).sec = s.sec := rfl
@[simp] theorem State.setUnit_tap (u : UnitId) (x : UnitState) : (s.setUnit u x).tap = s.tap := rfl
@[simp] theorem State.setUnit_windows (u : UnitId) (x : UnitState) : (s.setUnit u x).windows = s.windows := rfl
@[simp] theorem State.setUnit_flight (u : UnitId) (x : UnitState) : (s.setUnit u x).flight = s.flight := rfl
@[simp] theorem State.setUnit_mem (u : UnitId) (x : UnitState) : (s.setUnit u x).mem = s.mem := rfl
@[simp] theorem State.setUnit_fab (u : UnitId) (x : UnitState) : (s.setUnit u x).fab = s.fab := rfl
@[simp] theorem State.setUnit_mesh (u : UnitId) (x : UnitState) : (s.setUnit u x).mesh = s.mesh := rfl
@[simp] theorem State.setUnit_replies (u : UnitId) (x : UnitState) : (s.setUnit u x).replies = s.replies := rfl
@[simp] theorem State.setUnit_sides (u : UnitId) (x : UnitState) : (s.setUnit u x).sides = s.sides := rfl
@[simp] theorem State.setUnit_netFlaws (u : UnitId) (x : UnitState) : (s.setUnit u x).netFlaws = s.netFlaws := rfl
@[simp] theorem State.setUnit_repairs (u : UnitId) (x : UnitState) : (s.setUnit u x).repairs = s.repairs := rfl
@[simp] theorem State.setUnit_freeCtr (u : UnitId) (x : UnitState) : (s.setUnit u x).freeCtr = s.freeCtr := rfl
@[simp] theorem State.setUnit_answer (u : UnitId) (x : UnitState) : (s.setUnit u x).answer = s.answer := rfl
@[simp] theorem State.setUnit_pending (u : UnitId) (x : UnitState) : (s.setUnit u x).pending = s.pending := rfl

@[simp] theorem State.setCase_regs (d c : Nat) (x : CaseState) : (s.setCase d c x).regs = s.regs := rfl
@[simp] theorem State.setCase_hid (d c : Nat) (x : CaseState) : (s.setCase d c x).hid = s.hid := rfl
@[simp] theorem State.setCase_units (d c : Nat) (x : CaseState) : (s.setCase d c x).units = s.units := rfl
@[simp] theorem State.setCase_blocks (d c : Nat) (x : CaseState) : (s.setCase d c x).blocks = s.blocks := rfl
@[simp] theorem State.setCase_ddrs (d c : Nat) (x : CaseState) : (s.setCase d c x).ddrs = s.ddrs := rfl
@[simp] theorem State.setCase_scrubs (d c : Nat) (x : CaseState) : (s.setCase d c x).scrubs = s.scrubs := rfl
@[simp] theorem State.setCase_inits (d c : Nat) (x : CaseState) : (s.setCase d c x).inits = s.inits := rfl
@[simp] theorem State.setCase_links (d c : Nat) (x : CaseState) : (s.setCase d c x).links = s.links := rfl
@[simp] theorem State.setCase_lanes (d c : Nat) (x : CaseState) : (s.setCase d c x).lanes = s.lanes := rfl
@[simp] theorem State.setCase_eths (d c : Nat) (x : CaseState) : (s.setCase d c x).eths = s.eths := rfl
@[simp] theorem State.setCase_pcies (d c : Nat) (x : CaseState) : (s.setCase d c x).pcies = s.pcies := rfl
@[simp] theorem State.setCase_accepted (d c : Nat) (x : CaseState) : (s.setCase d c x).accepted = s.accepted := rfl
@[simp] theorem State.setCase_time (d c : Nat) (x : CaseState) : (s.setCase d c x).time = s.time := rfl
@[simp] theorem State.setCase_board (d c : Nat) (x : CaseState) : (s.setCase d c x).board = s.board := rfl
@[simp] theorem State.setCase_jobs (d c : Nat) (x : CaseState) : (s.setCase d c x).jobs = s.jobs := rfl
@[simp] theorem State.setCase_sel (d c : Nat) (x : CaseState) : (s.setCase d c x).sel = s.sel := rfl
@[simp] theorem State.setCase_load (d c : Nat) (x : CaseState) : (s.setCase d c x).load = s.load := rfl
@[simp] theorem State.setCase_comps (d c : Nat) (x : CaseState) : (s.setCase d c x).comps = s.comps := rfl
@[simp] theorem State.setCase_sec (d c : Nat) (x : CaseState) : (s.setCase d c x).sec = s.sec := rfl
@[simp] theorem State.setCase_tap (d c : Nat) (x : CaseState) : (s.setCase d c x).tap = s.tap := rfl
@[simp] theorem State.setCase_windows (d c : Nat) (x : CaseState) : (s.setCase d c x).windows = s.windows := rfl
@[simp] theorem State.setCase_flight (d c : Nat) (x : CaseState) : (s.setCase d c x).flight = s.flight := rfl
@[simp] theorem State.setCase_mem (d c : Nat) (x : CaseState) : (s.setCase d c x).mem = s.mem := rfl
@[simp] theorem State.setCase_fab (d c : Nat) (x : CaseState) : (s.setCase d c x).fab = s.fab := rfl
@[simp] theorem State.setCase_mesh (d c : Nat) (x : CaseState) : (s.setCase d c x).mesh = s.mesh := rfl
@[simp] theorem State.setCase_replies (d c : Nat) (x : CaseState) : (s.setCase d c x).replies = s.replies := rfl
@[simp] theorem State.setCase_sides (d c : Nat) (x : CaseState) : (s.setCase d c x).sides = s.sides := rfl
@[simp] theorem State.setCase_netFlaws (d c : Nat) (x : CaseState) : (s.setCase d c x).netFlaws = s.netFlaws := rfl
@[simp] theorem State.setCase_repairs (d c : Nat) (x : CaseState) : (s.setCase d c x).repairs = s.repairs := rfl
@[simp] theorem State.setCase_freeCtr (d c : Nat) (x : CaseState) : (s.setCase d c x).freeCtr = s.freeCtr := rfl
@[simp] theorem State.setCase_answer (d c : Nat) (x : CaseState) : (s.setCase d c x).answer = s.answer := rfl
@[simp] theorem State.setCase_pending (d c : Nat) (x : CaseState) : (s.setCase d c x).pending = s.pending := rfl

@[simp] theorem State.setInit_regs (o : Who) (x : InitState) : (s.setInit o x).regs = s.regs := rfl
@[simp] theorem State.setInit_hid (o : Who) (x : InitState) : (s.setInit o x).hid = s.hid := rfl
@[simp] theorem State.setInit_units (o : Who) (x : InitState) : (s.setInit o x).units = s.units := rfl
@[simp] theorem State.setInit_cases (o : Who) (x : InitState) : (s.setInit o x).cases = s.cases := rfl
@[simp] theorem State.setInit_blocks (o : Who) (x : InitState) : (s.setInit o x).blocks = s.blocks := rfl
@[simp] theorem State.setInit_ddrs (o : Who) (x : InitState) : (s.setInit o x).ddrs = s.ddrs := rfl
@[simp] theorem State.setInit_scrubs (o : Who) (x : InitState) : (s.setInit o x).scrubs = s.scrubs := rfl
@[simp] theorem State.setInit_links (o : Who) (x : InitState) : (s.setInit o x).links = s.links := rfl
@[simp] theorem State.setInit_lanes (o : Who) (x : InitState) : (s.setInit o x).lanes = s.lanes := rfl
@[simp] theorem State.setInit_eths (o : Who) (x : InitState) : (s.setInit o x).eths = s.eths := rfl
@[simp] theorem State.setInit_pcies (o : Who) (x : InitState) : (s.setInit o x).pcies = s.pcies := rfl
@[simp] theorem State.setInit_accepted (o : Who) (x : InitState) : (s.setInit o x).accepted = s.accepted := rfl
@[simp] theorem State.setInit_time (o : Who) (x : InitState) : (s.setInit o x).time = s.time := rfl
@[simp] theorem State.setInit_board (o : Who) (x : InitState) : (s.setInit o x).board = s.board := rfl
@[simp] theorem State.setInit_jobs (o : Who) (x : InitState) : (s.setInit o x).jobs = s.jobs := rfl
@[simp] theorem State.setInit_sel (o : Who) (x : InitState) : (s.setInit o x).sel = s.sel := rfl
@[simp] theorem State.setInit_load (o : Who) (x : InitState) : (s.setInit o x).load = s.load := rfl
@[simp] theorem State.setInit_comps (o : Who) (x : InitState) : (s.setInit o x).comps = s.comps := rfl
@[simp] theorem State.setInit_sec (o : Who) (x : InitState) : (s.setInit o x).sec = s.sec := rfl
@[simp] theorem State.setInit_tap (o : Who) (x : InitState) : (s.setInit o x).tap = s.tap := rfl
@[simp] theorem State.setInit_windows (o : Who) (x : InitState) : (s.setInit o x).windows = s.windows := rfl
@[simp] theorem State.setInit_flight (o : Who) (x : InitState) : (s.setInit o x).flight = s.flight := rfl
@[simp] theorem State.setInit_mem (o : Who) (x : InitState) : (s.setInit o x).mem = s.mem := rfl
@[simp] theorem State.setInit_fab (o : Who) (x : InitState) : (s.setInit o x).fab = s.fab := rfl
@[simp] theorem State.setInit_mesh (o : Who) (x : InitState) : (s.setInit o x).mesh = s.mesh := rfl
@[simp] theorem State.setInit_replies (o : Who) (x : InitState) : (s.setInit o x).replies = s.replies := rfl
@[simp] theorem State.setInit_sides (o : Who) (x : InitState) : (s.setInit o x).sides = s.sides := rfl
@[simp] theorem State.setInit_netFlaws (o : Who) (x : InitState) : (s.setInit o x).netFlaws = s.netFlaws := rfl
@[simp] theorem State.setInit_repairs (o : Who) (x : InitState) : (s.setInit o x).repairs = s.repairs := rfl
@[simp] theorem State.setInit_freeCtr (o : Who) (x : InitState) : (s.setInit o x).freeCtr = s.freeCtr := rfl
@[simp] theorem State.setInit_answer (o : Who) (x : InitState) : (s.setInit o x).answer = s.answer := rfl
@[simp] theorem State.setInit_pending (o : Who) (x : InitState) : (s.setInit o x).pending = s.pending := rfl

@[simp] theorem State.setComp_regs (d : Nat) (x : CompState) : (s.setComp d x).regs = s.regs := rfl
@[simp] theorem State.setComp_hid (d : Nat) (x : CompState) : (s.setComp d x).hid = s.hid := rfl
@[simp] theorem State.setComp_units (d : Nat) (x : CompState) : (s.setComp d x).units = s.units := rfl
@[simp] theorem State.setComp_cases (d : Nat) (x : CompState) : (s.setComp d x).cases = s.cases := rfl
@[simp] theorem State.setComp_blocks (d : Nat) (x : CompState) : (s.setComp d x).blocks = s.blocks := rfl
@[simp] theorem State.setComp_ddrs (d : Nat) (x : CompState) : (s.setComp d x).ddrs = s.ddrs := rfl
@[simp] theorem State.setComp_scrubs (d : Nat) (x : CompState) : (s.setComp d x).scrubs = s.scrubs := rfl
@[simp] theorem State.setComp_inits (d : Nat) (x : CompState) : (s.setComp d x).inits = s.inits := rfl
@[simp] theorem State.setComp_links (d : Nat) (x : CompState) : (s.setComp d x).links = s.links := rfl
@[simp] theorem State.setComp_lanes (d : Nat) (x : CompState) : (s.setComp d x).lanes = s.lanes := rfl
@[simp] theorem State.setComp_eths (d : Nat) (x : CompState) : (s.setComp d x).eths = s.eths := rfl
@[simp] theorem State.setComp_pcies (d : Nat) (x : CompState) : (s.setComp d x).pcies = s.pcies := rfl
@[simp] theorem State.setComp_accepted (d : Nat) (x : CompState) : (s.setComp d x).accepted = s.accepted := rfl
@[simp] theorem State.setComp_time (d : Nat) (x : CompState) : (s.setComp d x).time = s.time := rfl
@[simp] theorem State.setComp_board (d : Nat) (x : CompState) : (s.setComp d x).board = s.board := rfl
@[simp] theorem State.setComp_jobs (d : Nat) (x : CompState) : (s.setComp d x).jobs = s.jobs := rfl
@[simp] theorem State.setComp_sel (d : Nat) (x : CompState) : (s.setComp d x).sel = s.sel := rfl
@[simp] theorem State.setComp_load (d : Nat) (x : CompState) : (s.setComp d x).load = s.load := rfl
@[simp] theorem State.setComp_sec (d : Nat) (x : CompState) : (s.setComp d x).sec = s.sec := rfl
@[simp] theorem State.setComp_tap (d : Nat) (x : CompState) : (s.setComp d x).tap = s.tap := rfl
@[simp] theorem State.setComp_windows (d : Nat) (x : CompState) : (s.setComp d x).windows = s.windows := rfl
@[simp] theorem State.setComp_flight (d : Nat) (x : CompState) : (s.setComp d x).flight = s.flight := rfl
@[simp] theorem State.setComp_mem (d : Nat) (x : CompState) : (s.setComp d x).mem = s.mem := rfl
@[simp] theorem State.setComp_fab (d : Nat) (x : CompState) : (s.setComp d x).fab = s.fab := rfl
@[simp] theorem State.setComp_mesh (d : Nat) (x : CompState) : (s.setComp d x).mesh = s.mesh := rfl
@[simp] theorem State.setComp_replies (d : Nat) (x : CompState) : (s.setComp d x).replies = s.replies := rfl
@[simp] theorem State.setComp_sides (d : Nat) (x : CompState) : (s.setComp d x).sides = s.sides := rfl
@[simp] theorem State.setComp_netFlaws (d : Nat) (x : CompState) : (s.setComp d x).netFlaws = s.netFlaws := rfl
@[simp] theorem State.setComp_repairs (d : Nat) (x : CompState) : (s.setComp d x).repairs = s.repairs := rfl
@[simp] theorem State.setComp_freeCtr (d : Nat) (x : CompState) : (s.setComp d x).freeCtr = s.freeCtr := rfl
@[simp] theorem State.setComp_answer (d : Nat) (x : CompState) : (s.setComp d x).answer = s.answer := rfl
@[simp] theorem State.setComp_pending (d : Nat) (x : CompState) : (s.setComp d x).pending = s.pending := rfl

@[simp] theorem State.draw_regs : (s.draw).regs = s.regs := rfl
@[simp] theorem State.draw_hid : (s.draw).hid = s.hid := rfl
@[simp] theorem State.draw_units : (s.draw).units = s.units := rfl
@[simp] theorem State.draw_cases : (s.draw).cases = s.cases := rfl
@[simp] theorem State.draw_blocks : (s.draw).blocks = s.blocks := rfl
@[simp] theorem State.draw_ddrs : (s.draw).ddrs = s.ddrs := rfl
@[simp] theorem State.draw_scrubs : (s.draw).scrubs = s.scrubs := rfl
@[simp] theorem State.draw_inits : (s.draw).inits = s.inits := rfl
@[simp] theorem State.draw_links : (s.draw).links = s.links := rfl
@[simp] theorem State.draw_lanes : (s.draw).lanes = s.lanes := rfl
@[simp] theorem State.draw_eths : (s.draw).eths = s.eths := rfl
@[simp] theorem State.draw_pcies : (s.draw).pcies = s.pcies := rfl
@[simp] theorem State.draw_accepted : (s.draw).accepted = s.accepted := rfl
@[simp] theorem State.draw_time : (s.draw).time = s.time := rfl
@[simp] theorem State.draw_board : (s.draw).board = s.board := rfl
@[simp] theorem State.draw_jobs : (s.draw).jobs = s.jobs := rfl
@[simp] theorem State.draw_sel : (s.draw).sel = s.sel := rfl
@[simp] theorem State.draw_load : (s.draw).load = s.load := rfl
@[simp] theorem State.draw_comps : (s.draw).comps = s.comps := rfl
@[simp] theorem State.draw_sec : (s.draw).sec = s.sec := rfl
@[simp] theorem State.draw_tap : (s.draw).tap = s.tap := rfl
@[simp] theorem State.draw_windows : (s.draw).windows = s.windows := rfl
@[simp] theorem State.draw_flight : (s.draw).flight = s.flight := rfl
@[simp] theorem State.draw_mem : (s.draw).mem = s.mem := rfl
@[simp] theorem State.draw_fab : (s.draw).fab = s.fab := rfl
@[simp] theorem State.draw_mesh : (s.draw).mesh = s.mesh := rfl
@[simp] theorem State.draw_replies : (s.draw).replies = s.replies := rfl
@[simp] theorem State.draw_sides : (s.draw).sides = s.sides := rfl
@[simp] theorem State.draw_netFlaws : (s.draw).netFlaws = s.netFlaws := rfl
@[simp] theorem State.draw_repairs : (s.draw).repairs = s.repairs := rfl
@[simp] theorem State.draw_answer : (s.draw).answer = s.answer := rfl
@[simp] theorem State.draw_pending : (s.draw).pending = s.pending := rfl

@[simp] theorem State.answerWith_regs (st : Nat) (dv : W64) (pm : Nat) : (s.answerWith st dv pm).regs = s.regs := rfl
@[simp] theorem State.answerWith_hid (st : Nat) (dv : W64) (pm : Nat) : (s.answerWith st dv pm).hid = s.hid := rfl
@[simp] theorem State.answerWith_units (st : Nat) (dv : W64) (pm : Nat) : (s.answerWith st dv pm).units = s.units := rfl
@[simp] theorem State.answerWith_cases (st : Nat) (dv : W64) (pm : Nat) : (s.answerWith st dv pm).cases = s.cases := rfl
@[simp] theorem State.answerWith_blocks (st : Nat) (dv : W64) (pm : Nat) : (s.answerWith st dv pm).blocks = s.blocks := rfl
@[simp] theorem State.answerWith_ddrs (st : Nat) (dv : W64) (pm : Nat) : (s.answerWith st dv pm).ddrs = s.ddrs := rfl
@[simp] theorem State.answerWith_scrubs (st : Nat) (dv : W64) (pm : Nat) : (s.answerWith st dv pm).scrubs = s.scrubs := rfl
@[simp] theorem State.answerWith_inits (st : Nat) (dv : W64) (pm : Nat) : (s.answerWith st dv pm).inits = s.inits := rfl
@[simp] theorem State.answerWith_links (st : Nat) (dv : W64) (pm : Nat) : (s.answerWith st dv pm).links = s.links := rfl
@[simp] theorem State.answerWith_lanes (st : Nat) (dv : W64) (pm : Nat) : (s.answerWith st dv pm).lanes = s.lanes := rfl
@[simp] theorem State.answerWith_eths (st : Nat) (dv : W64) (pm : Nat) : (s.answerWith st dv pm).eths = s.eths := rfl
@[simp] theorem State.answerWith_pcies (st : Nat) (dv : W64) (pm : Nat) : (s.answerWith st dv pm).pcies = s.pcies := rfl
@[simp] theorem State.answerWith_accepted (st : Nat) (dv : W64) (pm : Nat) : (s.answerWith st dv pm).accepted = s.accepted := rfl
@[simp] theorem State.answerWith_time (st : Nat) (dv : W64) (pm : Nat) : (s.answerWith st dv pm).time = s.time := rfl
@[simp] theorem State.answerWith_board (st : Nat) (dv : W64) (pm : Nat) : (s.answerWith st dv pm).board = s.board := rfl
@[simp] theorem State.answerWith_jobs (st : Nat) (dv : W64) (pm : Nat) : (s.answerWith st dv pm).jobs = s.jobs := rfl
@[simp] theorem State.answerWith_sel (st : Nat) (dv : W64) (pm : Nat) : (s.answerWith st dv pm).sel = s.sel := rfl
@[simp] theorem State.answerWith_load (st : Nat) (dv : W64) (pm : Nat) : (s.answerWith st dv pm).load = s.load := rfl
@[simp] theorem State.answerWith_comps (st : Nat) (dv : W64) (pm : Nat) : (s.answerWith st dv pm).comps = s.comps := rfl
@[simp] theorem State.answerWith_sec (st : Nat) (dv : W64) (pm : Nat) : (s.answerWith st dv pm).sec = s.sec := rfl
@[simp] theorem State.answerWith_tap (st : Nat) (dv : W64) (pm : Nat) : (s.answerWith st dv pm).tap = s.tap := rfl
@[simp] theorem State.answerWith_windows (st : Nat) (dv : W64) (pm : Nat) : (s.answerWith st dv pm).windows = s.windows := rfl
@[simp] theorem State.answerWith_flight (st : Nat) (dv : W64) (pm : Nat) : (s.answerWith st dv pm).flight = s.flight := rfl
@[simp] theorem State.answerWith_mem (st : Nat) (dv : W64) (pm : Nat) : (s.answerWith st dv pm).mem = s.mem := rfl
@[simp] theorem State.answerWith_fab (st : Nat) (dv : W64) (pm : Nat) : (s.answerWith st dv pm).fab = s.fab := rfl
@[simp] theorem State.answerWith_mesh (st : Nat) (dv : W64) (pm : Nat) : (s.answerWith st dv pm).mesh = s.mesh := rfl
@[simp] theorem State.answerWith_replies (st : Nat) (dv : W64) (pm : Nat) : (s.answerWith st dv pm).replies = s.replies := rfl
@[simp] theorem State.answerWith_sides (st : Nat) (dv : W64) (pm : Nat) : (s.answerWith st dv pm).sides = s.sides := rfl
@[simp] theorem State.answerWith_netFlaws (st : Nat) (dv : W64) (pm : Nat) : (s.answerWith st dv pm).netFlaws = s.netFlaws := rfl
@[simp] theorem State.answerWith_repairs (st : Nat) (dv : W64) (pm : Nat) : (s.answerWith st dv pm).repairs = s.repairs := rfl
@[simp] theorem State.answerWith_freeCtr (st : Nat) (dv : W64) (pm : Nat) : (s.answerWith st dv pm).freeCtr = s.freeCtr := rfl
@[simp] theorem State.answerWith_pending (st : Nat) (dv : W64) (pm : Nat) : (s.answerWith st dv pm).pending = s.pending := rfl

/-! Each accessor after an update of another part of the state. -/

@[simp] theorem State.setReg_hv (n : RegName) (ix : List Nat) (v : W64) (m : HidName) (jx : List Nat) :
    (s.setReg n ix v).hv m jx = s.hv m jx := rfl
@[simp] theorem State.setReg_unit (n : RegName) (ix : List Nat) (v : W64) (w : UnitId) :
    (s.setReg n ix v).unit w = s.unit w := rfl
@[simp] theorem State.setReg_case (n : RegName) (ix : List Nat) (v : W64) (a b : Nat) :
    (s.setReg n ix v).case a b = s.case a b := rfl
@[simp] theorem State.setReg_init (n : RegName) (ix : List Nat) (v : W64) (w : Who) :
    (s.setReg n ix v).init w = s.init w := rfl
@[simp] theorem State.setReg_comp (n : RegName) (ix : List Nat) (v : W64) (a : Nat) :
    (s.setReg n ix v).comp a = s.comp a := rfl

@[simp] theorem State.setFld_hv (n : RegName) (ix : List Nat) (f : Fld) (x : Nat) (m : HidName) (jx : List Nat) :
    (s.setFld n ix f x).hv m jx = s.hv m jx := rfl
@[simp] theorem State.setFld_unit (n : RegName) (ix : List Nat) (f : Fld) (x : Nat) (w : UnitId) :
    (s.setFld n ix f x).unit w = s.unit w := rfl
@[simp] theorem State.setFld_case (n : RegName) (ix : List Nat) (f : Fld) (x : Nat) (a b : Nat) :
    (s.setFld n ix f x).case a b = s.case a b := rfl
@[simp] theorem State.setFld_init (n : RegName) (ix : List Nat) (f : Fld) (x : Nat) (w : Who) :
    (s.setFld n ix f x).init w = s.init w := rfl
@[simp] theorem State.setFld_comp (n : RegName) (ix : List Nat) (f : Fld) (x : Nat) (a : Nat) :
    (s.setFld n ix f x).comp a = s.comp a := rfl

@[simp] theorem State.bumpFld_hv (n : RegName) (ix : List Nat) (f : Fld) (x : Nat) (m : HidName) (jx : List Nat) :
    (s.bumpFld n ix f x).hv m jx = s.hv m jx := rfl
@[simp] theorem State.bumpFld_unit (n : RegName) (ix : List Nat) (f : Fld) (x : Nat) (w : UnitId) :
    (s.bumpFld n ix f x).unit w = s.unit w := rfl
@[simp] theorem State.bumpFld_case (n : RegName) (ix : List Nat) (f : Fld) (x : Nat) (a b : Nat) :
    (s.bumpFld n ix f x).case a b = s.case a b := rfl
@[simp] theorem State.bumpFld_init (n : RegName) (ix : List Nat) (f : Fld) (x : Nat) (w : Who) :
    (s.bumpFld n ix f x).init w = s.init w := rfl
@[simp] theorem State.bumpFld_comp (n : RegName) (ix : List Nat) (f : Fld) (x : Nat) (a : Nat) :
    (s.bumpFld n ix f x).comp a = s.comp a := rfl

@[simp] theorem State.raiseEvent_hv (d n : Nat) (m : HidName) (jx : List Nat) :
    (s.raiseEvent d n).hv m jx = s.hv m jx := rfl
@[simp] theorem State.raiseEvent_unit (d n : Nat) (w : UnitId) :
    (s.raiseEvent d n).unit w = s.unit w := rfl
@[simp] theorem State.raiseEvent_case (d n : Nat) (a b : Nat) :
    (s.raiseEvent d n).case a b = s.case a b := rfl
@[simp] theorem State.raiseEvent_init (d n : Nat) (w : Who) :
    (s.raiseEvent d n).init w = s.init w := rfl
@[simp] theorem State.raiseEvent_comp (d n : Nat) (a : Nat) :
    (s.raiseEvent d n).comp a = s.comp a := rfl

@[simp] theorem State.clearRegs_hv (p : RKey → Bool) (m : HidName) (jx : List Nat) :
    (s.clearRegs p).hv m jx = s.hv m jx := rfl
@[simp] theorem State.clearRegs_unit (p : RKey → Bool) (w : UnitId) :
    (s.clearRegs p).unit w = s.unit w := rfl
@[simp] theorem State.clearRegs_case (p : RKey → Bool) (a b : Nat) :
    (s.clearRegs p).case a b = s.case a b := rfl
@[simp] theorem State.clearRegs_init (p : RKey → Bool) (w : Who) :
    (s.clearRegs p).init w = s.init w := rfl
@[simp] theorem State.clearRegs_comp (p : RKey → Bool) (a : Nat) :
    (s.clearRegs p).comp a = s.comp a := rfl

@[simp] theorem State.setHv_reg (n : HidName) (ix : List Nat) (x : Nat) (m : RegName) (jx : List Nat) :
    (s.setHv n ix x).reg m jx = s.reg m jx := rfl
@[simp] theorem State.setHv_fld (n : HidName) (ix : List Nat) (x : Nat) (m : RegName) (jx : List Nat) (g : Fld) :
    (s.setHv n ix x).fld m jx g = s.fld m jx g := rfl
@[simp] theorem State.setHv_bit (n : HidName) (ix : List Nat) (x : Nat) (m : RegName) (jx : List Nat) (g : Fld) :
    (s.setHv n ix x).bit m jx g = s.bit m jx g := rfl
@[simp] theorem State.setHv_unit (n : HidName) (ix : List Nat) (x : Nat) (w : UnitId) :
    (s.setHv n ix x).unit w = s.unit w := rfl
@[simp] theorem State.setHv_case (n : HidName) (ix : List Nat) (x : Nat) (a b : Nat) :
    (s.setHv n ix x).case a b = s.case a b := rfl
@[simp] theorem State.setHv_init (n : HidName) (ix : List Nat) (x : Nat) (w : Who) :
    (s.setHv n ix x).init w = s.init w := rfl
@[simp] theorem State.setHv_comp (n : HidName) (ix : List Nat) (x : Nat) (a : Nat) :
    (s.setHv n ix x).comp a = s.comp a := rfl

@[simp] theorem State.setUnit_reg (u : UnitId) (x : UnitState) (m : RegName) (jx : List Nat) :
    (s.setUnit u x).reg m jx = s.reg m jx := rfl
@[simp] theorem State.setUnit_fld (u : UnitId) (x : UnitState) (m : RegName) (jx : List Nat) (g : Fld) :
    (s.setUnit u x).fld m jx g = s.fld m jx g := rfl
@[simp] theorem State.setUnit_bit (u : UnitId) (x : UnitState) (m : RegName) (jx : List Nat) (g : Fld) :
    (s.setUnit u x).bit m jx g = s.bit m jx g := rfl
@[simp] theorem State.setUnit_hv (u : UnitId) (x : UnitState) (m : HidName) (jx : List Nat) :
    (s.setUnit u x).hv m jx = s.hv m jx := rfl
@[simp] theorem State.setUnit_case (u : UnitId) (x : UnitState) (a b : Nat) :
    (s.setUnit u x).case a b = s.case a b := rfl
@[simp] theorem State.setUnit_init (u : UnitId) (x : UnitState) (w : Who) :
    (s.setUnit u x).init w = s.init w := rfl
@[simp] theorem State.setUnit_comp (u : UnitId) (x : UnitState) (a : Nat) :
    (s.setUnit u x).comp a = s.comp a := rfl

@[simp] theorem State.setCase_reg (d c : Nat) (x : CaseState) (m : RegName) (jx : List Nat) :
    (s.setCase d c x).reg m jx = s.reg m jx := rfl
@[simp] theorem State.setCase_fld (d c : Nat) (x : CaseState) (m : RegName) (jx : List Nat) (g : Fld) :
    (s.setCase d c x).fld m jx g = s.fld m jx g := rfl
@[simp] theorem State.setCase_bit (d c : Nat) (x : CaseState) (m : RegName) (jx : List Nat) (g : Fld) :
    (s.setCase d c x).bit m jx g = s.bit m jx g := rfl
@[simp] theorem State.setCase_hv (d c : Nat) (x : CaseState) (m : HidName) (jx : List Nat) :
    (s.setCase d c x).hv m jx = s.hv m jx := rfl
@[simp] theorem State.setCase_unit (d c : Nat) (x : CaseState) (w : UnitId) :
    (s.setCase d c x).unit w = s.unit w := rfl
@[simp] theorem State.setCase_init (d c : Nat) (x : CaseState) (w : Who) :
    (s.setCase d c x).init w = s.init w := rfl
@[simp] theorem State.setCase_comp (d c : Nat) (x : CaseState) (a : Nat) :
    (s.setCase d c x).comp a = s.comp a := rfl

@[simp] theorem State.setInit_reg (o : Who) (x : InitState) (m : RegName) (jx : List Nat) :
    (s.setInit o x).reg m jx = s.reg m jx := rfl
@[simp] theorem State.setInit_fld (o : Who) (x : InitState) (m : RegName) (jx : List Nat) (g : Fld) :
    (s.setInit o x).fld m jx g = s.fld m jx g := rfl
@[simp] theorem State.setInit_bit (o : Who) (x : InitState) (m : RegName) (jx : List Nat) (g : Fld) :
    (s.setInit o x).bit m jx g = s.bit m jx g := rfl
@[simp] theorem State.setInit_hv (o : Who) (x : InitState) (m : HidName) (jx : List Nat) :
    (s.setInit o x).hv m jx = s.hv m jx := rfl
@[simp] theorem State.setInit_unit (o : Who) (x : InitState) (w : UnitId) :
    (s.setInit o x).unit w = s.unit w := rfl
@[simp] theorem State.setInit_case (o : Who) (x : InitState) (a b : Nat) :
    (s.setInit o x).case a b = s.case a b := rfl
@[simp] theorem State.setInit_comp (o : Who) (x : InitState) (a : Nat) :
    (s.setInit o x).comp a = s.comp a := rfl

@[simp] theorem State.setComp_reg (d : Nat) (x : CompState) (m : RegName) (jx : List Nat) :
    (s.setComp d x).reg m jx = s.reg m jx := rfl
@[simp] theorem State.setComp_fld (d : Nat) (x : CompState) (m : RegName) (jx : List Nat) (g : Fld) :
    (s.setComp d x).fld m jx g = s.fld m jx g := rfl
@[simp] theorem State.setComp_bit (d : Nat) (x : CompState) (m : RegName) (jx : List Nat) (g : Fld) :
    (s.setComp d x).bit m jx g = s.bit m jx g := rfl
@[simp] theorem State.setComp_hv (d : Nat) (x : CompState) (m : HidName) (jx : List Nat) :
    (s.setComp d x).hv m jx = s.hv m jx := rfl
@[simp] theorem State.setComp_unit (d : Nat) (x : CompState) (w : UnitId) :
    (s.setComp d x).unit w = s.unit w := rfl
@[simp] theorem State.setComp_case (d : Nat) (x : CompState) (a b : Nat) :
    (s.setComp d x).case a b = s.case a b := rfl
@[simp] theorem State.setComp_init (d : Nat) (x : CompState) (w : Who) :
    (s.setComp d x).init w = s.init w := rfl

@[simp] theorem State.draw_reg  (m : RegName) (jx : List Nat) :
    (s.draw).reg m jx = s.reg m jx := rfl
@[simp] theorem State.draw_fld  (m : RegName) (jx : List Nat) (g : Fld) :
    (s.draw).fld m jx g = s.fld m jx g := rfl
@[simp] theorem State.draw_bit  (m : RegName) (jx : List Nat) (g : Fld) :
    (s.draw).bit m jx g = s.bit m jx g := rfl
@[simp] theorem State.draw_hv  (m : HidName) (jx : List Nat) :
    (s.draw).hv m jx = s.hv m jx := rfl
@[simp] theorem State.draw_unit  (w : UnitId) :
    (s.draw).unit w = s.unit w := rfl
@[simp] theorem State.draw_case  (a b : Nat) :
    (s.draw).case a b = s.case a b := rfl
@[simp] theorem State.draw_init  (w : Who) :
    (s.draw).init w = s.init w := rfl
@[simp] theorem State.draw_comp  (a : Nat) :
    (s.draw).comp a = s.comp a := rfl

@[simp] theorem State.answerWith_reg (st : Nat) (dv : W64) (pm : Nat) (m : RegName) (jx : List Nat) :
    (s.answerWith st dv pm).reg m jx = s.reg m jx := rfl
@[simp] theorem State.answerWith_fld (st : Nat) (dv : W64) (pm : Nat) (m : RegName) (jx : List Nat) (g : Fld) :
    (s.answerWith st dv pm).fld m jx g = s.fld m jx g := rfl
@[simp] theorem State.answerWith_bit (st : Nat) (dv : W64) (pm : Nat) (m : RegName) (jx : List Nat) (g : Fld) :
    (s.answerWith st dv pm).bit m jx g = s.bit m jx g := rfl
@[simp] theorem State.answerWith_hv (st : Nat) (dv : W64) (pm : Nat) (m : HidName) (jx : List Nat) :
    (s.answerWith st dv pm).hv m jx = s.hv m jx := rfl
@[simp] theorem State.answerWith_unit (st : Nat) (dv : W64) (pm : Nat) (w : UnitId) :
    (s.answerWith st dv pm).unit w = s.unit w := rfl
@[simp] theorem State.answerWith_case (st : Nat) (dv : W64) (pm : Nat) (a b : Nat) :
    (s.answerWith st dv pm).case a b = s.case a b := rfl
@[simp] theorem State.answerWith_init (st : Nat) (dv : W64) (pm : Nat) (w : Who) :
    (s.answerWith st dv pm).init w = s.init w := rfl
@[simp] theorem State.answerWith_comp (st : Nat) (dv : W64) (pm : Nat) (a : Nat) :
    (s.answerWith st dv pm).comp a = s.comp a := rfl

theorem Tbl.erase_erase {κ α : Type} [DecidableEq κ] (t : Tbl κ α) (k : κ) :
    Tbl.erase (Tbl.erase t k) k = Tbl.erase t k := by
  induction t with
  | nil => rfl
  | cons e r ih =>
    obtain ⟨a, b⟩ := e
    by_cases h : a = k <;> simp [Tbl.erase, h, ih]

/-- The later of two writes of one key stands alone. -/
@[simp] theorem Tbl.set_set {κ α : Type} [DecidableEq κ] (t : Tbl κ α) (k : κ) (v w : α) :
    Tbl.set (Tbl.set t k v) k w = Tbl.set t k w := by
  simp [Tbl.set, Tbl.erase, Tbl.erase_erase]

@[simp] theorem State.setUnit_setUnit (u : UnitId) (x y : UnitState) :
    (s.setUnit u x).setUnit u y = s.setUnit u y := by
  simp [State.setUnit]

@[simp] theorem State.setReg_setReg (n : RegName) (ix : List Nat) (v w : W64) :
    (s.setReg n ix v).setReg n ix w = s.setReg n ix w := by
  simp [State.setReg]

/-! Registers and fields after a write. -/

@[simp] theorem State.reg_setReg (n m : RegName) (ix jx : List Nat) (v : W64) :
    (s.setReg n ix v).reg m jx = if (⟨n, ix⟩ : RKey) = ⟨m, jx⟩ then v else s.reg m jx := by
  simp only [State.reg, State.setReg, Tbl.get_set]

@[simp] theorem State.setReg_same (n : RegName) (ix : List Nat) (v : W64) :
    (s.setReg n ix v).reg n ix = v := by simp

theorem State.reg_setFld (n m : RegName) (ix jx : List Nat) (f : Fld) (x : Nat) :
    (s.setFld n ix f x).reg m jx = if (⟨n, ix⟩ : RKey) = ⟨m, jx⟩ then f.put (s.reg n ix) x else s.reg m jx := by
  simp [State.setFld]

/-- A field after a write of a field. -/
theorem State.fld_setFld (n m : RegName) (ix jx : List Nat) (f g : Fld) (x : Nat) :
    (s.setFld n ix f x).fld m jx g =
      if (⟨n, ix⟩ : RKey) = ⟨m, jx⟩ then g.get (f.put (s.reg n ix) x) else s.fld m jx g := by
  simp only [State.fld, State.reg_setFld]; split <;> rfl


/-- A field reads back what was stored, within its width. -/
theorem State.fld_setFld_same (n : RegName) (ix : List Nat) (f : Fld) (x : Nat) (h : f.lo + f.width ≤ 64) :
    (s.setFld n ix f x).fld n ix f = x % 2 ^ f.width := by
  simp [State.fld_setFld, Fld.get_put f _ x h]

/-- A field of the same register that shares no bit is kept. -/
theorem State.fld_setFld_other (n : RegName) (ix : List Nat) (f g : Fld) (x : Nat) (hg : g.lo + g.width ≤ 64)
    (h : f.lo + f.width ≤ g.lo ∨ g.lo + g.width ≤ f.lo) : (s.setFld n ix f x).fld n ix g = s.fld n ix g := by
  rw [State.fld_setFld, if_pos rfl, Fld.get_put_other f g _ x hg h, State.fld]

/-- A counting field after a count: it stays at its largest value. -/
theorem State.fld_bumpFld (n : RegName) (ix : List Nat) (f : Fld) (x : Nat) (h : f.lo + f.width ≤ 64) :
    (s.bumpFld n ix f x).fld n ix f = min (s.fld n ix f + x) (2 ^ f.width - 1) := by
  rw [State.bumpFld, State.fld_setFld_same _ _ _ _ _ h]
  apply Nat.mod_eq_of_lt
  have := Nat.two_pow_pos f.width
  exact Nat.lt_of_le_of_lt (Nat.min_le_right _ _) (by omega)

/-- A count changes no field of another register. -/
theorem State.fld_bumpFld_ne (n m : RegName) (ix jx : List Nat) (f g : Fld) (x : Nat) (h : (⟨n, ix⟩ : RKey) ≠ ⟨m, jx⟩) :
    (s.bumpFld n ix f x).fld m jx g = s.fld m jx g := by
  simp [State.bumpFld, State.fld_setFld, h]

/-- A register whose name or indices differ is kept. -/
theorem State.reg_setFld_ne (n m : RegName) (ix jx : List Nat) (f : Fld) (x : Nat)
    (h : (⟨n, ix⟩ : RKey) ≠ ⟨m, jx⟩) : (s.setFld n ix f x).reg m jx = s.reg m jx := by
  simp [State.reg_setFld, h]

@[simp] theorem State.hv_setHv (n m : HidName) (ix jx : List Nat) (x : Nat) :
    (s.setHv n ix x).hv m jx = if (⟨n, ix⟩ : HKey) = ⟨m, jx⟩ then x else s.hv m jx := by
  simp only [State.hv, State.setHv, Tbl.get_set]

theorem State.unit_setUnit (u w : UnitId) (x : UnitState) :
    (s.setUnit u x).unit w = if u = w then x else s.unit w := by
  simp only [State.unit, State.setUnit, Tbl.get_set]

@[simp] theorem State.unit_setUnit_same (u : UnitId) (x : UnitState) : (s.setUnit u x).unit u = x := by
  simp [State.unit_setUnit]

theorem State.case_setCase (d c a b : Nat) (x : CaseState) :
    (s.setCase d c x).case a b = if (d, c) = (a, b) then x else s.case a b := by
  simp only [State.case, State.setCase, Tbl.get_set]

@[simp] theorem State.case_setCase_same (d c : Nat) (x : CaseState) : (s.setCase d c x).case d c = x := by
  simp [State.case_setCase]

theorem State.init_setInit (w v : Who) (x : InitState) :
    (s.setInit w x).init v = if w = v then x else s.init v := by
  simp only [State.init, State.setInit, Tbl.get_set]

@[simp] theorem State.init_setInit_same (w : Who) (x : InitState) : (s.setInit w x).init w = x := by
  simp [State.init_setInit]

theorem State.comp_setComp (a b : Nat) (x : CompState) :
    (s.setComp a x).comp b = if a = b then x else s.comp b := by
  simp only [State.comp, State.setComp, Tbl.get_set]

@[simp] theorem State.comp_setComp_same (a : Nat) (x : CompState) : (s.setComp a x).comp a = x := by
  simp [State.comp_setComp]

/-- What raising an event does to the registers (R675): the pending bit of the event is set and TAKEN of its route is
cleared; every other register is kept. -/
theorem State.reg_raiseEvent (d e : Nat) (m : RegName) (jx : List Nat) :
    (s.raiseEvent d e).reg m jx =
      if (⟨.eventRoute, [d, e]⟩ : RKey) = ⟨m, jx⟩ then F.eventRoute_TAKEN.put (s.reg .eventRoute [d, e]) 0
      else if (⟨.eventPend, [d, e / 32]⟩ : RKey) = ⟨m, jx⟩ then
        s.reg .eventPend [d, e / 32] ||| BitVec.ofNat 64 (2 ^ (e % 32))
      else s.reg m jx := by
  simp only [State.raiseEvent, State.reg_setFld, State.reg_setReg]
  simp

/-- A register that is no event register is kept when an event is raised. -/
theorem State.reg_raiseEvent_ne (d e : Nat) (m : RegName) (jx : List Nat) (h1 : m ≠ .eventRoute)
    (h2 : m ≠ .eventPend) : (s.raiseEvent d e).reg m jx = s.reg m jx := by
  rw [State.reg_raiseEvent]
  simp [Ne.symm h1, Ne.symm h2]

end Sys2Proof.Machine
end

