-- ==== Sys2Proof/Laws/Pair.lean ====
section
/-! SUPPORT. What the issue of a pair does, once for all rows of the instruction set (R49 to R51, R121 to R124). -/

namespace Sys2Proof.Machine
open Sys2Proof

theorem State.setUnit_unit_ne (s : State) (u w : UnitId) (x : UnitState) (h : u ≠ w) :
    (s.setUnit u x).unit w = s.unit w := by
  rw [State.unit_setUnit, if_neg h]

/-- A processor that the debugger neither resumes, nor steps, nor is about to halt, and for which no return is held, goes on
after its pair. -/
theorem issued_free (u : UnitId) (s : State) (h1 : (s.unit u).stepping = false) (h2 : (s.unit u).resume = 0)
    (h3 : (s.unit u).haltDue = false) (h4 : (s.unit u).held = []) : issued u s = s := by
  simp [issued, h1, h2, h3, h4]

/-- The pair at the pc of a processor may be issued for the first time: the processor runs, its instruction is there, and no
request of the pair has left before. -/
structure Ready (k : Ctx) : Prop where
  runs : mayRun k.s k.u = true
  there : fetchDone k.s k.u k.x.pc = true
  unsent : k.x.sent = []

/-- A slot whose request has not left is issued as it is. -/
@[simp] theorem UnitState.asSent_unsent (x : UnitState) (a : SlotOut) (h : x.sent = []) : x.asSent a = a := by
  simp [UnitState.asSent, h]

/-- A processor that neither stops, nor steps, nor is about to halt goes on after its pair. -/
theorem endTrap_free (u : UnitId) (x : UnitState) (s : State) (h1 : x.stopping = false) (h2 : x.stepping = false)
    (h3 : x.haltDue = false) : endTrap u x s = s := by
  simp [endTrap, h1, h2, h3]

/-- A pair that may issue, waits for nothing and raises no trap takes effect. -/
theorem issuePair_commits (k : Ctx) (a b : SlotOut) (hc : Ready k)
    (hf : fetchTraps k.s k.u k.x.pc = []) (hw : max (max (pendWait k a) (pendWait k b)) (max a.wait b.wait) = 0)
    (ht : pairTraps k a b = []) (ha : asyncCause k.s k.u = none) :
    issuePair k a b = issued k.u (endTrap k.u k.x (commitPair k.u a b (pairAcct k.u a b k.s))) := by
  have h : ¬ max (max (pendWait k a) (pendWait k b)) (max a.wait b.wait) ≠ 0 := fun n => n hw
  have h' : lowestCause (pairTraps k a b) = none := by rw [ht]; rfl
  simp only [issuePair, hc.runs, hc.there, UnitState.asSent_unsent _ _ hc.unsent, hf, if_neg h, h', ha, Bool.not_true,
    Bool.false_eq_true, if_false]

/-- A processor that does not run keeps its pair, and nothing changes. -/
theorem issuePair_held (k : Ctx) (a b : SlotOut) (hc : mayRun k.s k.u = false) : issuePair k a b = k.s := by
  simp [issuePair, hc]

/-- A processor whose instruction is not there sends its fetch and waits (R84, R112). -/
theorem issuePair_fetches (k : Ctx) (a b : SlotOut) (hc : mayRun k.s k.u = true) (hd : fetchDone k.s k.u k.x.pc = false)
    (ha : asyncCause k.s k.u = none) : issuePair k a b = waitPair k.u 2 (sendFetch k.u k.s) := by
  simp [issuePair, hc, hd, ha]

/-- A pair that waits changes nothing but the reason of its wait (R51). -/
theorem issuePair_waits (k : Ctx) (a b : SlotOut) (hc : Ready k)
    (hf : fetchTraps k.s k.u k.x.pc = [])
    (hw : max (max (pendWait k a) (pendWait k b)) (max a.wait b.wait) ≠ 0) (ha : asyncCause k.s k.u = none) :
    issuePair k a b =
      waitPair k.u (max (max (pendWait k a) (pendWait k b)) (max a.wait b.wait)) k.s := by
  simp only [issuePair, hc.runs, hc.there, UnitState.asSent_unsent _ _ hc.unsent, hf, ha, if_pos hw, Bool.not_true,
    Bool.false_eq_true, if_false]

/-- A pair that raises causes takes the lowest, with no effect of its own (R50, R121, R122). -/
theorem issuePair_traps (k : Ctx) (a b : SlotOut) (c : Nat) (v : W64) (hc : Ready k)
    (hf : fetchTraps k.s k.u k.x.pc = []) (hw : max (max (pendWait k a) (pendWait k b)) (max a.wait b.wait) = 0)
    (ht : lowestCause (pairTraps k a b) = some (c, v)) (hb : ¬ (c = 16 ∧ brkHalts k.s k.u = true)) :
    issuePair k a b =
      issued k.u (takeTrap k.u c v k.x.pc
        (if c = 13 then b.acct (a.acct (pairAcct k.u a b k.s)) else pairAcct k.u a b k.s)) := by
  have h : ¬ max (max (pendWait k a) (pendWait k b)) (max a.wait b.wait) ≠ 0 := fun n => n hw
  simp only [issuePair, hc.runs, hc.there, UnitState.asSent_unsent _ _ hc.unsent, hf, if_neg h, ht, if_neg hb, Bool.not_true,
    Bool.false_eq_true, if_false]

/-- A commit without a jump: the loops, fetch and the bookkeeping of the processor, then both slots (R49, R115). -/
theorem commitPair_next (u : UnitId) (a b : SlotOut) (s : State) (hn : a.next = none) :
    commitPair u a b s =
      b.eff (a.eff (stuMayFail u (s.unit u).lkSeq a.lock (s.setUnit u
        { (if isEng u then loopEnd (s.unit u) (s.unit u).pc else (s.unit u, none)).1 with
          stall := 0, wev := none, mismRun := 0, sent := (s.unit u).laterSent a, fetched := none,
          lkSeq := nextSeq (s.unit u).lkSeq a.lock false,
          pc := (if isEng u then loopEnd (s.unit u) (s.unit u).pc else (s.unit u, none)).2.getD
            ((s.unit u).pc + BitVec.ofNat 64 (unitBytes u)) }))) := by
  unfold commitPair
  simp [hn]

/-- A commit with a jump (R111). -/
theorem commitPair_jump (u : UnitId) (a b : SlotOut) (s : State) (t : W64) (hn : a.next = some t) :
    commitPair u a b s =
      b.eff (a.eff (stuMayFail u (s.unit u).lkSeq a.lock (s.setUnit u
        { s.unit u with stall := 0, wev := none, mismRun := 0, sent := (s.unit u).laterSent a, fetched := none,
                        lkSeq := nextSeq (s.unit u).lkSeq a.lock true, pc := t }))) := by
  unfold commitPair
  simp [hn]

@[simp] theorem stuMayFail_other (u : UnitId) (n lock : Nat) (s : State) (h : lock ≠ 2) :
    stuMayFail u n lock s = s := by
  simp [stuMayFail, h]

@[simp] theorem onUnit_setUnit (u : UnitId) (f : UnitState → UnitState) (s : State) (x : UnitState) :
    onUnit u f (s.setUnit u x) = s.setUnit u (f x) := by
  simp [onUnit]

/-! What an update of a register of a processor leaves. -/

@[simp] theorem UnitState.getG_setGm (x : UnitState) (n m : Nat) (v : W64) (k : Mark) :
    (x.setGm n v k).getG m = if m = 0 then 0 else if n = m then v else x.getG m := by
  unfold UnitState.setGm UnitState.getG
  by_cases hm : m = 0
  · simp [hm]
  · by_cases hn : n = 0
    · simp [hm, hn, Ne.symm hm]
    · simp [hm, hn, Tbl.get_set]

@[simp] theorem UnitState.getG_setG (x : UnitState) (n m : Nat) (v : W64) :
    (x.setG n v).getG m = if m = 0 then 0 else if n = m then v else x.getG m := by
  simp [UnitState.setG]

theorem UnitState.markG_setGm (x : UnitState) (n m : Nat) (v : W64) (k : Mark) :
    (x.setGm n v k).markG m = if m = 0 then .none else if n = m then k else x.markG m := by
  unfold UnitState.setGm UnitState.markG
  by_cases hm : m = 0
  · simp [hm]
  · by_cases hn : n = 0
    · simp [hm, hn, Ne.symm hm]
    · simp [hm, hn, Tbl.get_set]

@[simp] theorem UnitState.getV_setVm (x : UnitState) (n m : Nat) (v : W512) (k : Mark) :
    (x.setVm n v k).getV m = if n = m then v else x.getV m := by
  simp [UnitState.setVm, UnitState.getV, Tbl.get_set]

@[simp] theorem UnitState.getV_setV (x : UnitState) (n m : Nat) (v : W512) :
    (x.setV n v).getV m = if n = m then v else x.getV m := by
  simp [UnitState.setV]

@[simp] theorem UnitState.getA_setA (x : UnitState) (n m : Nat) (v : W1536) :
    (x.setA n v).getA m = if n = m then v else x.getA m := by
  simp [UnitState.setA, UnitState.getA, Tbl.get_set]

@[simp] theorem UnitState.getP_setP (x : UnitState) (n m : Nat) (v : W32) :
    (x.setP n v).getP m = if m = 0 then BitVec.allOnes 32 else if n = m then v else x.getP m := by
  unfold UnitState.setP UnitState.getP
  by_cases hm : m = 0
  · simp [hm]
  · by_cases hn : n = 0
    · simp [hm, hn, Ne.symm hm]
    · simp [hm, hn, Tbl.get_set]

@[simp] theorem UnitState.getSys_setSys (x : UnitState) (n m : Nat) (v : W64) :
    (x.setSys n v).getSys m = if n = m then v else x.getSys m := by
  simp [UnitState.setSys, UnitState.getSys, Tbl.get_set]

end Sys2Proof.Machine
end

