-- ==== Sys2Proof/Laws/Parts.lean ====
section
/-! SUPPORT. The updates of the parts of the state that one family of commands holds: block RAMs, DDR4 controllers, crossing ports,
lanes, Ethernet controllers, scrub engines, the timing unit and the fabric. -/

namespace Sys2Proof.Machine
open Sys2Proof

variable (s : State)

@[simp] theorem State.setBlock_regs (d g b : Nat) (x : BlockState) : (s.setBlock d g b x).regs = s.regs := rfl
@[simp] theorem State.setBlock_hid (d g b : Nat) (x : BlockState) : (s.setBlock d g b x).hid = s.hid := rfl
@[simp] theorem State.setBlock_units (d g b : Nat) (x : BlockState) : (s.setBlock d g b x).units = s.units := rfl
@[simp] theorem State.setBlock_cases (d g b : Nat) (x : BlockState) : (s.setBlock d g b x).cases = s.cases := rfl
@[simp] theorem State.setBlock_fab (d g b : Nat) (x : BlockState) : (s.setBlock d g b x).fab = s.fab := rfl
@[simp] theorem State.setBlock_ddrs (d g b : Nat) (x : BlockState) : (s.setBlock d g b x).ddrs = s.ddrs := rfl
@[simp] theorem State.setBlock_scrubs (d g b : Nat) (x : BlockState) : (s.setBlock d g b x).scrubs = s.scrubs := rfl
@[simp] theorem State.setBlock_inits (d g b : Nat) (x : BlockState) : (s.setBlock d g b x).inits = s.inits := rfl
@[simp] theorem State.setBlock_links (d g b : Nat) (x : BlockState) : (s.setBlock d g b x).links = s.links := rfl
@[simp] theorem State.setBlock_lanes (d g b : Nat) (x : BlockState) : (s.setBlock d g b x).lanes = s.lanes := rfl
@[simp] theorem State.setBlock_eths (d g b : Nat) (x : BlockState) : (s.setBlock d g b x).eths = s.eths := rfl
@[simp] theorem State.setBlock_pcies (d g b : Nat) (x : BlockState) : (s.setBlock d g b x).pcies = s.pcies := rfl
@[simp] theorem State.setBlock_accepted (d g b : Nat) (x : BlockState) : (s.setBlock d g b x).accepted = s.accepted := rfl
@[simp] theorem State.setBlock_time (d g b : Nat) (x : BlockState) : (s.setBlock d g b x).time = s.time := rfl
@[simp] theorem State.setBlock_board (d g b : Nat) (x : BlockState) : (s.setBlock d g b x).board = s.board := rfl
@[simp] theorem State.setBlock_jobs (d g b : Nat) (x : BlockState) : (s.setBlock d g b x).jobs = s.jobs := rfl
@[simp] theorem State.setBlock_sel (d g b : Nat) (x : BlockState) : (s.setBlock d g b x).sel = s.sel := rfl
@[simp] theorem State.setBlock_load (d g b : Nat) (x : BlockState) : (s.setBlock d g b x).load = s.load := rfl
@[simp] theorem State.setBlock_comps (d g b : Nat) (x : BlockState) : (s.setBlock d g b x).comps = s.comps := rfl
@[simp] theorem State.setBlock_sec (d g b : Nat) (x : BlockState) : (s.setBlock d g b x).sec = s.sec := rfl
@[simp] theorem State.setBlock_tap (d g b : Nat) (x : BlockState) : (s.setBlock d g b x).tap = s.tap := rfl
@[simp] theorem State.setBlock_windows (d g b : Nat) (x : BlockState) : (s.setBlock d g b x).windows = s.windows := rfl
@[simp] theorem State.setBlock_flight (d g b : Nat) (x : BlockState) : (s.setBlock d g b x).flight = s.flight := rfl
@[simp] theorem State.setBlock_mesh (d g b : Nat) (x : BlockState) : (s.setBlock d g b x).mesh = s.mesh := rfl
@[simp] theorem State.setBlock_replies (d g b : Nat) (x : BlockState) : (s.setBlock d g b x).replies = s.replies := rfl
@[simp] theorem State.setBlock_sides (d g b : Nat) (x : BlockState) : (s.setBlock d g b x).sides = s.sides := rfl
@[simp] theorem State.setBlock_netFlaws (d g b : Nat) (x : BlockState) : (s.setBlock d g b x).netFlaws = s.netFlaws := rfl
@[simp] theorem State.setBlock_repairs (d g b : Nat) (x : BlockState) : (s.setBlock d g b x).repairs = s.repairs := rfl
@[simp] theorem State.setBlock_mem (d g b : Nat) (x : BlockState) : (s.setBlock d g b x).mem = s.mem := rfl
@[simp] theorem State.setBlock_freeCtr (d g b : Nat) (x : BlockState) : (s.setBlock d g b x).freeCtr = s.freeCtr := rfl
@[simp] theorem State.setBlock_answer (d g b : Nat) (x : BlockState) : (s.setBlock d g b x).answer = s.answer := rfl
@[simp] theorem State.setBlock_pending (d g b : Nat) (x : BlockState) : (s.setBlock d g b x).pending = s.pending := rfl

@[simp] theorem State.setDdr_regs (d k : Nat) (x : DdrState) : (s.setDdr d k x).regs = s.regs := rfl
@[simp] theorem State.setDdr_hid (d k : Nat) (x : DdrState) : (s.setDdr d k x).hid = s.hid := rfl
@[simp] theorem State.setDdr_units (d k : Nat) (x : DdrState) : (s.setDdr d k x).units = s.units := rfl
@[simp] theorem State.setDdr_cases (d k : Nat) (x : DdrState) : (s.setDdr d k x).cases = s.cases := rfl
@[simp] theorem State.setDdr_blocks (d k : Nat) (x : DdrState) : (s.setDdr d k x).blocks = s.blocks := rfl
@[simp] theorem State.setDdr_fab (d k : Nat) (x : DdrState) : (s.setDdr d k x).fab = s.fab := rfl
@[simp] theorem State.setDdr_scrubs (d k : Nat) (x : DdrState) : (s.setDdr d k x).scrubs = s.scrubs := rfl
@[simp] theorem State.setDdr_inits (d k : Nat) (x : DdrState) : (s.setDdr d k x).inits = s.inits := rfl
@[simp] theorem State.setDdr_links (d k : Nat) (x : DdrState) : (s.setDdr d k x).links = s.links := rfl
@[simp] theorem State.setDdr_lanes (d k : Nat) (x : DdrState) : (s.setDdr d k x).lanes = s.lanes := rfl
@[simp] theorem State.setDdr_eths (d k : Nat) (x : DdrState) : (s.setDdr d k x).eths = s.eths := rfl
@[simp] theorem State.setDdr_pcies (d k : Nat) (x : DdrState) : (s.setDdr d k x).pcies = s.pcies := rfl
@[simp] theorem State.setDdr_accepted (d k : Nat) (x : DdrState) : (s.setDdr d k x).accepted = s.accepted := rfl
@[simp] theorem State.setDdr_time (d k : Nat) (x : DdrState) : (s.setDdr d k x).time = s.time := rfl
@[simp] theorem State.setDdr_board (d k : Nat) (x : DdrState) : (s.setDdr d k x).board = s.board := rfl
@[simp] theorem State.setDdr_jobs (d k : Nat) (x : DdrState) : (s.setDdr d k x).jobs = s.jobs := rfl
@[simp] theorem State.setDdr_sel (d k : Nat) (x : DdrState) : (s.setDdr d k x).sel = s.sel := rfl
@[simp] theorem State.setDdr_load (d k : Nat) (x : DdrState) : (s.setDdr d k x).load = s.load := rfl
@[simp] theorem State.setDdr_comps (d k : Nat) (x : DdrState) : (s.setDdr d k x).comps = s.comps := rfl
@[simp] theorem State.setDdr_sec (d k : Nat) (x : DdrState) : (s.setDdr d k x).sec = s.sec := rfl
@[simp] theorem State.setDdr_tap (d k : Nat) (x : DdrState) : (s.setDdr d k x).tap = s.tap := rfl
@[simp] theorem State.setDdr_windows (d k : Nat) (x : DdrState) : (s.setDdr d k x).windows = s.windows := rfl
@[simp] theorem State.setDdr_flight (d k : Nat) (x : DdrState) : (s.setDdr d k x).flight = s.flight := rfl
@[simp] theorem State.setDdr_mesh (d k : Nat) (x : DdrState) : (s.setDdr d k x).mesh = s.mesh := rfl
@[simp] theorem State.setDdr_replies (d k : Nat) (x : DdrState) : (s.setDdr d k x).replies = s.replies := rfl
@[simp] theorem State.setDdr_sides (d k : Nat) (x : DdrState) : (s.setDdr d k x).sides = s.sides := rfl
@[simp] theorem State.setDdr_netFlaws (d k : Nat) (x : DdrState) : (s.setDdr d k x).netFlaws = s.netFlaws := rfl
@[simp] theorem State.setDdr_repairs (d k : Nat) (x : DdrState) : (s.setDdr d k x).repairs = s.repairs := rfl
@[simp] theorem State.setDdr_mem (d k : Nat) (x : DdrState) : (s.setDdr d k x).mem = s.mem := rfl
@[simp] theorem State.setDdr_freeCtr (d k : Nat) (x : DdrState) : (s.setDdr d k x).freeCtr = s.freeCtr := rfl
@[simp] theorem State.setDdr_answer (d k : Nat) (x : DdrState) : (s.setDdr d k x).answer = s.answer := rfl
@[simp] theorem State.setDdr_pending (d k : Nat) (x : DdrState) : (s.setDdr d k x).pending = s.pending := rfl

@[simp] theorem State.setLink_regs (d p : Nat) (x : LinkState) : (s.setLink d p x).regs = s.regs := rfl
@[simp] theorem State.setLink_hid (d p : Nat) (x : LinkState) : (s.setLink d p x).hid = s.hid := rfl
@[simp] theorem State.setLink_units (d p : Nat) (x : LinkState) : (s.setLink d p x).units = s.units := rfl
@[simp] theorem State.setLink_cases (d p : Nat) (x : LinkState) : (s.setLink d p x).cases = s.cases := rfl
@[simp] theorem State.setLink_blocks (d p : Nat) (x : LinkState) : (s.setLink d p x).blocks = s.blocks := rfl
@[simp] theorem State.setLink_fab (d p : Nat) (x : LinkState) : (s.setLink d p x).fab = s.fab := rfl
@[simp] theorem State.setLink_ddrs (d p : Nat) (x : LinkState) : (s.setLink d p x).ddrs = s.ddrs := rfl
@[simp] theorem State.setLink_scrubs (d p : Nat) (x : LinkState) : (s.setLink d p x).scrubs = s.scrubs := rfl
@[simp] theorem State.setLink_inits (d p : Nat) (x : LinkState) : (s.setLink d p x).inits = s.inits := rfl
@[simp] theorem State.setLink_lanes (d p : Nat) (x : LinkState) : (s.setLink d p x).lanes = s.lanes := rfl
@[simp] theorem State.setLink_eths (d p : Nat) (x : LinkState) : (s.setLink d p x).eths = s.eths := rfl
@[simp] theorem State.setLink_pcies (d p : Nat) (x : LinkState) : (s.setLink d p x).pcies = s.pcies := rfl
@[simp] theorem State.setLink_accepted (d p : Nat) (x : LinkState) : (s.setLink d p x).accepted = s.accepted := rfl
@[simp] theorem State.setLink_time (d p : Nat) (x : LinkState) : (s.setLink d p x).time = s.time := rfl
@[simp] theorem State.setLink_board (d p : Nat) (x : LinkState) : (s.setLink d p x).board = s.board := rfl
@[simp] theorem State.setLink_jobs (d p : Nat) (x : LinkState) : (s.setLink d p x).jobs = s.jobs := rfl
@[simp] theorem State.setLink_sel (d p : Nat) (x : LinkState) : (s.setLink d p x).sel = s.sel := rfl
@[simp] theorem State.setLink_load (d p : Nat) (x : LinkState) : (s.setLink d p x).load = s.load := rfl
@[simp] theorem State.setLink_comps (d p : Nat) (x : LinkState) : (s.setLink d p x).comps = s.comps := rfl
@[simp] theorem State.setLink_sec (d p : Nat) (x : LinkState) : (s.setLink d p x).sec = s.sec := rfl
@[simp] theorem State.setLink_tap (d p : Nat) (x : LinkState) : (s.setLink d p x).tap = s.tap := rfl
@[simp] theorem State.setLink_windows (d p : Nat) (x : LinkState) : (s.setLink d p x).windows = s.windows := rfl
@[simp] theorem State.setLink_flight (d p : Nat) (x : LinkState) : (s.setLink d p x).flight = s.flight := rfl
@[simp] theorem State.setLink_mesh (d p : Nat) (x : LinkState) : (s.setLink d p x).mesh = s.mesh := rfl
@[simp] theorem State.setLink_replies (d p : Nat) (x : LinkState) : (s.setLink d p x).replies = s.replies := rfl
@[simp] theorem State.setLink_sides (d p : Nat) (x : LinkState) : (s.setLink d p x).sides = s.sides := rfl
@[simp] theorem State.setLink_netFlaws (d p : Nat) (x : LinkState) : (s.setLink d p x).netFlaws = s.netFlaws := rfl
@[simp] theorem State.setLink_repairs (d p : Nat) (x : LinkState) : (s.setLink d p x).repairs = s.repairs := rfl
@[simp] theorem State.setLink_mem (d p : Nat) (x : LinkState) : (s.setLink d p x).mem = s.mem := rfl
@[simp] theorem State.setLink_freeCtr (d p : Nat) (x : LinkState) : (s.setLink d p x).freeCtr = s.freeCtr := rfl
@[simp] theorem State.setLink_answer (d p : Nat) (x : LinkState) : (s.setLink d p x).answer = s.answer := rfl
@[simp] theorem State.setLink_pending (d p : Nat) (x : LinkState) : (s.setLink d p x).pending = s.pending := rfl

@[simp] theorem State.setLane_regs (d j i : Nat) (x : LaneState) : (s.setLane d j i x).regs = s.regs := rfl
@[simp] theorem State.setLane_hid (d j i : Nat) (x : LaneState) : (s.setLane d j i x).hid = s.hid := rfl
@[simp] theorem State.setLane_units (d j i : Nat) (x : LaneState) : (s.setLane d j i x).units = s.units := rfl
@[simp] theorem State.setLane_cases (d j i : Nat) (x : LaneState) : (s.setLane d j i x).cases = s.cases := rfl
@[simp] theorem State.setLane_blocks (d j i : Nat) (x : LaneState) : (s.setLane d j i x).blocks = s.blocks := rfl
@[simp] theorem State.setLane_fab (d j i : Nat) (x : LaneState) : (s.setLane d j i x).fab = s.fab := rfl
@[simp] theorem State.setLane_ddrs (d j i : Nat) (x : LaneState) : (s.setLane d j i x).ddrs = s.ddrs := rfl
@[simp] theorem State.setLane_scrubs (d j i : Nat) (x : LaneState) : (s.setLane d j i x).scrubs = s.scrubs := rfl
@[simp] theorem State.setLane_inits (d j i : Nat) (x : LaneState) : (s.setLane d j i x).inits = s.inits := rfl
@[simp] theorem State.setLane_links (d j i : Nat) (x : LaneState) : (s.setLane d j i x).links = s.links := rfl
@[simp] theorem State.setLane_eths (d j i : Nat) (x : LaneState) : (s.setLane d j i x).eths = s.eths := rfl
@[simp] theorem State.setLane_pcies (d j i : Nat) (x : LaneState) : (s.setLane d j i x).pcies = s.pcies := rfl
@[simp] theorem State.setLane_accepted (d j i : Nat) (x : LaneState) : (s.setLane d j i x).accepted = s.accepted := rfl
@[simp] theorem State.setLane_time (d j i : Nat) (x : LaneState) : (s.setLane d j i x).time = s.time := rfl
@[simp] theorem State.setLane_board (d j i : Nat) (x : LaneState) : (s.setLane d j i x).board = s.board := rfl
@[simp] theorem State.setLane_jobs (d j i : Nat) (x : LaneState) : (s.setLane d j i x).jobs = s.jobs := rfl
@[simp] theorem State.setLane_sel (d j i : Nat) (x : LaneState) : (s.setLane d j i x).sel = s.sel := rfl
@[simp] theorem State.setLane_load (d j i : Nat) (x : LaneState) : (s.setLane d j i x).load = s.load := rfl
@[simp] theorem State.setLane_comps (d j i : Nat) (x : LaneState) : (s.setLane d j i x).comps = s.comps := rfl
@[simp] theorem State.setLane_sec (d j i : Nat) (x : LaneState) : (s.setLane d j i x).sec = s.sec := rfl
@[simp] theorem State.setLane_tap (d j i : Nat) (x : LaneState) : (s.setLane d j i x).tap = s.tap := rfl
@[simp] theorem State.setLane_windows (d j i : Nat) (x : LaneState) : (s.setLane d j i x).windows = s.windows := rfl
@[simp] theorem State.setLane_flight (d j i : Nat) (x : LaneState) : (s.setLane d j i x).flight = s.flight := rfl
@[simp] theorem State.setLane_mesh (d j i : Nat) (x : LaneState) : (s.setLane d j i x).mesh = s.mesh := rfl
@[simp] theorem State.setLane_replies (d j i : Nat) (x : LaneState) : (s.setLane d j i x).replies = s.replies := rfl
@[simp] theorem State.setLane_sides (d j i : Nat) (x : LaneState) : (s.setLane d j i x).sides = s.sides := rfl
@[simp] theorem State.setLane_netFlaws (d j i : Nat) (x : LaneState) : (s.setLane d j i x).netFlaws = s.netFlaws := rfl
@[simp] theorem State.setLane_repairs (d j i : Nat) (x : LaneState) : (s.setLane d j i x).repairs = s.repairs := rfl
@[simp] theorem State.setLane_mem (d j i : Nat) (x : LaneState) : (s.setLane d j i x).mem = s.mem := rfl
@[simp] theorem State.setLane_freeCtr (d j i : Nat) (x : LaneState) : (s.setLane d j i x).freeCtr = s.freeCtr := rfl
@[simp] theorem State.setLane_answer (d j i : Nat) (x : LaneState) : (s.setLane d j i x).answer = s.answer := rfl
@[simp] theorem State.setLane_pending (d j i : Nat) (x : LaneState) : (s.setLane d j i x).pending = s.pending := rfl

@[simp] theorem State.setEth_regs (d m : Nat) (x : EthState) : (s.setEth d m x).regs = s.regs := rfl
@[simp] theorem State.setEth_hid (d m : Nat) (x : EthState) : (s.setEth d m x).hid = s.hid := rfl
@[simp] theorem State.setEth_units (d m : Nat) (x : EthState) : (s.setEth d m x).units = s.units := rfl
@[simp] theorem State.setEth_cases (d m : Nat) (x : EthState) : (s.setEth d m x).cases = s.cases := rfl
@[simp] theorem State.setEth_blocks (d m : Nat) (x : EthState) : (s.setEth d m x).blocks = s.blocks := rfl
@[simp] theorem State.setEth_fab (d m : Nat) (x : EthState) : (s.setEth d m x).fab = s.fab := rfl
@[simp] theorem State.setEth_ddrs (d m : Nat) (x : EthState) : (s.setEth d m x).ddrs = s.ddrs := rfl
@[simp] theorem State.setEth_scrubs (d m : Nat) (x : EthState) : (s.setEth d m x).scrubs = s.scrubs := rfl
@[simp] theorem State.setEth_inits (d m : Nat) (x : EthState) : (s.setEth d m x).inits = s.inits := rfl
@[simp] theorem State.setEth_links (d m : Nat) (x : EthState) : (s.setEth d m x).links = s.links := rfl
@[simp] theorem State.setEth_lanes (d m : Nat) (x : EthState) : (s.setEth d m x).lanes = s.lanes := rfl
@[simp] theorem State.setEth_pcies (d m : Nat) (x : EthState) : (s.setEth d m x).pcies = s.pcies := rfl
@[simp] theorem State.setEth_accepted (d m : Nat) (x : EthState) : (s.setEth d m x).accepted = s.accepted := rfl
@[simp] theorem State.setEth_time (d m : Nat) (x : EthState) : (s.setEth d m x).time = s.time := rfl
@[simp] theorem State.setEth_board (d m : Nat) (x : EthState) : (s.setEth d m x).board = s.board := rfl
@[simp] theorem State.setEth_jobs (d m : Nat) (x : EthState) : (s.setEth d m x).jobs = s.jobs := rfl
@[simp] theorem State.setEth_sel (d m : Nat) (x : EthState) : (s.setEth d m x).sel = s.sel := rfl
@[simp] theorem State.setEth_load (d m : Nat) (x : EthState) : (s.setEth d m x).load = s.load := rfl
@[simp] theorem State.setEth_comps (d m : Nat) (x : EthState) : (s.setEth d m x).comps = s.comps := rfl
@[simp] theorem State.setEth_sec (d m : Nat) (x : EthState) : (s.setEth d m x).sec = s.sec := rfl
@[simp] theorem State.setEth_tap (d m : Nat) (x : EthState) : (s.setEth d m x).tap = s.tap := rfl
@[simp] theorem State.setEth_windows (d m : Nat) (x : EthState) : (s.setEth d m x).windows = s.windows := rfl
@[simp] theorem State.setEth_flight (d m : Nat) (x : EthState) : (s.setEth d m x).flight = s.flight := rfl
@[simp] theorem State.setEth_mesh (d m : Nat) (x : EthState) : (s.setEth d m x).mesh = s.mesh := rfl
@[simp] theorem State.setEth_replies (d m : Nat) (x : EthState) : (s.setEth d m x).replies = s.replies := rfl
@[simp] theorem State.setEth_sides (d m : Nat) (x : EthState) : (s.setEth d m x).sides = s.sides := rfl
@[simp] theorem State.setEth_netFlaws (d m : Nat) (x : EthState) : (s.setEth d m x).netFlaws = s.netFlaws := rfl
@[simp] theorem State.setEth_repairs (d m : Nat) (x : EthState) : (s.setEth d m x).repairs = s.repairs := rfl
@[simp] theorem State.setEth_mem (d m : Nat) (x : EthState) : (s.setEth d m x).mem = s.mem := rfl
@[simp] theorem State.setEth_freeCtr (d m : Nat) (x : EthState) : (s.setEth d m x).freeCtr = s.freeCtr := rfl
@[simp] theorem State.setEth_answer (d m : Nat) (x : EthState) : (s.setEth d m x).answer = s.answer := rfl
@[simp] theorem State.setEth_pending (d m : Nat) (x : EthState) : (s.setEth d m x).pending = s.pending := rfl

@[simp] theorem State.setScrub_regs (d : Nat) (x : ScrubState) : (s.setScrub d x).regs = s.regs := rfl
@[simp] theorem State.setScrub_hid (d : Nat) (x : ScrubState) : (s.setScrub d x).hid = s.hid := rfl
@[simp] theorem State.setScrub_units (d : Nat) (x : ScrubState) : (s.setScrub d x).units = s.units := rfl
@[simp] theorem State.setScrub_cases (d : Nat) (x : ScrubState) : (s.setScrub d x).cases = s.cases := rfl
@[simp] theorem State.setScrub_blocks (d : Nat) (x : ScrubState) : (s.setScrub d x).blocks = s.blocks := rfl
@[simp] theorem State.setScrub_fab (d : Nat) (x : ScrubState) : (s.setScrub d x).fab = s.fab := rfl
@[simp] theorem State.setScrub_ddrs (d : Nat) (x : ScrubState) : (s.setScrub d x).ddrs = s.ddrs := rfl
@[simp] theorem State.setScrub_inits (d : Nat) (x : ScrubState) : (s.setScrub d x).inits = s.inits := rfl
@[simp] theorem State.setScrub_links (d : Nat) (x : ScrubState) : (s.setScrub d x).links = s.links := rfl
@[simp] theorem State.setScrub_lanes (d : Nat) (x : ScrubState) : (s.setScrub d x).lanes = s.lanes := rfl
@[simp] theorem State.setScrub_eths (d : Nat) (x : ScrubState) : (s.setScrub d x).eths = s.eths := rfl
@[simp] theorem State.setScrub_pcies (d : Nat) (x : ScrubState) : (s.setScrub d x).pcies = s.pcies := rfl
@[simp] theorem State.setScrub_accepted (d : Nat) (x : ScrubState) : (s.setScrub d x).accepted = s.accepted := rfl
@[simp] theorem State.setScrub_time (d : Nat) (x : ScrubState) : (s.setScrub d x).time = s.time := rfl
@[simp] theorem State.setScrub_board (d : Nat) (x : ScrubState) : (s.setScrub d x).board = s.board := rfl
@[simp] theorem State.setScrub_jobs (d : Nat) (x : ScrubState) : (s.setScrub d x).jobs = s.jobs := rfl
@[simp] theorem State.setScrub_sel (d : Nat) (x : ScrubState) : (s.setScrub d x).sel = s.sel := rfl
@[simp] theorem State.setScrub_load (d : Nat) (x : ScrubState) : (s.setScrub d x).load = s.load := rfl
@[simp] theorem State.setScrub_comps (d : Nat) (x : ScrubState) : (s.setScrub d x).comps = s.comps := rfl
@[simp] theorem State.setScrub_sec (d : Nat) (x : ScrubState) : (s.setScrub d x).sec = s.sec := rfl
@[simp] theorem State.setScrub_tap (d : Nat) (x : ScrubState) : (s.setScrub d x).tap = s.tap := rfl
@[simp] theorem State.setScrub_windows (d : Nat) (x : ScrubState) : (s.setScrub d x).windows = s.windows := rfl
@[simp] theorem State.setScrub_flight (d : Nat) (x : ScrubState) : (s.setScrub d x).flight = s.flight := rfl
@[simp] theorem State.setScrub_mesh (d : Nat) (x : ScrubState) : (s.setScrub d x).mesh = s.mesh := rfl
@[simp] theorem State.setScrub_replies (d : Nat) (x : ScrubState) : (s.setScrub d x).replies = s.replies := rfl
@[simp] theorem State.setScrub_sides (d : Nat) (x : ScrubState) : (s.setScrub d x).sides = s.sides := rfl
@[simp] theorem State.setScrub_netFlaws (d : Nat) (x : ScrubState) : (s.setScrub d x).netFlaws = s.netFlaws := rfl
@[simp] theorem State.setScrub_repairs (d : Nat) (x : ScrubState) : (s.setScrub d x).repairs = s.repairs := rfl
@[simp] theorem State.setScrub_mem (d : Nat) (x : ScrubState) : (s.setScrub d x).mem = s.mem := rfl
@[simp] theorem State.setScrub_freeCtr (d : Nat) (x : ScrubState) : (s.setScrub d x).freeCtr = s.freeCtr := rfl
@[simp] theorem State.setScrub_answer (d : Nat) (x : ScrubState) : (s.setScrub d x).answer = s.answer := rfl
@[simp] theorem State.setScrub_pending (d : Nat) (x : ScrubState) : (s.setScrub d x).pending = s.pending := rfl

@[simp] theorem State.setTime_regs (x : TimeState) : (s.setTime x).regs = s.regs := rfl
@[simp] theorem State.setTime_hid (x : TimeState) : (s.setTime x).hid = s.hid := rfl
@[simp] theorem State.setTime_units (x : TimeState) : (s.setTime x).units = s.units := rfl
@[simp] theorem State.setTime_cases (x : TimeState) : (s.setTime x).cases = s.cases := rfl
@[simp] theorem State.setTime_blocks (x : TimeState) : (s.setTime x).blocks = s.blocks := rfl
@[simp] theorem State.setTime_fab (x : TimeState) : (s.setTime x).fab = s.fab := rfl
@[simp] theorem State.setTime_ddrs (x : TimeState) : (s.setTime x).ddrs = s.ddrs := rfl
@[simp] theorem State.setTime_scrubs (x : TimeState) : (s.setTime x).scrubs = s.scrubs := rfl
@[simp] theorem State.setTime_inits (x : TimeState) : (s.setTime x).inits = s.inits := rfl
@[simp] theorem State.setTime_links (x : TimeState) : (s.setTime x).links = s.links := rfl
@[simp] theorem State.setTime_lanes (x : TimeState) : (s.setTime x).lanes = s.lanes := rfl
@[simp] theorem State.setTime_eths (x : TimeState) : (s.setTime x).eths = s.eths := rfl
@[simp] theorem State.setTime_pcies (x : TimeState) : (s.setTime x).pcies = s.pcies := rfl
@[simp] theorem State.setTime_accepted (x : TimeState) : (s.setTime x).accepted = s.accepted := rfl
@[simp] theorem State.setTime_board (x : TimeState) : (s.setTime x).board = s.board := rfl
@[simp] theorem State.setTime_jobs (x : TimeState) : (s.setTime x).jobs = s.jobs := rfl
@[simp] theorem State.setTime_sel (x : TimeState) : (s.setTime x).sel = s.sel := rfl
@[simp] theorem State.setTime_load (x : TimeState) : (s.setTime x).load = s.load := rfl
@[simp] theorem State.setTime_comps (x : TimeState) : (s.setTime x).comps = s.comps := rfl
@[simp] theorem State.setTime_sec (x : TimeState) : (s.setTime x).sec = s.sec := rfl
@[simp] theorem State.setTime_tap (x : TimeState) : (s.setTime x).tap = s.tap := rfl
@[simp] theorem State.setTime_windows (x : TimeState) : (s.setTime x).windows = s.windows := rfl
@[simp] theorem State.setTime_flight (x : TimeState) : (s.setTime x).flight = s.flight := rfl
@[simp] theorem State.setTime_mesh (x : TimeState) : (s.setTime x).mesh = s.mesh := rfl
@[simp] theorem State.setTime_replies (x : TimeState) : (s.setTime x).replies = s.replies := rfl
@[simp] theorem State.setTime_sides (x : TimeState) : (s.setTime x).sides = s.sides := rfl
@[simp] theorem State.setTime_netFlaws (x : TimeState) : (s.setTime x).netFlaws = s.netFlaws := rfl
@[simp] theorem State.setTime_repairs (x : TimeState) : (s.setTime x).repairs = s.repairs := rfl
@[simp] theorem State.setTime_mem (x : TimeState) : (s.setTime x).mem = s.mem := rfl
@[simp] theorem State.setTime_freeCtr (x : TimeState) : (s.setTime x).freeCtr = s.freeCtr := rfl
@[simp] theorem State.setTime_answer (x : TimeState) : (s.setTime x).answer = s.answer := rfl
@[simp] theorem State.setTime_pending (x : TimeState) : (s.setTime x).pending = s.pending := rfl

@[simp] theorem setFab_regs (l : List (FabKey × Nat)) : (setFab l s).regs = s.regs := rfl
@[simp] theorem setFab_hid (l : List (FabKey × Nat)) : (setFab l s).hid = s.hid := rfl
@[simp] theorem setFab_units (l : List (FabKey × Nat)) : (setFab l s).units = s.units := rfl
@[simp] theorem setFab_cases (l : List (FabKey × Nat)) : (setFab l s).cases = s.cases := rfl
@[simp] theorem setFab_blocks (l : List (FabKey × Nat)) : (setFab l s).blocks = s.blocks := rfl
@[simp] theorem setFab_ddrs (l : List (FabKey × Nat)) : (setFab l s).ddrs = s.ddrs := rfl
@[simp] theorem setFab_scrubs (l : List (FabKey × Nat)) : (setFab l s).scrubs = s.scrubs := rfl
@[simp] theorem setFab_inits (l : List (FabKey × Nat)) : (setFab l s).inits = s.inits := rfl
@[simp] theorem setFab_links (l : List (FabKey × Nat)) : (setFab l s).links = s.links := rfl
@[simp] theorem setFab_lanes (l : List (FabKey × Nat)) : (setFab l s).lanes = s.lanes := rfl
@[simp] theorem setFab_eths (l : List (FabKey × Nat)) : (setFab l s).eths = s.eths := rfl
@[simp] theorem setFab_pcies (l : List (FabKey × Nat)) : (setFab l s).pcies = s.pcies := rfl
@[simp] theorem setFab_accepted (l : List (FabKey × Nat)) : (setFab l s).accepted = s.accepted := rfl
@[simp] theorem setFab_time (l : List (FabKey × Nat)) : (setFab l s).time = s.time := rfl
@[simp] theorem setFab_board (l : List (FabKey × Nat)) : (setFab l s).board = s.board := rfl
@[simp] theorem setFab_jobs (l : List (FabKey × Nat)) : (setFab l s).jobs = s.jobs := rfl
@[simp] theorem setFab_sel (l : List (FabKey × Nat)) : (setFab l s).sel = s.sel := rfl
@[simp] theorem setFab_load (l : List (FabKey × Nat)) : (setFab l s).load = s.load := rfl
@[simp] theorem setFab_comps (l : List (FabKey × Nat)) : (setFab l s).comps = s.comps := rfl
@[simp] theorem setFab_sec (l : List (FabKey × Nat)) : (setFab l s).sec = s.sec := rfl
@[simp] theorem setFab_tap (l : List (FabKey × Nat)) : (setFab l s).tap = s.tap := rfl
@[simp] theorem setFab_windows (l : List (FabKey × Nat)) : (setFab l s).windows = s.windows := rfl
@[simp] theorem setFab_flight (l : List (FabKey × Nat)) : (setFab l s).flight = s.flight := rfl
@[simp] theorem setFab_mesh (l : List (FabKey × Nat)) : (setFab l s).mesh = s.mesh := rfl
@[simp] theorem setFab_replies (l : List (FabKey × Nat)) : (setFab l s).replies = s.replies := rfl
@[simp] theorem setFab_sides (l : List (FabKey × Nat)) : (setFab l s).sides = s.sides := rfl
@[simp] theorem setFab_netFlaws (l : List (FabKey × Nat)) : (setFab l s).netFlaws = s.netFlaws := rfl
@[simp] theorem setFab_repairs (l : List (FabKey × Nat)) : (setFab l s).repairs = s.repairs := rfl
@[simp] theorem setFab_mem (l : List (FabKey × Nat)) : (setFab l s).mem = s.mem := rfl
@[simp] theorem setFab_freeCtr (l : List (FabKey × Nat)) : (setFab l s).freeCtr = s.freeCtr := rfl
@[simp] theorem setFab_answer (l : List (FabKey × Nat)) : (setFab l s).answer = s.answer := rfl
@[simp] theorem setFab_pending (l : List (FabKey × Nat)) : (setFab l s).pending = s.pending := rfl

/-! Each accessor after an update of its own part. -/

@[simp] theorem State.block_setBlock (d g b d' g' b' : Nat) (x : BlockState) :
    (s.setBlock d g b x).block d' g' b' = if d = d' ∧ g = g' ∧ b = b' then x else s.block d' g' b' := by
  simp [State.block, State.setBlock, Tbl.get_set]

@[simp] theorem State.ddr_setDdr (d k d' k' : Nat) (x : DdrState) :
    (s.setDdr d k x).ddr d' k' = if d = d' ∧ k = k' then x else s.ddr d' k' := by
  simp [State.ddr, State.setDdr, Tbl.get_set]

@[simp] theorem State.link_setLink (d p d' p' : Nat) (x : LinkState) :
    (s.setLink d p x).link d' p' = if d = d' ∧ p = p' then x else s.link d' p' := by
  simp [State.link, State.setLink, Tbl.get_set]

@[simp] theorem State.lane_setLane (d j i d' j' i' : Nat) (x : LaneState) :
    (s.setLane d j i x).lane d' j' i' = if d = d' ∧ j = j' ∧ i = i' then x else s.lane d' j' i' := by
  simp [State.lane, State.setLane, Tbl.get_set]

@[simp] theorem State.eth_setEth (d m d' m' : Nat) (x : EthState) :
    (s.setEth d m x).eth d' m' = if d = d' ∧ m = m' then x else s.eth d' m' := by
  simp [State.eth, State.setEth, Tbl.get_set]

@[simp] theorem State.scrub_setScrub (d d' : Nat) (x : ScrubState) :
    (s.setScrub d x).scrub d' = if d = d' then x else s.scrub d' := by
  simp [State.scrub, State.setScrub, Tbl.get_set]

@[simp] theorem State.setTime_time (x : TimeState) : (s.setTime x).time = x := rfl

end Sys2Proof.Machine
end

