-- ==== Sys2Proof/Laws/RegFile.lean ====
section
/-! SUPPORT. What a command that writes a register does before its own effect (R331, R614, R616), and the fields of the
word it writes. -/

namespace Sys2Proof.Machine
open Sys2Proof

theorem withBit_eq_put (f : Fld) (v : W64) (h1 : f.width = 1) : withBit f v = f.put v 1 := by
  apply BitVec.eq_of_getLsbD_eq
  intro i hi
  rw [Fld.getLsbD_put f v 1 i hi, withBit, BitVec.getLsbD_or, BitVec.getLsbD_ofNat, Nat.testBit_two_pow, h1]
  by_cases hf : f.lo = i
  · subst hf; simp [hi]
  · have : ¬ (f.lo ≤ i ∧ i < f.lo + 1) := by omega
    rw [if_neg this]
    simp [hf]

/-- The forced bit is 1. -/
theorem get_withBit (f : Fld) (v : W64) (h1 : f.width = 1) (h : f.lo < 64) : f.get (withBit f v) = 1 := by
  have h2 := Fld.get_put f v 1 (by omega)
  rw [h1] at h2
  rw [withBit_eq_put f v h1]
  exact h2

/-- A field that does not hold the forced bit is kept. -/
theorem get_withBit_other (f g : Fld) (v : W64) (h1 : f.width = 1) (hg : g.lo + g.width ≤ 64)
    (hd : f.lo + f.width ≤ g.lo ∨ g.lo + g.width ≤ f.lo) : g.get (withBit f v) = g.get v := by
  rw [withBit_eq_put f v h1, Fld.get_put_other f g v 1 hg hd]

/-- A write that nothing bars has the effect of its register and answers with the STATUS that the effect gives. -/
theorem regCommand_open (w : Who) (n : RegName) (ix : List Nat) (h : State → Nat × State) (s : State)
    (hg : writeGate w n ix s = none) : regCommand w n ix h s = (h s).2.answerWith (h s).1 0 0 := by
  simp [regCommand, hg]

/-- A write that is barred changes no register but the flag of R618 and its event, and answers the STATUS of the bar. -/
theorem regCommand_gated (w : Who) (n : RegName) (ix : List Nat) (h : State → Nat × State) (s : State) (st : Nat)
    (hg : writeGate w n ix s = some st) : regCommand w n ix h s = (noteRefused w n ix s).answerWith st 0 0 := by
  simp [regCommand, hg]

end Sys2Proof.Machine
end

