-- ==== Sys2Proof/Tests/Slice0.lean ====
section
/-! SUPPORT. Tests. For every statement with hypotheses a named witness that meets them (`witness_<Statement>`; where a
statement has rows, each entry of its witness makes the rows it lists apply), words and values of the spec's examples, and an
ill-formed command for each check of well-formedness. -/

open Sys2Proof Sys2Proof.Machine Sys2Proof.Claims
namespace Sys2Proof.Tests

set_option Elab.async false
set_option exponentiation.threshold 512

/-! The states below are few changes to a device that is up: every domain On, every die Released, the reference clock in
use, a forme loaded and debug unlocked. -/

/-- A register of the device that is up. -/
def upRegs : Tbl RKey W64 :=
  [(⟨.powerClkstat, []⟩, F.powerClkstat_REFSRC.put (F.powerClkstat_CKSTATE.put (F.powerClkstat_ROOTLOCK.put 0 15) 1) 1),
    (⟨.guardFsel, []⟩, F.guardFsel_GSTATE.put 0 5), (⟨.secSstat, []⟩, F.secSstat_UNLOCKED.put 0 1)] ++
  (List.range 4).map (fun d => (⟨.powerDie, [d]⟩, F.powerDie_DSTATE.put (F.powerDie_ON.put 0 1) 2)) ++
  (List.range 4).map (fun k => (⟨.powerPdom, [k]⟩, F.powerPdom_STATE.put (F.powerPdom_ON.put 0 1) 2)) ++
  (List.range 4).flatMap fun d => (List.range 39).map fun k =>
    (⟨.powerDom, [d, k]⟩, F.powerDom_STATE.put (F.powerDom_ON.put 0 1) 2)

/-- The device that is up. -/
def up : State :=
  { State.reset with
    regs := upRegs, hid := [(⟨.guardUp, []⟩, 1)], sec := { SecState.init with scope := 0xFF } }

/-- A change to a state. -/
abbrev Edit := State → State
def f (n : RegName) (ix : List Nat) (x : Fld) (v : Nat) : Edit := fun s => s.setFld n ix x v
def rg (n : RegName) (ix : List Nat) (v : W64) : Edit := fun s => s.setReg n ix v
def h (n : HidName) (ix : List Nat) (v : Nat) : Edit := fun s => s.setHv n ix v
def un (u : UnitId) (g : UnitState → UnitState) : Edit := fun s => s.setUnit u (g (s.unit u))
def ca (g : CaseState → CaseState) : Edit := fun s => s.setCase 0 0 (g (s.case 0 0))
def lk (d p : Nat) (g : LinkState → LinkState) : Edit := fun s => s.setLink d p (g (s.link d p))
def it (w : Who) (g : InitState → InitState) : Edit := fun s => s.setInit w (g (s.init w))
def dd (g : DdrState → DdrState) : Edit := fun s => s.setDdr 0 0 (g (s.ddr 0 0))
def co (d : Nat) (g : CompState → CompState) : Edit := fun s => s.setComp d (g (s.comp d))
def by_ (a n v : Nat) : Edit := fun s => { s with mem := s.mem.writeN a n v }

/-- Network n of galley g of die 0 runs, from a clock pin. -/
def netOn (g n : Nat) : List Edit :=
  [rg .galleyClk (liveIx [0, g]) (BitVec.ofNat 64 (2 ^ n)), f .galleyClksel [0, g, n] F.galleyClksel_CUR 32]

/-- A command, the changes that make a row of it apply, and the places of those rows in the list of its rows. -/
structure Wit where
  cmd : Instr
  rows : List Nat
  edits : List Edit := []

def Wit.state (w : Wit) : State := w.edits.foldl (fun s e => e s) up

def isOpen (s : State) (i : Instr) : Bool :=
  match registerRow i with
  | some (w, n, ix) => (writeGate w n ix s).isNone
  | none => true

/-- The rows that the entry names apply in its state: the hypotheses of `Does` hold together. -/
def Wit.meets (rows : State → Instr → List Row) (w : Wit) : Bool :=
  let s := w.state
  isOpen s w.cmd && w.rows.all fun k => match (rows s w.cmd)[k]? with
    | some r => r.pre
    | none => false

def c0 : Who := .core 0
def eng0 : UnitId := .eng 0 0 0

theorem witness_GalleyFeatures : List.all (
   [
    { cmd := .upllCfg c0 0 0 0 5, rows := [0] },
    { cmd := .upllCfg c0 0 0 0 2, rows := [1]
      edits := [f .galleyUpllCfg [0, 0, 0] F.galleyUpllCfg_ENABLE 1, f .galleyUpllCfg [0, 0, 0] F.galleyUpllCfg_MODE 2] },
    { cmd := .upllLock 0 0, rows := [0]
      edits := [f .galleyUpllCfg [0, 0, 0] F.galleyUpllCfg_ENABLE 1, f .galleyUpllCfg [0, 0, 0] F.galleyUpllCfg_MODE 2] },
    { cmd := .upllLossOfLock 0 0, rows := [0], edits := [f .galleyUpllStatus [0, 0, 0] F.galleyUpllStatus_LOCK 1] },
    { cmd := .clockSourceChange 0 0 0, rows := [0]
      edits := [f .galleyClksel [0, 0, 0] F.galleyClksel_SWITCHING 1, f .galleyClksel (liveIx [0, 0, 0]) F.galleyClksel_SRC 32,
        h .clkEdges [0, 0, 0] 6] },
    { cmd := .clockSourceChange 0 0 0, rows := [1]
      edits := [f .galleyClksel [0, 0, 0] F.galleyClksel_SWITCHING 1, f .galleyClksel (liveIx [0, 0, 0]) F.galleyClksel_SRC 32,
        h .clkEdges [0, 0, 0] 5] },
    { cmd := .forceClock c0 0 0 0 7, rows := [0], edits := [f .galleyClksel [0, 0, 0] F.galleyClksel_SWITCHING 1] },
    { cmd := .forceClock c0 0 0 0 7, rows := [1] },
    { cmd := .blockRamAccess 0 0 0 (some ⟨0, false, 0, 0⟩) none, rows := [2], edits := [rg .powerDom [0, 0] 0] },
    { cmd := .bankPgFall 0 0 1, rows := [0], edits := [f .ioBankStatus [0, 0] F.ioBankStatus_PG 1] },
    { cmd := .bankPgFall 0 0 1, rows := [1] },
    { cmd := .bankPgRise 0 0 1, rows := [0] },
    { cmd := .bankPgRise 0 0 1, rows := [1]
      edits := [by_ (frameBase 0 0 (liveOf up 0 0) + 0x7E00 * 256) 4 (F.ioPinCfg_STD.put 0 1).toNat] },
    { cmd := .qpinDly c0 0 0 5, rows := [0] },
    { cmd := .delayLineArrive 0 0, rows := [0], edits := [f .ioQpinDly [0, 0] F.ioQpinDly_BUSY 1] },
    { cmd := .delayLineArrive 0 0, rows := [1]
      edits := [f .ioQpinDly [0, 0] F.ioQpinDly_TX_TAP 9, f .ioQpinDly [0, 0] F.ioQpinDly_BUSY 1] }]) (Wit.meets (fun s i => clockRows s i ++ queueRows s i ++ ioRows s i)) = true := by
  decide +kernel

def reqTo (w : Who) (op : ReqOp) (a n : Nat) : Req :=
  { who := w, op := op, addr := a, len := n, data := 9, cmp := 0, afn := 0, lock := false, quiet := false, ord := false,
    pri := 0, pmask := 0, acc := 0, off := 0 }
def accOf (op : ReqOp) (a n : Nat) : Acc :=
  { id := 0, use := .outside, op := op, addr := a, len := n, left := 1, data := 0, bad := 0, fail := none }
def outOf (r : Req) : OutTag := { tag := 0, gen := 0, req := r, dst := 0, xport := 15, exp := 10, age := 2000, got := none }
def respOf (w : Who) (op : ReqOp) : Resp :=
  { who := w, op := op, tag := 0, gen := 0, status := OK, data := 3, len := 8, pmask := 0 }

/-- A packet lies whole at the router of its destination. -/
def atRest (hdr : Nat) (pl : Nat × Nat) : Edit := fun s =>
  s.setMeshQ [epDie (hdrDst hdr), epRouter (hdrDst hdr), 0, hdrQueue hdr] (meshFlits hdr (packetFlits hdr pl))
/-- A request in flight that lies at the router of dst, and a response that lies at the router of its initiator. -/
def reqThere (r : Req) (dst : Nat) : List Edit :=
  let hd := reqHeader r (epOf r.who) dst 0 0 15
  [fun s => { s with flight := [.req r 0 0 dst 15 hd] }, atRest hd (reqPayload r)]
def respThere (r : Resp) (src : Nat) : List Edit :=
  let hd := respHeader r src (epOf r.who) 0 15
  [fun s => { s with flight := [.resp r 15 hd] }, atRest hd (respPayload r)]

/-- Where requests to the SRAM of die 0 and to case memory go. -/
def sramEp : Nat := (dstOf up 0 0x9030000000 8).getD 0
def caseEp0 : Nat := (dstOf up 0 0x9010000000 8).getD 0

theorem witness_RegistersAndNetwork : List.all (
    let sr := reqTo c0 .rd 0x9030000040 8
    let sw := reqTo c0 .wr 0x9030000040 8
    let at0 := reqTo c0 .at_ 0x9010000040 8
    let answered (op : ReqOp) : List Edit :=
      respThere (respOf c0 op) sramEp ++ [it c0 fun i => { i with outs := [outOf (reqTo c0 op 0x9030000040 8)], accs := [accOf op 0x9030000040 8] }]
    let late (op : ReqOp) : List Edit := respThere (respOf c0 op) sramEp
    [{ cmd := .registerWrite c0 (addrOf .caseEngStartPc [0, 0, 0]) 4 77, rows := [0] },
     { cmd := .rcRead c0 (addrOf .nocEcount [0]) 8 false, rows := [0] },
     { cmd := .inject c0 none ⟨false, false, 0⟩, rows := [0], edits := [it c0 fun i => { i with queue := [sr] }] },
     { cmd := .inject c0 none ⟨false, false, 0⟩, rows := [0]
       edits := [it c0 fun i => { i with queue := [reqTo c0 .rd 0x9500000000 8], accs := [accOf .rd 0x9500000000 8] }] },
     { cmd := .rdReq c0 0 0 none, rows := [0], edits := reqThere sr sramEp },
     { cmd := .wrReq c0 0 0 none, rows := [0], edits := reqThere sw sramEp },
     { cmd := .atReq c0 0 0 none, rows := [0], edits := reqThere at0 caseEp0 },
     { cmd := .rdr c0 0 0, rows := [0], edits := answered .rd },
     { cmd := .wrr c0 0 0, rows := [0], edits := answered .wr },
     { cmd := .atr c0 0 0, rows := [1], edits := answered .at_ },
     { cmd := .rdr c0 0 0, rows := [0], edits := late .rd },
     { cmd := .wrr c0 0 0, rows := [0], edits := late .wr },
     { cmd := .atr c0 0 0, rows := [0], edits := late .at_ },
     { cmd := .inject c0 none ⟨false, false, 0⟩, rows := [0]
       edits := [it c0 fun i => { i with queue := [reqTo c0 .rd 0x9130000040 8], accs := [accOf .rd 0x9130000040 8] },
         rg .nocExit [0, epRouter (epOf c0)] (BitVec.allOnes 64)] },
     { cmd := .timeout c0 0, rows := [0]
       edits := [it c0 fun i => { i with outs := [outOf (reqTo c0 .rd 0x9030000040 8)], accs := [accOf .rd 0x9030000040 8] }] },
     { cmd := .timeout c0 0, rows := [1], edits := answered .rd }]) (Wit.meets (fun s i => registerRows s i ++ networkRows s i)) = true := by
  decide +kernel


def st5 (d p : Nat) : Edit := f .linkPortStatus [d, p] F.linkPortStatus_STATE 5
def stN (d p n : Nat) : Edit := f .linkPortStatus [d, p] F.linkPortStatus_STATE n
def msg (m e : Nat) : TrainMsg :=
  { mapX := m, mapY := m, epoch := e, nextSeq := 0, w := 0, capW := 0, floorW := 3, noState := false }
def allLanes : Nat := 2 ^ 70 - 1
/-- The port at the other end of port 0 of die 0. -/
def e0 : Nat := partnerOf 0 0
def sent (q flit : Nat) : SentFrame :=
  { seq := 0, q := q, crdQ := 15, crdN := 0, head := true, flit := flit, pid := 15, first := 0, last := 0 }
def mine (g : LinkState → LinkState) : Edit := lk 0 0 g
def theirs (g : LinkState → LinkState) : Edit := lk e0 0 g
/-- The `noc` cycle. -/
def at_ (n : Nat) : Edit := h .nocCycle [] n

theorem witness_LinkTraining : List.all (
    let proposes (m : TrainMsg) : List Edit :=
      [stN 0 0 2, stN e0 0 2, mine fun x => { x with propose := some (msg allLanes 4) }, theirs fun x => { x with propose := some m }]
    let confirms (m : TrainMsg) : List Edit :=
      [stN 0 0 3, stN e0 0 3, mine fun x => { x with confirm := some (msg 15 4) }, theirs fun x => { x with confirm := some m }]
    let commits (left noState : Bool) (k : Nat) : List Edit :=
      [stN 0 0 4, stN e0 0 4, mine fun x => { x with
          propose := some { msg 15 3 with noState := noState }, theirs := some (msg 15 3), confirm := some (msg 15 4),
          retry := [sent 0 1], left := left },
        theirs fun x => { x with commit := some (msg 15 k) }]
    [{ cmd := .probeWindowEnd 0 0 0xFFFF 0, rows := [0], edits := [stN 0 0 1, at_ (2 ^ 24)] },
     { cmd := .probeWindowEnd 0 8 0xFFFF 0, rows := [0], edits := [stN 0 8 1, at_ (2 ^ 24)] },
     { cmd := .probeWindowEnd 0 0 0xFFFF 0, rows := [1], edits := [stN 0 0 1] },
     { cmd := .propose 0 ⟨0, 0⟩, rows := [1], edits := proposes (msg allLanes 7) },
     { cmd := .propose 0 ⟨0, 0⟩, rows := [2], edits := proposes (msg 0 7) },
     { cmd := .propose 0 ⟨0, 0⟩, rows := [3], edits := proposes (msg allLanes 7) ++ [stN 0 0 3] },
     { cmd := .propose 0 ⟨0, 0⟩, rows := [4], edits := proposes (msg allLanes 7) ++ [st5 0 0] },
     { cmd := .propose 0 ⟨0, 1⟩, rows := [0], edits := proposes (msg allLanes 7) },
     { cmd := .confirm 0 ⟨0, 0⟩, rows := [1], edits := confirms (msg 15 4) },
     { cmd := .confirm 0 ⟨0, 0⟩, rows := [2], edits := confirms (msg 15 5) },
     { cmd := .confirm 0 ⟨0, 0⟩, rows := [3], edits := confirms (msg 15 4) ++ [st5 0 0] },
     { cmd := .confirm 0 ⟨0, 0⟩, rows := [1], edits := confirms (msg 15 4) ++ [st5 0 0, mine fun x => { x with confirm := none }] },
     { cmd := .confirm 0 ⟨0, 2⟩, rows := [0], edits := confirms (msg 15 4) },
     { cmd := .commit 0 ⟨0, 0⟩, rows := [1, 2], edits := commits false false 4 },
     { cmd := .commit 0 ⟨0, 0⟩, rows := [1], edits := commits true true 4 },
     { cmd := .commit 0 ⟨0, 0⟩, rows := [3], edits := commits false false 5 },
     { cmd := .commit 0 ⟨0, 0⟩, rows := [1]
       edits := commits false false 5 ++
         [st5 0 0, mine fun x => { x with propose := none, theirs := none, confirm := none }] },
     { cmd := .commit 0 ⟨0, 4⟩, rows := [0], edits := commits false false 4 },
     { cmd := .trainingTimeout 0 0, rows := [0], edits := [stN 0 0 2, at_ 80000] },
     { cmd := .trainingTimeout 0 0, rows := [0], edits := [stN 0 0 4, at_ 16000] },
     { cmd := .trainingTimeout 0 0, rows := [1], edits := [stN 0 0 3, at_ 16000, mine fun x => { x with fails := true }] },
     { cmd := .deadline 0 0, rows := [0], edits := [stN 0 0 2, mine fun x => { x with dead := 1 }, at_ 3200000] },
     { cmd := .deadline 0 0, rows := [1], edits := [stN 0 0 2, mine fun x => { x with dead := 1 }, at_ 3199999] },
     { cmd := .carrierSwitch 0 0, rows := [0], edits := [f .linkPortStatus [0, 0] F.linkPortStatus_CARRIER 1, at_ 80] },
     { cmd := .carrierSwitch 0 0, rows := [1]
       edits := [f .linkPortStatus [0, 0] F.linkPortStatus_CARRIER 1, st5 0 0, at_ 79] },
     { cmd := .holdExpiry 0 0, rows := [0], edits := [st5 0 0, f .linkPortCtl [0, 0] F.linkPortCtl_HOLD_EXP 1, at_ 3200] },
     { cmd := .holdExpiry 0 0, rows := [1], edits := [st5 0 0, f .linkPortCtl [0, 0] F.linkPortCtl_HOLD_EXP 0, at_ (2 ^ 42)] },
     { cmd := .lossOfSignal 0 0 3, rows := [0], edits := [st5 0 0, f .linkPortStatus [0, 0] F.linkPortStatus_GRP_RX 15,
         rg .linkPortRxmap [0, 0] (BitVec.allOnes 64)] },
     { cmd := .noGoodFrame 0 0, rows := [0], edits := [st5 0 0, at_ 1600] },
     { cmd := .prbs31Received 0 0, rows := [0], edits := [st5 0 0, stN e0 0 1] },
     { cmd := .prbs31Received 0 0, rows := [1], edits := [stN 0 0 2, stN e0 0 1, mine fun x => { x with hold := true }] },
     { cmd := .linkRetrain c0 0 0 0, rows := [0], edits := [st5 0 0] },
     { cmd := .disable c0 0 0 (F.linkPortCtl_DISABLE.put 0 1), rows := [0], edits := [st5 0 0] },
     { cmd := .disable c0 0 0 0, rows := [1], edits := [stN 0 0 6, f .linkPortCtl [0, 0] F.linkPortCtl_DISABLE 1] },
     { cmd := .disable c0 0 8 0, rows := [2]
       edits := [stN 0 8 6, f .linkPortCtl [0, 8] F.linkPortCtl_DISABLE 1, f .powerPdom [1] F.powerPdom_STATE 0] },
     { cmd := .carrierReturn c0 0 0 0, rows := [0]
       edits := [st5 0 0, f .linkPortStatus [0, 0] F.linkPortStatus_CARRIER 1] }]) (Wit.meets (trainingRows)) = true := by
  decide +kernel

/-- A request from die 1 to the SRAM of die 0, and its header. -/
def crossReq : Req := reqTo (.core (fin4 e0)) .rd 0x9030000040 8
def crossHdr : Nat := reqHeader crossReq (epOf (.core (fin4 e0))) sramEp 0 0 0

theorem witness_LinkFramesAndOptics_frames : List.all (
    let both : List Edit := [st5 0 0, st5 e0 0]
    let beat : Edit := mine fun x => { x with beat := true }
    let owed : Edit := theirs fun x => { x with nakDue := true }
    let flip (l : Nat) : LaneFlip := ⟨⟨l % 68, Nat.mod_lt _ (by decide)⟩, 3⟩
    let maps : List Edit := [f .linkPortStatus [0, 0] F.linkPortStatus_GRP_TX 15, f .linkPortStatus [0, 0] F.linkPortStatus_GRP_RX 15,
      f .linkPortStatus [e0, 0] F.linkPortStatus_GRP_TX 15, f .linkPortStatus [e0, 0] F.linkPortStatus_GRP_RX 15,
      rg .linkPortRxmap [0, 0] (BitVec.allOnes 64), rg .linkPortRxmap [e0, 0] (BitVec.allOnes 64)]
    [{ cmd := .sequencedFrame 0 0 .control 15 [], rows := [0, 2], edits := both ++ [beat] },
     { cmd := .sequencedFrame 0 0 .control 15 [], rows := [1], edits := both },
     { cmd := .sequencedFrame 0 0 .control 15 [flip 4], rows := [0, 3], edits := both ++ maps ++ [beat] },
     { cmd := .sequencedFrame 0 0 .control 15 [], rows := [0, 4], edits := both ++ [beat, theirs fun x => { x with rxSeq := 9 }] },
     { cmd := .sequencedFrame 0 0 .control 15 [flip 4], rows := [0, 5]
       edits := both ++ maps ++ [beat, theirs fun x => { x with badRun := 63 }] },
     { cmd := .sequencedFrame 0 0 (.slot none) 15 [], rows := [0, 1]
       edits := both ++ [mine fun x => { x with out := [{ q := 0, head := true, flit := 7, stamp := 0, at_ := 0 }] }] },
     { cmd := .sequencedFrame 0 0 .resend 15 [], rows := [0, 1]
       edits := both ++ [mine fun x => { x with retry := [sent 0 7], resend := 1, txSeq := 1 }] },
     { cmd := .sequencedFrame 0 0 .null 15 [], rows := [0, 5], edits := both },
     { cmd := .nak 0 0 [], rows := [0], edits := both ++ [owed] },
     { cmd := .nak 0 0 [flip 4], rows := [1], edits := both ++ maps ++ [owed] },
     { cmd := .retryTimeout 0 0, rows := [0], edits := both ++ [mine fun x => { x with retry := [sent 0 7] }, at_ 256] },
     { cmd := .retryTimeout 0 0, rows := [1], edits := both ++ [mine fun x => { x with retry := [sent 0 7] }, at_ 255] },
     { cmd := .heartbeatSend 0 0, rows := [0], edits := both ++ [at_ 1600] },
     { cmd := .heartbeatSend 0 0, rows := [1], edits := both ++ [at_ 1599] },
     { cmd := .heartbeat 0 0, rows := [0], edits := both ++ [mine fun x => { x with heard := some 0 }] },
     { cmd := .heartbeat 0 0, rows := [1], edits := both ++ [mine fun x => { x with heard := some 0 },
         f .linkPortStatus [0, 0] F.linkPortStatus_EPOCH 3] },
     { cmd := .heartbeat 0 0, rows := [2], edits := both ++ [mine fun x => { x with heard := some (2 ^ 16) }] },
     { cmd := .frameHandover 0 0 2 0, rows := [0], edits := both ++ [mine fun x => { x with rxq := [sent 8 7] }, at_ 79] },
     { cmd := .frameHandover 0 0 2 0, rows := [1], edits := both ++ [mine fun x => { x with rxq := [sent 8 7] }, at_ 80] },
     { cmd := .frameHandover 0 0 2 0, rows := [1], edits := both ++ [mine fun x => { x with rxq := [sent 8 7] }, at_ 81] },
     { cmd := .frameHandover 0 0 0 0, rows := [2], edits := both ++ [mine fun x => { x with rxq := [sent 0 crossHdr] },
         fun s => { s with flight := [.req crossReq 0 0 sramEp 15 crossHdr] }, at_ 81] }]) (Wit.meets (frameRows)) = true := by
  decide +kernel

theorem witness_LinkFramesAndOptics_optics : List.all (
    let lit : Edit := f .photonInpwr [0] F.photonInpwr_LINE_OK (2 ^ 18 - 1)
    let aOk : Edit := f .photonLaser [] F.photonLaser_A_OK 1
    let litB : Edit := f .photonInpwr [1] F.photonInpwr_LINE_OK (2 ^ 18 - 1)
    let bOk : Edit := f .photonLaser [] F.photonLaser_B_OK 1
    let rings : Edit := rg .linkPortRings [0, 8] (BitVec.allOnes 64)
    let auto : Edit := f .photonLaser [] F.photonLaser_AUTO 1
    let only0 (i : Nat) : Edit := f .photonInpwr [i] F.photonInpwr_LINE_OK 1
    [{ cmd := .ringLock 0 8 false 0, rows := [0], edits := [lit] },
     { cmd := .ringRetry 0 8 true 17 true, rows := [0], edits := [lit] },
     { cmd := .ringLossOfLock 0 8 true 0, rows := [0], edits := [rings] },
     { cmd := .ringLossOfLock 0 8 true 0, rows := [1], edits := [rings, st5 0 8, rg .linkPortRxmap [0, 8] 0x3FFFF] },
     { cmd := .lineLoss true 0, rows := [0], edits := [lit, aOk] },
     { cmd := .lineLoss true 0, rows := [1], edits := [lit, aOk, only0 1] },
     { cmd := .lineLoss false 0, rows := [2], edits := [only0 0] },
     { cmd := .lineLoss true 0, rows := [3], edits := [lit, aOk, litB, bOk] },
     { cmd := .lineLoss false 0, rows := [4], edits := [lit, aOk, f .photonLaser [] F.photonLaser_AUTO 0] },
     { cmd := .lineLoss false 17, rows := [5], edits := [lit, aOk, litB, bOk, auto] },
     { cmd := .inputOk true 9, rows := [0], edits := [lit, aOk] },
     { cmd := .inputOk true 9, rows := [1], edits := [f .photonLaser [] F.photonLaser_A_OK 0, auto] },
     { cmd := .laserSel c0 (F.photonLaser_SEL.put 0 1), rows := [0], edits := [litB, bOk] },
     { cmd := .laserSel c0 0, rows := [1], edits := [lit, aOk] }]) (Wit.meets (opticalRows)) = true := by
  decide +kernel


def slot6 : FillSlot := ⟨6, 5, 0⟩
def ready : Edit := f .ddrStatus [0, 0] F.ddrStatus_STATE 3
def cap1 : Edit := f .ddrStatus [0, 0] F.ddrStatus_CAPG 1
def lineEntry : DramEntry :=
  { id := 3, rid := 2, line := 5, lo := 0, len := 64, off := 0, op := .wr, data := 11, bad := 0, cls := 1, age := 0,
    panic := false }
def lineReq : DramReq :=
  { rid := 2, req := reqTo c0 .wr 320 64, tag := 0, gen := 0, left := 1, data := 0, bad := 0, status := OK }

theorem witness_MemoryControllersAndScrub_ddr : List.all (
   [
    { cmd := .cmapClear c0 0 0 (F.integCmapClr_COUNT.put 0 2), rows := [0], edits := [ready, cap1] },
    { cmd := .cmapClearDone 0 0, rows := [0], edits := [dd fun x => { x with clr := some (0, 0, 2) }] },
    { cmd := .cmapClearDone 0 0, rows := [1], edits := [dd fun x => { x with clr := some (4, 0, 2), queue := [lineEntry] }] },
    { cmd := .granuleFill 0 0 6, rows := [0], edits := [ready, cap1, dd fun x => { x with slots := [slot6] }] },
    { cmd := .granuleFill 0 0 6, rows := [1], edits := [ready, cap1, dd fun x => { x with slots := [slot6], queue := [lineEntry] }] },
    { cmd := .init c0 0 0 0 true, rows := [1] },
    { cmd := .init c0 0 0 0 false, rows := [2], edits := [f .ddrStatus [0, 0] F.ddrStatus_STATE 4] },
    { cmd := .ddrRetrain c0 0 0 0, rows := [0], edits := [ready] },
    { cmd := .init c0 0 0 0 true, rows := [0]
      edits := [f .ddrStatus [0, 0] F.ddrStatus_STATE 1, h .ddrCfg [0, 0] 0] },
    { cmd := .init c0 0 0 0 true, rows := [1]
      edits := [f .ddrStatus [0, 0] F.ddrStatus_STATE 2, h .ddrCfg [0, 0] 0] },
    { cmd := .centringPass 0 0 0, rows := [0], edits := [ready, h .centring [0, 0] 1, h .refNow [0, 0, 0] 1] },
    { cmd := .centringPass 0 0 0, rows := [3], edits := [ready, h .centring [0, 0] 1] },
    { cmd := .centringPass 0 0 0, rows := [1], edits := [f .ddrStatus [0, 0] F.ddrStatus_STATE 5, h .centring [0, 0] 1] },
    { cmd := .centringPass 0 0 0, rows := [2], edits := [ready, h .centring [0, 0] 3, h .refNow [0, 0, 0] 1] },
    { cmd := .zqCalibration 0 0 0, rows := [0] },
    { cmd := .dramCommand 0 0 [] [0], rows := [0], edits := [ready, f .ddrStatus [0, 0] F.ddrStatus_DEBT0 8] },
    { cmd := .dramCommand 0 0 [3] [], rows := [1], edits := [ready, cap1, dd fun x => { x with queue := [lineEntry], nextId := 9 }] },
    { cmd := .dramCommand 0 0 [3] [], rows := [2], edits := [ready, cap1, dd fun x => { x with
        queue := [lineEntry], nextId := 9, reqs := [lineReq], rows := [(lineBank false 5, lineRow false 5 + 1)] }] },
    { cmd := .refreshInterval 0 0 0, rows := [0], edits := [ready] },
    { cmd := .refreshInterval 0 0 0, rows := [1], edits := [ready, f .ddrStatus [0, 0] F.ddrStatus_DEBT0 7] },
    { cmd := .prechargePowerDown 0 0 0, rows := [0], edits := [ready, h .rankIdle [0, 0, 0] 256] },
    { cmd := .prechargePowerDown 0 0 0, rows := [1], edits := [ready, h .rankIdle [0, 0, 0] 255] },
    { cmd := .panic 0 0 0 true, rows := [0] }]) (Wit.meets (ddrRows)) = true := by
  decide +kernel

def busyScrub : Edit := f .integScrubStatus [0] F.integScrubStatus_BUSY 1
def pass (next last : Nat) : Edit := fun s => s.setScrub 0 { ScrubState.init with next := next, last := last }

theorem witness_MemoryControllersAndScrub_scrub : List.all (
   [
    { cmd := .scrubStart c0 0 0, rows := [0], edits := [f .integScrubEnd [0] F.integScrubEnd_END 4] },
    { cmd := .scrubStart c0 0 0, rows := [1], edits := [busyScrub] },
    { cmd := .scrubRead 0, rows := [0], edits := [busyScrub, pass 64 256] },
    { cmd := .scrubStop c0 0 0, rows := [0], edits := [busyScrub] },
    { cmd := .scrubPassEnd 0 9, rows := [0], edits := [busyScrub, pass 256 256] },
    { cmd := .patrolRead 0, rows := [0] },
    { cmd := .patrolRead 0, rows := [1], edits := [h .patrol [0] 8192, un (.core 0) fun x => { x with dlines := [(1, 7)] }] }]) (Wit.meets (scrubRows)) = true := by
  decide +kernel


def laneCfg (i x : Nat) (fl : Fld) : Edit := f .lgrpLaneCfg [0, 0, i] fl x
/-- PLL A of group 0 locked at N / REF with lane i owned, written, and its receiver and transmitter on. -/
def laneUp (i owner : Nat) : List Edit :=
  [f .lgrpPll [0, 0, 0] F.lgrpPll_ENABLE 1, f .lgrpPll [0, 0, 0] F.lgrpPll_N 200, f .lgrpPll [0, 0, 0] F.lgrpPll_LOCK 1,
    laneCfg i owner F.lgrpLaneCfg_OWNER, laneCfg i 1 F.lgrpLaneCfg_TXEN, laneCfg i 1 F.lgrpLaneCfg_RXEN,
    laneCfg i 0 F.lgrpLaneCfg_TXPLL, laneCfg i 2 F.lgrpLaneCfg_DIV,
    fun s => s.setLane 0 0 i { s.lane 0 0 i with written := true }]
def laneSt (x : Fld) : Edit := f .lgrpLaneStatus [0, 0, 0] x 1

theorem witness_SerialLanesAndProtocols_lanes : List.all (
   [
    { cmd := .lanePllLock 0 0 0, rows := [0], edits := [f .lgrpPll [0, 0, 0] F.lgrpPll_ENABLE 1, f .lgrpPll [0, 0, 0] F.lgrpPll_N 160] },
    { cmd := .lanePllLock 0 0 1, rows := [0], edits := [f .lgrpPll [0, 0, 1] F.lgrpPll_ENABLE 1, f .lgrpPll [0, 0, 1] F.lgrpPll_N 320] },
    { cmd := .lanePllLossOfLock 0 0 0, rows := [0], edits := [f .lgrpPll [0, 0, 0] F.lgrpPll_LOCK 1] },
    { cmd := .ownerChange c0 0 0 0 (F.lgrpLaneCfg_OWNER.put 0 1), rows := [0] },
    { cmd := .ownerSettle 0 0 0, rows := [0] },
    { cmd := .txeq c0 0 0 0 (F.lgrpLaneTxeq_MAIN.put 0 63), rows := [0] },
    { cmd := .txeq c0 0 0 0 (F.lgrpLaneTxeq_PRE1.put (F.lgrpLaneTxeq_MAIN.put 0 63) 1), rows := [1] },
    { cmd := .txeq c0 0 0 0 0, rows := [2], edits := [laneCfg 0 3 F.lgrpLaneCfg_OWNER, f .pcieCfg [0] F.pcieCfg_EN 1] },
    { cmd := .adapted 0 0 0 3 4 [5], rows := [0]
      edits := laneUp 0 1 ++ [laneSt F.lgrpLaneStatus_CDRLOCK, f .lgrpLaneRxeq [0, 0, 0] F.lgrpLaneRxeq_ADAPT 1] },
    { cmd := .adapted 0 0 0 3 4 [5], rows := [1] },
    { cmd := .cdrLossOfLock 0 0 0 true, rows := [0], edits := [laneSt F.lgrpLaneStatus_SIGDET, laneCfg 0 1 F.lgrpLaneCfg_RXEN] },
    { cmd := .cdrLossOfLock 0 0 0 false, rows := [1], edits := [laneSt F.lgrpLaneStatus_CDRLOCK] },
    { cmd := .histogramRun c0 0 0 0 0, rows := [0] },
    { cmd := .histogramDone 0 0 0 [(3, 65536)], rows := [0], edits := [f .lgrpLaneHist [0, 0, 0] F.lgrpLaneHist_RUN 1] },
    { cmd := .histogramDone 0 0 0 [(3, 9)], rows := [1], edits := [f .lgrpLaneHist [0, 0, 0] F.lgrpLaneHist_RUN 1] }]) (Wit.meets (laneRows)) = true := by
  decide +kernel

theorem witness_SerialLanesAndProtocols_words : List.all (
   [
    { cmd := .cdrLock 0 0 0, rows := [0], edits := laneUp 0 1 },
    { cmd := .checkerLock 0 0 0, rows := [0]
      edits := [laneSt F.lgrpLaneStatus_CDRLOCK, f .lgrpLanePat [0, 0, 0] F.lgrpLanePat_CHK 1] },
    { cmd := .checkerUnlock 0 0 0 100 16 2, rows := [0], edits := [f .lgrpLanePat [0, 0, 0] F.lgrpLanePat_CHKLOCK 1] },
    { cmd := .checkerUnlock 0 0 0 100 17 2, rows := [1], edits := [f .lgrpLanePat [0, 0, 0] F.lgrpLanePat_CHKLOCK 1] },
    { cmd := .rawTransmitWord 0 0 0 (some 5) false, rows := [0]
      edits := laneCfg 0 1 F.lgrpLaneCfg_OWNER :: netOn (laneGalley 0 0) 0 },
    { cmd := .rawTransmitWord 0 0 0 (some 5) false, rows := [1]
      edits := [laneCfg 0 1 F.lgrpLaneCfg_OWNER, fun s => s.setLane 0 0 0 { LaneState.init with tx := List.replicate 16 1 }] ++
        netOn (laneGalley 0 0) 0 },
    { cmd := .rawTransmitWord 0 0 0 (some 5) false, rows := [2], edits := [laneCfg 0 1 F.lgrpLaneCfg_OWNER] },
    { cmd := .rawTransmitWord 0 0 0 none true, rows := [0]
      edits := laneUp 0 1 ++ [fun s => s.setLane 0 0 0 { s.lane 0 0 0 with tx := [4] }] },
    { cmd := .rawTransmitWord 0 0 0 none true, rows := [1], edits := laneUp 0 1 },
    { cmd := .rawTransmitWord 0 0 0 none true, rows := [2], edits := [laneCfg 0 1 F.lgrpLaneCfg_OWNER] }]) (Wit.meets (laneRows)) = true := by
  decide +kernel

def jesdReg (x : Fld) (v : Nat) : Edit := f .lgrpJesdCfg [0, 0, 0] x v
def jesdSt (x : Fld) : Edit := f .lgrpJesdStatus [0, 0, 0] x 1

theorem witness_SerialLanesAndProtocols_jesd : List.all (
    let live : List Edit := [jesdReg F.lgrpJesdCfg_EN 1, jesdReg F.lgrpJesdCfg_SUBCLASS 1, jesdSt F.lgrpJesdStatus_SYNC]
    [{ cmd := .jesdLinkEnable c0 0 0 0 0 true, rows := [0], edits := laneUp 0 4 },
     { cmd := .jesdLinkEnable c0 0 0 0 0 true, rows := [1] },
     { cmd := .sysrefEdge 0 0 0 0 false, rows := [0], edits := live },
     { cmd := .sysrefEdge 0 0 0 0 false, rows := [1], edits := live ++ [f .lgrpJesdStatus [0, 0, 0] F.lgrpJesdStatus_SYNC 0] },
     { cmd := .sysrefEdge 0 0 0 0 true, rows := [2], edits := live ++ [h .jesdBound [0, 0, 0] 1] },
     { cmd := .sysrefEdge 0 0 0 0 false, rows := [3], edits := live ++ [h .jesdBound [0, 0, 0] 1] }]) (Wit.meets (jesdRows)) = true := by
  decide +kernel

theorem witness_SerialLanesAndProtocols_errors : List.all (
   [
    { cmd := .jesdSyncLoss 0 0 0, rows := [0], edits := [jesdSt F.lgrpJesdStatus_SYNC] },
    { cmd := .jesdCrcError 0 0 0, rows := [0], edits := [jesdReg F.lgrpJesdCfg_EN 1] }]) (Wit.meets (jesdRows)) = true := by
  decide +kernel

def portSt (x : Fld) : Edit := f .ethPortStatus [0, 0, 0] x 1
def rxFrame : FrameIn := { len := 64, data := 7, pcp := none, good := true, sec := none, ptp := none }
def ringOf (n : RegName) : Edit := rg n [0, 0, 0, 0] (F.ethPortRxq_TAIL.put (F.ethPortRxq_LOG2N.put 0 4) 2)
def authOn : Edit := f .ethPortTsadj [0, 0, 0] F.ethPortTsadj_AUTHEN 1

/-- A port of one lane at 1.25 GBd (R462). -/
def oneGig : W64 := F.ethPortCfg_MODE.put (F.ethPortCfg_RXBUF.put 0 8) 1

theorem witness_SerialLanesAndProtocols_eth : List.all (
   [
    { cmd := .ethPortEnable c0 0 0 0 oneGig, rows := [0], edits := laneUp 0 2 ++ [laneCfg 0 5 F.lgrpLaneCfg_DIV] },
    { cmd := .ethPortEnable c0 0 0 0 oneGig, rows := [1] },
    { cmd := .ethFrameReceive 0 0 0 { rxFrame with ccw := 3, ucw := 1 } 0, rows := [0]
      edits := [portSt F.ethPortStatus_LINK, f .ethPortCfg [0, 0, 0] F.ethPortCfg_FEC 1] },
    { cmd := .ethFrameReceive 0 0 0 rxFrame 0, rows := [1] },
    { cmd := .ethFrameReceive 0 0 0 { rxFrame with len := 9601 } 0, rows := [2], edits := [portSt F.ethPortStatus_LINK] },
    { cmd := .ethFrameReceive 0 0 0 { rxFrame with pause := some 5 } 0, rows := [3], edits := [portSt F.ethPortStatus_LINK] },
    { cmd := .ethFrameReceive 0 0 0 { rxFrame with quanta := [(2, 5)] } 0, rows := [3]
      edits := [portSt F.ethPortStatus_LINK, f .ethPortCfg [0, 0, 0] F.ethPortCfg_PFC 1] },
    { cmd := .ethFrameReceive 0 0 0 { rxFrame with ptp := some ⟨true, 5, 0⟩ } 0, rows := [4]
      edits := [portSt F.ethPortStatus_LINK, authOn] },
    { cmd := .ethFrameReceive 0 0 0 rxFrame 0, rows := [5], edits := [portSt F.ethPortStatus_LINK] },
    { cmd := .ethFrameReceive 0 0 0 rxFrame 0, rows := [6], edits := [portSt F.ethPortStatus_LINK, ringOf .ethPortRxq,
        f .ethPortCfg [0, 0, 0] F.ethPortCfg_RXBUF 12] },
    { cmd := .ethFrameTransmit 0 0 0 0 0, rows := [0], edits := [ringOf .ethPortTxq] },
    { cmd := .ethFrameTransmit 0 0 0 0 0, rows := [1], edits := [portSt F.ethPortStatus_LINK, ringOf .ethPortTxq] },
    { cmd := .linkChange 0 0 0 true true [], rows := [0]
      edits := laneUp 0 2 ++ [fun s => s.setEth 0 0 { EthState.init with up := [0] }] },
    { cmd := .linkChange 0 0 0 false true [], rows := [1], edits := [portSt F.ethPortStatus_LINK] },
    { cmd := .saload c0 0 0 0, rows := [0] },
    { cmd := .saload c0 0 0 0, rows := [1], edits := [f .ethSaload [0, 0] F.ethSaload_BUSY 1] }]) (Wit.meets (ethRows)) = true := by
  decide +kernel

def pcieUp : Edit := f .pcieStatus [0] F.pcieStatus_UP 1
theorem witness_SerialLanesAndProtocols_pcie : List.all (
   [
    { cmd := .pcieInboundTlp false .rd (some 0) 0 64 0 0 0 false 0, rows := [0]
      edits := [pcieUp, rg .pcieBar [0, 0] (F.pcieBar_LOG2SZ.put 0 20)] },
    { cmd := .pcieInboundTlp false .rd none 0 64 0 0 0 false 0, rows := [0] },
    { cmd := .pcieCompletion false 0 true false 77, rows := [0]
      edits := [fun s => { s with pcies := [(0, [(reqTo c0 .rd 0xC000000000 8, 0, 0, 0)])] }] },
    { cmd := .pcieCompletion false 0 true true 77, rows := [1]
      edits := [fun s => { s with pcies := [(0, [(reqTo c0 .rd 0xC000000000 8, 0, 0, 0)])] }] },
    { cmd := .pcieCompletion false 0 false false 77, rows := [2]
      edits := [fun s => { s with pcies := [(0, [(reqTo c0 .rd 0xC000000000 8, 0, 0, 0)])] }] },
    { cmd := .pcieLinkChange false true false 1 1 0 [], rows := [0]
      edits := [f .pcieCfg [0] F.pcieCfg_EN 1, f .lgrpLaneCfg [0, 0, 0] F.lgrpLaneCfg_OWNER 3] },
    { cmd := .pcieLinkChange false true false 1 2 0 [], rows := [1]
      edits := [f .pcieCfg [0] F.pcieCfg_EN 1, f .lgrpLaneCfg [0, 0, 0] F.lgrpLaneCfg_OWNER 3] },
    { cmd := .pcieLinkChange false false false 0 0 0 [], rows := [2], edits := [pcieUp] }]) (Wit.meets (pcieRows)) = true := by
  decide +kernel


def tm (g : TimeState → TimeState) : Edit := fun s => s.setTime (g s.time)
def tst (n : Nat) : Edit := f .timeStatus [] F.timeStatus_STATE n
/-- KIND of a source, written and taken by an evaluation (R495). -/
def kind (n k : Nat) : Edit := fun s =>
  let t := s.setFld .timeSrcCfg [n] F.timeSrcCfg_KIND k
  t.setTime { t.time with cfgs := t.time.cfgs.set n (t.reg .timeSrcCfg [n]) }
def good5 (n : Nat) : List Edit :=
  [kind n 2, f .timeSrcStat [n] F.timeSrcStat_SSTATE 2, tst 1, tm fun x => { x with good := 59, meas := [(n, 100)], due := true }]
def noFreqs : EvalIn := { freqs := [] }

theorem witness_TimingUnit : List.all (
   [
    { cmd := .evaluation noFreqs, rows := [0] },
    { cmd := .evaluation noFreqs, rows := [1], edits := [tst 2, tm fun x => { x with due := true }] },
    { cmd := .evaluation noFreqs, rows := [2], edits := good5 0 },
    { cmd := .evaluation noFreqs, rows := [3], edits := good5 1 },
    { cmd := .evaluation noFreqs, rows := [4], edits := good5 2 },
    { cmd := .evaluation noFreqs, rows := [5], edits := good5 3 },
    { cmd := .ppsIn 0, rows := [0], edits := [kind 1 1] },
    { cmd := .ppsIn 0, rows := [1], edits := [kind 1 1, f .timeTod [] F.timeTod_VALID 1, f .timeTod [] F.timeTod_TOD_SEC 99] },
    { cmd := .meas c0 2 50, rows := [0], edits := [kind 2 2] },
    { cmd := .step c0 0, rows := [0] },
    { cmd := .stepApply, rows := [0], edits := [f .timeStatus [] F.timeStatus_STEPPING 1, f .timeCtl [] F.timeCtl_STEP 1,
        tm fun x => { x with now := 500000000 * 2 ^ 48, halfDue := true }] },
    { cmd := .stepApply, rows := [1], edits := [f .timeStatus [] F.timeStatus_STEPPING 1] },
    { cmd := .hold c0 (F.timeCtl_EN.put (F.timeCtl_HOLD.put 0 1) 1), rows := [0], edits := [tst 2] },
    { cmd := .hold c0 (F.timeCtl_EN.put 0 1), rows := [1]
      edits := [tst 3, f .timeCtl [] F.timeCtl_HOLD 1, f .timeStatus [] F.timeStatus_SEL 0] },
    { cmd := .servoEn c0 0, rows := [0] },
    { cmd := .servoEn c0 (F.timeCtl_EN.put 0 1), rows := [1] },
    { cmd := .modelAlign, rows := [0], edits := [tm fun x => { x with alignSecs := 1024 }] },
    { cmd := .modelAlign, rows := [1], edits := [tm fun x => { x with alignSecs := 1023 }] },
    { cmd := .timeFrame 3, rows := [0] },
    { cmd := .timeFrame 3, rows := [1], edits := [f .powerPdom [0] F.powerPdom_STATE 0] },
    { cmd := .echoExchange 0 0 ⟨500, 100⟩, rows := [0], edits := [st5 0 0] },
    { cmd := .followerGap 2, rows := [0], edits := [f .timeStatus [] F.timeStatus_FALIGN 15] },
    { cmd := .sensorRead (some 9), rows := [0], edits := [f .timeTsense [] F.timeTsense_EN 1] },
    { cmd := .sensorRead none, rows := [0], edits := [f .timeTsense [] F.timeTsense_EN 1] },
    { cmd := .sensorRead none, rows := [1], edits := [f .timeTsense [] F.timeTsense_EN 1, tm fun x => { x with sensorFails := 9 }] },
    { cmd := .tuningFrame, rows := [0], edits := [f .timeCtl [] F.timeCtl_TUNE 1, f .timeDac [] F.timeDac_WLEN 32,
        f .timeDac [] F.timeDac_CODEBITS 24] },
    { cmd := .xoLoss, rows := [0], edits := [f .timeCtl [] F.timeCtl_XOFREQ 10] },
    { cmd := .ppsOut true, rows := [0], edits := [tm fun x => { x with ppsDue := true }] },
    { cmd := .ppsOut false, rows := [0], edits := [tm fun x => { x with now := 999999999 * 2 ^ 48 }] },
    { cmd := .ppsOut true, rows := [1] },
    { cmd := .sysrefOut false, rows := [0], edits := [f .timeOut [] F.timeOut_SYSPER 3, tm fun x => { x with sysDue := 1 }] },
    { cmd := .sysrefOut false, rows := [1], edits := [f .timeOut [] F.timeOut_SYSPER 3] },
    { cmd := .uartReceive 65, rows := [0] },
    { cmd := .uartReceive 65, rows := [1], edits := [tm fun x => { x with uart := List.replicate 256 1 }] },
    { cmd := .uartTransmit c0 66, rows := [0] },
    { cmd := .uartTransmit c0 66, rows := [1], edits := [f .timeUart [] F.timeUart_TXBUSY 1] },
    { cmd := .authload c0 (F.timeAuthload_ADDR.put 0 (0x9030000000 / 64)), rows := [0]
      edits := [by_ 0x9030000000 64 (2 ^ 256 * 3 + 5)] },
    { cmd := .authload c0 0, rows := [1], edits := [f .timeAuthload [] F.timeAuthload_BUSY 1] }]) (Wit.meets (fun s i => timeStateRows s i ++ timeBaseRows s i)) = true := by
  decide +kernel


def qs (data len : Nat) : QSeg := { seg := 0, plen := 65536, pos := 0, data := data, len := len }
def doing (w : Doing) (data len : Nat) : Edit := co 0 fun x => { x with q := [qs data len], doing := w }
/-- A full load is under way. -/
def loading : List Edit :=
  [f .guardFsel [] F.guardFsel_GSTATE 3, fun s => { s with load := { s.load with stage := .full } }]
/-- The core's register g10. -/
def g10 (st : RunState) (v : Nat) : Edit := un (.core 0) fun x => { (x.setG 10 (BitVec.ofNat 64 v)) with st := st }
def polling (asked : Bool) (got : Option W64) : List Edit :=
  loading ++ [co 0 fun x => { x with doing := .poll false 0x9030000000 0xFF 3 asked, got := got }]

theorem witness_Composing : List.all (
    let start (head rest len : Nat) : List Edit := loading ++ [doing .idle (head + 2 ^ 64 * rest) len]
    let ends (final : Nat) : Edit := co 0 fun x => { x with
      q := [{ seg := 0, plen := 64, pos := 56, data := 15 * 2 ^ 56 + final * 2 ^ 48 + 0x9030000000, len := 8 }] }
    let done (d : Nat) : Edit := co d fun x => { x with final := some 0 }
    let sync (m : Nat) : Nat := 8 * 2 ^ 56 + m * 2 ^ 52 + 5
    [{ cmd := .wreg 0, rows := [0], edits := loading ++ [doing (.wreg true 0x9030000000 1) 7 8] },
     { cmd := .wreg 0, rows := [0], edits := start (2 ^ 56 + 0x9030000000) 7 16 },
     { cmd := .wmem 0, rows := [0], edits := loading ++ [doing (.wmem 0x9030000000 5) 7 8] },
     { cmd := .rbc 0, rows := [0], edits := loading ++ [doing (.rbc 0 3 1 true false) 0 256] },
     { cmd := .rbc 0, rows := [1], edits := loading ++ [doing (.rbc 0 3 1 false false) 1 256] },
     { cmd := .frameInstr 0, rows := [0], edits := loading ++ [doing (.frame 0 0x6000 1) 0x55 256] },
     { cmd := .poll 0, rows := [0], edits := polling false none },
     { cmd := .poll 0, rows := [0], edits := polling true (some 0x103) },
     { cmd := .poll 0, rows := [1], edits := polling true (some 4) },
     { cmd := .pollLimit 0, rows := [0], edits := polling true (some 4) },
     { cmd := .callProg 0, rows := [0], edits := start (6 * 2 ^ 56 + 0x40) 9 24 },
     { cmd := .callProg 0, rows := [0], edits := loading ++ [co 0 fun x => { x with doing := .call }, g10 .stopped 0] },
     { cmd := .callProg 0, rows := [1], edits := loading ++ [co 0 fun x => { x with doing := .call }, g10 .stopped 1] },
     { cmd := .callProg 0, rows := [1], edits := loading ++ [co 0 fun x => { x with doing := .call }, g10 .faultStopped 0] },
     { cmd := .callLimit 0, rows := [0], edits := loading ++ [co 0 fun x => { x with doing := .call }, g10 .running 0] },
     { cmd := .sync 0, rows := [0], edits := start (sync 3) 0 8 },
     { cmd := .sync 0, rows := [1], edits := start (sync 3) 0 8 ++ [co 1 fun x => { x with doing := .sync 3 5, syncs := x.syncs ++ [(3, 5)] }] },
     { cmd := .sync 0, rows := [2], edits := start (sync 3) 0 8 ++ [co 1 fun x => { x with doing := .sync 3 6 }] },
     { cmd := .endSeg 0, rows := [0], edits := loading ++ [ends 0] },
     { cmd := .endSeg 0, rows := [0], edits := loading ++ [ends 1] },
     { cmd := .endSeg 0, rows := [1], edits := loading ++ [ends 1, done 1, done 2, done 3] }]) (Wit.meets (composeRows)) = true := by
  decide +kernel

/-- A board with one flash device of 1 MiB. -/
def oneFlash : Edit := fun s => { s with board := { s.board with flash := [2 ^ 20] } }
def job (j : GuardJob) : Edit := fun s => { s with jobs := [j] }
def fop (op faddr n buf ran : Nat) : List Edit :=
  [job .fop, h .fopArg [0] op, h .fopArg [1] faddr, h .fopArg [2] n, h .fopArg [3] buf, h .fopRan [] ran]
def ploadAt (st : LoadStage) : List Edit := [job .pload, fun s => { s with load := { s.load with stage := st } }]
def oneSeg : DirEntry := { code := true, die := 0, sramOff := 0, offset := 2 ^ 30, plen := 2 ^ 17, hash := 0, raw := 0 }

theorem witness_FormeLoading : List.all (
   [
    { cmd := .reselect c0 0, rows := [0], edits := [f .guardFsel [] F.guardFsel_GSTATE 6] },
    { cmd := .darkHoldRetry, rows := [0], edits := [f .guardFsel [] F.guardFsel_GSTATE 6, f .guardFsel [] F.guardFsel_POLICY 2] },
    { cmd := .chunkRelease, rows := [0], edits := [fun s => { s with
        load := { s.load with stage := .full, dir := [oneSeg], chunk := 1 }, sel := { s.sel with chosen := some 0 } }] },
    { cmd := .pload c0 5, rows := [0] },
    { cmd := .pload c0 5, rows := [1], edits := [f .guardPload [] F.guardPload_BUSY 1] },
    { cmd := .ploadEnd, rows := [0], edits := ploadAt .reject },
    { cmd := .ploadEnd, rows := [1], edits := ploadAt .failw },
    { cmd := .ploadEnd, rows := [2], edits := ploadAt .writing },
    { cmd := .fopRead false, rows := [0], edits := oneFlash :: fop 0 64 64 0x9030000000 0 },
    { cmd := .fopRead true, rows := [1], edits := oneFlash :: fop 0 64 64 0x9030000000 0 },
    { cmd := .fopProgram false, rows := [0], edits := oneFlash :: fop 1 64 64 0x9030000000 0 },
    { cmd := .fopErase false, rows := [0], edits := oneFlash :: fop 2 65536 65536 0 0 },
    { cmd := .fopDone, rows := [0], edits := fop 0 0 64 0 1 }]) (Wit.meets (loadRows)) = true := by
  decide +kernel


theorem witness_GalleyChanges : List.all (
    let pend : Edit := f .ctlXswap [0] F.ctlXswap_PENDING 1
    let shut : Edit := f .galleyQuoin [0, 3] F.galleyQuoin_CLOSED 1
    [{ cmd := .clone c0 0 0 0, rows := [0] },
     { cmd := .cloneDone 0 0, rows := [0] },
     { cmd := .quoinClose c0 0 0 0, rows := [0] },
     { cmd := .quoinOpen c0 0 0 0, rows := [2], edits := [f .galleyQuoin [0, 0] F.galleyQuoin_CLOSED 0] },
     { cmd := .quoinOpen c0 0 0 0, rows := [2], edits := [h .quoinOpening [0, 0] 1] },
     { cmd := .quoinOpen c0 0 0 0, rows := [3], edits := [f .bistLockout [0] F.bistLockout_GALLEY 1] },
     { cmd := .caseQuoinClose c0 0 0 0, rows := [0] },
     { cmd := .quiesce c0 0 0 5, rows := [0] },
     { cmd := .dexp 0 0, rows := [0], edits := [f .galleyDrain [0, 0] F.galleyDrain_QUIESCE 1,
         f .galleyDrain [0, 0] F.galleyDrain_LIMIT 4, it (.fport 0 0 0) fun i => { i with
           outs := [outOf (reqTo (.fport 0 0 0) .rd 0x9030000000 8)] }] },
     { cmd := .xswapGo c0 0 (F.ctlXswap_DMASK.put 0 3), rows := [0] },
     { cmd := .xswapTrigger 0 1, rows := [0], edits := [h .xswapSent [0, 1] 1, st5 0 0] },
     { cmd := .xswapTrigger 0 1, rows := [1], edits := [h .xswapSent [0, 1] 65536, st5 0 0, f .ctlXswap [1] F.ctlXswap_PENDING 1] },
     { cmd := .xswapTrigger 0 1, rows := [2], edits := [h .xswapSent [0, 1] 1] },
     { cmd := .xswapCheck 0, rows := [0], edits := [pend, shut, f .ctlXswap [0] F.ctlXswap_GMASK 8] },
     { cmd := .xswapCheck 0, rows := [1], edits := [pend, f .galleySwap [0, 3] F.galleySwap_CLONING 1,
         f .ctlXswap [0] F.ctlXswap_GMASK 8] }]) (Wit.meets (galleyRows)) = true := by
  decide +kernel

/-- The mailbox holds a record with this CMD and nothing else. -/
def cmdOnly (code : Nat) : List Edit :=
  [job .fuse, h .reqAddr [0] mboxBase, rg .secMbox [0] (BitVec.ofNat 64 (code * 2 ^ 32))]

theorem witness_FusesAndUnlock : List.all (
   [
    { cmd := .addkey [], rows := [3], edits := cmdOnly 1 }, { cmd := .revoke [], rows := [3], edits := cmdOnly 2 },
    { cmd := .floorCmd [], rows := [3], edits := cmdOnly 3 }, { cmd := .sfloor [], rows := [3], edits := cmdOnly 4 },
    { cmd := .setfk [], rows := [3], edits := cmdOnly 5 }, { cmd := .policyCmd [], rows := [3], edits := cmdOnly 6 },
    { cmd := .encreq [], rows := [3], edits := cmdOnly 7 }, { cmd := .debugBurn [], rows := [3], edits := cmdOnly 8 },
    { cmd := .revoke [], rows := [0], edits := [job .fuse, h .reqAddr [0] 0x9500000000] },
    { cmd := .attest, rows := [0], edits := [job .attest, h .identity [] 1, h .reqAddr [1] mboxBase] },
    { cmd := .attest, rows := [1], edits := [job .attest, h .identity [] 1, h .reqAddr [1] 0x9030000000] },
    { cmd := .attest, rows := [2], edits := [job .attest, h .reqAddr [1] mboxBase] },
    { cmd := .unlockAttempt 1, rows := [0], edits := [job .unlock, f .secSstat [] F.secSstat_WAIT 2] },
    { cmd := .unlockAttempt 2, rows := [2], edits := [job .unlock, f .secSstat [] F.secSstat_WAIT 2] },
    { cmd := .dlock c0 0, rows := [0] },
    { cmd := .dlock c0 0, rows := [1], edits := [f .secSstat [] F.secSstat_UNLOCKED 0] },
    { cmd := .unlockExpiry, rows := [0], edits := [fun s => { s with sec := { s.sec with duration := 9 } }] }]) (Wit.meets (fun s i => fuseRows s i ++ unlockRows s i)) = true := by
  decide +kernel

def stopped (k : Nat) : List Edit := [f .powerDom [0, k] F.powerDom_ON 0, f .powerDom [0, k] F.powerDom_STATE 3]
def dieN (k : Nat) : DomSel := .die 0 (Fin.ofNat 39 k)
def onNow (k : Nat) : List Edit := [f .powerDom [0, k] F.powerDom_ON 1, f .powerDom [0, k] F.powerDom_STATE 1]
/-- The write that leaves ON set and asks for a reset. -/
def askReset : W64 := F.powerDom_ON.put 0 1

theorem witness_PowerDomains : List.all (
   [
    { cmd := .domainOff .guard (dieN 3) 0, rows := [0], edits := [f .galleyQuoin [0, 3] F.galleyQuoin_CLOSED 1] },
    { cmd := .domainOff .guard (dieN 20) 0, rows := [1] },
    { cmd := .domainOff .guard (dieN 3) 0, rows := [2], edits := onNow 3 },
    { cmd := .domainOn .guard (dieN 3) 0, rows := [0], edits := [f .powerDom [0, 3] F.powerDom_STATE 0] },
    { cmd := .domainOn .guard (.pkg 0) 0, rows := [0], edits := [f .powerPdom [0] F.powerDom_STATE 0] },
    { cmd := .switchOpen (dieN 3), rows := [0], edits := stopped 3 },
    { cmd := .domainPowered (dieN 3), rows := [0], edits := onNow 3 },
    { cmd := .domainReset .guard (dieN 35) askReset, rows := [0] },
    { cmd := .domainReset .guard (.pkg 0) askReset, rows := [0] },
    { cmd := .dieOff .guard 1 0, rows := [0] },
    { cmd := .dieOn .guard 1 0, rows := [0], edits := [f .powerDie [1] F.powerDie_ON 0] },
    { cmd := .dieReset .guard 1 0, rows := [0] },
    { cmd := .supfail 1, rows := [0] }]) (Wit.meets (powerRows)) = true := by
  decide +kernel

def ck (n : Nat) : Edit := f .powerClkstat [] F.powerClkstat_CKSTATE n
def wins (l : List Nat) : Edit := fun s => { s with windows := l }

theorem witness_ReferenceClock : List.all (
   [
    { cmd := .provingWindow 8192, rows := [0] },
    { cmd := .provingWindow 8192, rows := [1], edits := [ck 3, wins [8192, 8192, 8192]] },
    { cmd := .provingWindow 7945, rows := [2] },
    { cmd := .provingWindow 8439, rows := [2] },
    { cmd := .handOver, rows := [0], edits := [ck 0, h .proven [] 1] },
    { cmd := .referenceNotProven, rows := [0], edits := [ck 0] },
    { cmd := .sourceFailure none, rows := [0] },
    { cmd := .sourceFailure (some 2), rows := [0], edits := [ck 4] },
    { cmd := .rootRelockTry 1 true, rows := [0], edits := [ck 3, h .proven [] 1] },
    { cmd := .rootRelockTry 1 false, rows := [1] },
    { cmd := .sourceReturn, rows := [0], edits := [ck 3, h .proven [] 1, h .clkWait [] 1] },
    { cmd := .sourceReturn, rows := [0], edits := [ck 3, h .proven [] 1, h .clkWait [] 1, h .ckPort [0, 0] 1,
        f .linkPortStatus [0, 0] F.linkPortStatus_STATE 5, f .ddrStatus [0, 0] F.ddrStatus_STATE 5] },
    { cmd := .waitLimit, rows := [0], edits := [ck 3, f .powerClkctl [] F.powerClkctl_WAITLIM 1] }]) (Wit.meets (clockSourceRows)) = true := by
  decide +kernel

def plainBoard : Board := { fbsel := 0, flash := [], hk33 := true, strap := 0x80000001 }
theorem witness_ResetsAndSensors : List.all (
   [
    { cmd := .powerOnReset, rows := [0] },
    { cmd := .pornRise plainBoard true, rows := [0], edits := [h .guardUp [] 0] },
    { cmd := .guardReset true, rows := [0] },
    { cmd := .debugReset, rows := [0] },
    { cmd := .temperatureRead 0 0x7FF, rows := [0], edits := [f .powerTemp [0] F.powerTemp_TLIM 100] },
    { cmd := .temperatureRead 0 0, rows := [1], edits := [f .powerTemp [0] F.powerTemp_TLIM 100] }]) (Wit.meets (resetRows)) = true := by
  decide +kernel

theorem witness_ResetsAndSensors_rails : List.all (
   [
    { cmd := .railWindowChange 2 true, rows := [0] }, { cmd := .railWindowChange 9 false, rows := [0] },
    { cmd := .railWindowChange 6 false, rows := [1] }, { cmd := .railWindowChange 6 false, rows := [2], edits := [ck 0] },
    { cmd := .railWindowChange 10 false, rows := [3], edits := laneUp 0 1 },
    { cmd := .railWindowChange 17 false, rows := [3] },
    { cmd := .railWindowChange 26 true, rows := [4] }, { cmd := .railWindowChange 5 false, rows := [4] }]) (Wit.meets (resetRows)) = true := by
  decide +kernel


def bist (x : Fld) (v : Nat) : Edit := f .bistStatus [0] x v
def goTest : W64 := F.bistCtl_LOGIC.put 0 1
def memTest (run repair : Nat) : List Edit :=
  [bist F.bistStatus_STATE 2, h .bistKind [0] 2, h .bistRun [0] run, h .bistParts [0] (4 * repair)]
/-- A bit of a memory array of the unit under test. -/
def badBit : Nat × Nat × Fin 13 := (18688, 64, 1)

theorem witness_SelfTests : List.all (
   [
    { cmd := .galleyTest c0 0 goTest, rows := [0]
      edits := [f .galleyQuoin [0, 0] F.galleyQuoin_CLOSE 1, f .galleyQuoin [0, 0] F.galleyQuoin_CLOSED 1] },
    { cmd := .galleyTest c0 0 goTest, rows := [1], edits := [bist F.bistStatus_STATE 1] },
    { cmd := .positionTest c0 0 (F.bistCtl_POS.put goTest 8), rows := [0], edits := [f .caseSpareStatus [0, 0] F.caseSpareStatus_USTATE 1] },
    { cmd := .positionTest c0 0 goTest, rows := [1], edits := [bist F.bistStatus_STATE 1] },
    { cmd := .caseTest c0 0 goTest, rows := [0]
      edits := [f .caseQuoin [0, 0] F.caseQuoin_CLOSE 1, f .caseQuoin [0, 0] F.caseQuoin_CLOSED 1] },
    { cmd := .caseTest c0 0 goTest, rows := [1] },
    { cmd := .testStop c0 0 0, rows := [0], edits := [bist F.bistStatus_STATE 1] },
    { cmd := .testStop c0 0 0, rows := [0], edits := [bist F.bistStatus_STATE 2] },
    { cmd := .memorySelfTestDone 0 [], rows := [0], edits := memTest 0 0 },
    { cmd := .memorySelfTestDone 0 [badBit], rows := [1], edits := memTest 0 0 },
    { cmd := .memorySelfTestDone 0 [], rows := [2], edits := memTest 1 0 },
    { cmd := .memorySelfTestDone 0 [badBit], rows := [3], edits := memTest 0 1 },
    { cmd := .finishingDone 0, rows := [0]
      edits := [bist F.bistStatus_STATE 3, h .bistKind [0] 1, h .bistPos [0] 8, h .bistParts [0] 16] },
    { cmd := .finishingDone 0, rows := [1], edits := [bist F.bistStatus_STATE 3] },
    { cmd := .finishingDone 0, rows := [1], edits := [bist F.bistStatus_STATE 3, h .bistKind [0] 1, h .bistPos [0] 8] }]) (Wit.meets (bistRows)) = true := by
  decide +kernel

/-- The debug domain is off; debug is locked. -/
def dark : Edit := f .powerPdom [3] F.powerPdom_STATE 0
def locked : Edit := f .secSstat [] F.secSstat_UNLOCKED 0
def scopeOf (n : Nat) : Edit := fun s => { s with sec := { s.sec with scope := n } }
def scans (c : Instr) : List Wit :=
  [{ cmd := c, rows := [0], edits := (List.range 4).map fun d => f .powerDie [d] F.powerDie_DSTATE 1 },
   { cmd := c, rows := [1], edits := [locked, scopeOf 0] }, { cmd := c, rows := [2], edits := [dark] }]
/-- The window of the debug port at PCI Express is exposed. -/
def window : List Edit :=
  [f .pcieStatus [0] F.pcieStatus_UP 1, f .pcieDbgwin [0] F.pcieDbgwin_EN 1, f .pcieBar [0, 2] F.pcieBar_LOG2SZ 22]
def port (n : RegName) : Nat := addrOf n [] % 0x100000
def blkOf (n : RegName) : Nat := ([0, 1, 2, 3].find? fun b => portBase (fin4 b) / 0x100000 == addrOf n [] / 0x100000).getD 0

theorem witness_DebugPortAndHalt_port : List.all (
    let dr (n : RegName) (w64 wr : Bool) : Instr :=
      .dreg (fin4 (blkOf n)) (BitVec.ofNat 20 (port n)) w64 wr 5
    let win (n : RegName) (w64 wr : Bool) : Instr :=
      .debugWindow false (BitVec.ofNat 22 (blkOf n * 0x100000 + port n)) w64 wr 5
    [{ cmd := .idcode, rows := [0] }, { cmd := .idcode, rows := [1], edits := [dark] }, { cmd := .bypass, rows := [0] },
     { cmd := dr .debugData true false, rows := [0] },
     { cmd := dr .debugData true false, rows := [1], edits := [locked, scopeOf 0] },
     { cmd := dr .debugData true true, rows := [2] },
     { cmd := dr .debugData true true, rows := [3], edits := [locked, scopeOf 0] },
     { cmd := win .debugData true false, rows := [0], edits := window },
     { cmd := win .debugData true true, rows := [1], edits := window },
     { cmd := win .debugData true true, rows := [2], edits := window ++ [locked, scopeOf 0] },
     { cmd := .debugAccess (F.debugAcc_ADDR.put (F.debugAcc_SIZE.put 0 3) 0x9030000000), rows := [0] },
     { cmd := .debugAccess (F.debugAcc_ADDR.put (F.debugAcc_SIZE.put 0 3) 0x9030000001), rows := [1] },
     { cmd := .debugAccess 0, rows := [2], edits := [locked] }] ++
    scans (.samplePreload 1 2) ++ scans (.extest 1 2) ++ scans (.extestPulse 1 2) ++ scans (.extestTrain 1 2) ++
    scans .clamp ++ scans .highz) (Wit.meets (portRows)) = true := by
  decide +kernel

/-- The halt controller names engine 0 of case 0 of die 0, or the core of die 0. -/
def nameEng : W64 := F.debugHreq_KIND.put 0 0
def nameCore : W64 := F.debugHreq_KIND.put 0 1
def state (u : UnitId) (st : RunState) : Edit := un u fun x => { x with st := st, back := .running }

theorem witness_DebugPortAndHalt_halt : List.all (
   [
    { cmd := .debugHalt nameEng, rows := [0], edits := [state eng0 .running] },
    { cmd := .debugHalt nameEng, rows := [1], edits := [state eng0 .migrating] },
    { cmd := .debugHalt nameEng, rows := [2], edits := [state eng0 .armed] },
    { cmd := .debugHalt nameCore, rows := [0], edits := [state (.core 0) .running] },
    { cmd := .debugHalt nameEng, rows := [3], edits := [locked, scopeOf 0] },
    { cmd := .debugResume nameEng, rows := [0], edits := [state eng0 .halted] },
    { cmd := .debugResume nameEng, rows := [1], edits := [state eng0 .halted, h .haltSlot [0, 0, 0] 5] },
    { cmd := .debugResume nameEng, rows := [2], edits := [state eng0 .running] },
    { cmd := .debugStep nameEng, rows := [0], edits := [state eng0 .halted] },
    { cmd := .watchdogExpiry eng0, rows := [0]
      edits := [state eng0 .running, f .caseEngWdog [0, 0, 0] F.caseEngWdog_PERIOD 1] },
    { cmd := .watchdogExpiry (.core 0), rows := [0]
      edits := [state (.core 0) .running, f .ctlWdog [0] F.caseEngWdog_PERIOD 1] }]) (Wit.meets (haltRows)) = true := by
  decide +kernel

/-- Event 300 of die 0 is pending and routed to the core of die 0, which runs. -/
def routed : List Edit :=
  [f .eventPend [0, 9] ⟨12, 1⟩ 1, f .eventRoute [0, 300] F.eventRoute_KIND 1, f .eventRoute [0, 300] F.eventRoute_EN 1, state (.core 0) .running]

theorem witness_EventRouter : List.all (
   [
    { cmd := .raiseEvent c0 0 (F.eventRaise_NUM.put 0 256), rows := [0] },
    { cmd := .raiseEvent c0 0 (F.eventRaise_NUM.put 0 447), rows := [0] },
    { cmd := .raiseEvent c0 0 (F.eventRaise_NUM.put 0 255), rows := [1] },
    { cmd := .raiseEvent c0 0 (F.eventRaise_NUM.put 0 448), rows := [1] },
    { cmd := .pendClear c0 0 9 0x1000, rows := [0] },
    { cmd := .fabricEvent 0 0 0, rows := [0], edits := [f .galleyQuoin [0, 0] F.galleyQuoin_CLOSED 0, h .eventOwed [0, 0, 0] 1] },
    { cmd := .fabricEvent 0 0 0, rows := [1], edits := [f .galleyQuoin [0, 0] F.galleyQuoin_CLOSED 0] },
    { cmd := .fabricEvent 0 0 0, rows := [1], edits := [f .galleyQuoin [0, 0] F.galleyQuoin_CLOSED 1] },
    { cmd := .eventDelivery 0 300, rows := [0], edits := routed },
    { cmd := .eventDelivery 0 300, rows := [1], edits := routed ++ [f .eventRoute [0, 300] F.eventRoute_EN 0] }]) (Wit.meets (eventRows)) = true := by
  decide +kernel


/-! Instructions. An engine, and a core, that run with a few registers set. -/

def rR : FmtR := { rd := 3, ra := 1, rb := 2, rc := 4 }
def r2 : FmtR := { rR with rc := 0 }
def r1 : FmtR := { rd := 3, ra := 1, rb := 0, rc := 0 }
def iI : FmtI := { rd := 3, ra := 1, imm := 0xFFF8 }
def mM : FmtM := { rd := 3, ra := 1, sz := 3, imm := 8 }
def aA : FmtA := { rd := 3, ra := 1, rb := 2, rc := 4, afn := 0, z := 0, dw := true }
def bB : FmtB := { ra := 1, rb := 2, off := 4 }
def yY (rd ra : BitVec 5) (n : BitVec 12) : FmtY := { rd := rd, ra := ra, sr := n }

/-- The unit runs with g1, g2 and g4 set. -/
def runs (u : UnitId) (a b c : W64) : Edit :=
  un u fun x => { (((x.setG 1 a).setG 2 b).setG 4 c) with st := .running }
def onEng (a : W64) : State := runs eng0 a 3 5 up
/-- A core fetches from its own SRAM. -/
def atSram : Edit := un (.core 0) fun x => { x with pc := BitVec.ofNat 64 (sramBase 0) }
def onCore (a : W64) : State := atSram (runs (.core 0) a 3 5 up)

def scalars : List SInstr :=
  [.add r2, .sub r2, .and r2, .or r2, .xor r2, .andn r2, .shl r2, .shr r2, .sra r2, .ror r2, .slt r2, .sltu r2,
   .min r2, .max r2, .minu r2, .maxu r2, .mul r2, .mulhs r2, .mulhu r2, .divs r2, .divu r2, .rems r2, .remu r2,
   .sel rR, .ext { r1 with rc := 0 }, .ext { r1 with rc := 3 }, .addi iI, .andi iI, .ori iI, .xori iI, .slti iI,
   .sltui iI, .shi { iI with imm := 3 }, .shi { iI with imm := 0xC03F }, .mvz ⟨3, 0, 2, 7⟩, .mvk ⟨3, 0, 2, 7⟩,
   .mvn ⟨3, 0, 2, 7⟩]

def vr : FmtVR := { vd := 3, va := 1, vb := 2, pg := 0, t := 1 }
def vi : FmtVI := { vd := 3, va := 1, imm := 3, t := 1 }
def vp : FmtVP := { pd := 1, z := 0, va := 1, vb := 2, pg := 0, t := 1 }
def vg : FmtVG := { vd := 3, va := 1, lane := 5, t := 1, z := 0 }
def va : FmtVA := { ad := 1, va := 30, vb := 2, vc := 4, j := 1, z := false, n := false }
def vx : FmtVX := { vd := 3, va := 1, vb := 2, rm := 1, sc := 1, c := true }
def vo : FmtVO := { vd := 3, ad := 1, sh := 3, rm := 1, z := 0 }
def vf : FmtVF := { vd := 3, va := 1, vb := 2, pg := 1, z := 0 }
def vm : FmtVM := { vd := 4, ga := 0, pg := 1, imm := 0 }
def vn1 : FmtVN1 := { ad := 1, va := 1, e := 3, f := false, z := 0 }
def vn2 : FmtVN2 := { vd := 3, va := 1, ad := 1, e := 3, beta := 1, nm := false, z := 0 }
def vectors : List VInstr :=
  [.vadd vr, .vsub vr, .vadds vr, .vsubs vr, .vmin vr, .vmax vr, .vabs { vr with vb := 0 }, .vneg { vr with vb := 0 },
    .vand vr, .vor vr, .vxor vr, .vsel vr, .vconj { vr with vb := 0, t := 3 }, .vperm vr, .vzipl vr, .vziph vr, .vuzpe vr,
    .vuzpo vr, .vshl vi, .vshls vi, .vsra vi, .vsrar vi, .vsrl vi, .vsplat { vi with va := 0 },
    .vbc { vg with lane := 0 }, .vins vg]
def outputs : List VInstr :=
  [.vcmulr { vx with sc := 0 }, .vbf4 { vx with vb := 0 }, .voutH vo, .vaget { vo with sh := 1, rm := 0 }, .vmsr vn2]
def floats : List VInstr :=
  [.vfmaF vf, .vfmsF vf, .vfmaBf vf, .vfmsBf vf, .vfaddF vf, .vfmulF vf, .vfcvtBf vf]
def accs : List VInstr :=
  [.vmacH { va with vc := 0, j := 0 }, .vmacbH va, .vmacB { va with vc := 0, j := 0 }, .vmacbB va, .vcmac { va with vc := 0 },
    .vcmacb { va with vc := 0 }, .vcmacbj { va with vc := 0 }, .vaput { vo with vd := 5, sh := 1, rm := 0 },
    .vared { vo with vd := 0, rm := 0, sh := 1 }, .vmsa vn1]
def preds : List VInstr :=
  [.vceq vp, .vclt vp, .vcle vp, .pand { vp with t := 0 }, .por { vp with t := 0 }, .pnot { vp with t := 0, vb := 0 },
    .pfromg { vg with vd := 1, lane := 0, t := 0 }]

/-- The hypotheses of `Issues` and `Raises` as a test. -/
def issuesB (s : State) (u : UnitId) (x : SInstr) (v : VInstr) : Bool :=
  mayRun s u && fetchDone s u (s.unit u).pc && decide ((s.unit u).sent = []) &&
    decide (fetchTraps s u (s.unit u).pc = []) && decide (pairAcct u (scalarSlot (scCtx s u x) x) (otherVec s u v) s = s) &&
    decide (pendWait (scCtx s u x) (scalarSlot (scCtx s u x) x) = 0 ∧ (scalarSlot (scCtx s u x) x).wait = 0) &&
    decide (pendWait (scCtx s u x) (otherVec s u v) = 0 ∧ (otherVec s u v).wait = 0) &&
    decide (pairTraps (scCtx s u x) (scalarSlot (scCtx s u x) x) (otherVec s u v) = []) && decide (asyncCause s u = none) &&
    decide ((s.unit u).stepping = false ∧ (s.unit u).resume = 0 ∧ (s.unit u).haltDue = false) && decide ((s.unit u).held = []) &&
    decide ((s.unit u).stopping = false)
theorem issues_of {s : State} {u : UnitId} {x : SInstr} {v : VInstr} (h : issuesB s u x v = true) : Issues s u x v := by
  simp only [issuesB, Bool.and_eq_true, decide_eq_true_eq] at h
  obtain ⟨⟨⟨⟨⟨⟨⟨⟨⟨⟨⟨h1, h2⟩, h3⟩, h4⟩, h5⟩, h6⟩, h7⟩, h8⟩, h9⟩, h10⟩, h11⟩, h12⟩ := h
  exact ⟨h1, h2, h3, h4, h5, h6, h7, h8, h9, h10, h11, h12⟩
def raisesB (s : State) (u : UnitId) (x : SInstr) (v : VInstr) : Bool :=
  mayRun s u && fetchDone s u (s.unit u).pc && decide ((s.unit u).sent = []) &&
    decide (fetchTraps s u (s.unit u).pc = []) && decide (pairAcct u (scalarSlot (scCtx s u x) x) (otherVec s u v) s = s) &&
    decide (pendWait (scCtx s u x) (scalarSlot (scCtx s u x) x) = 0 ∧ (scalarSlot (scCtx s u x) x).wait = 0) &&
    decide (pendWait (scCtx s u x) (otherVec s u v) = 0 ∧ (otherVec s u v).wait = 0) &&
    decide ((s.unit u).stepping = false ∧ (s.unit u).resume = 0 ∧ (s.unit u).haltDue = false) && decide ((s.unit u).held = [])
theorem raises_of {s : State} {u : UnitId} {x : SInstr} {v : VInstr} (h : raisesB s u x v = true) : Raises s u x v := by
  simp only [raisesB, Bool.and_eq_true, decide_eq_true_eq] at h
  obtain ⟨⟨⟨⟨⟨⟨⟨⟨h1, h2⟩, h3⟩, h4⟩, h5⟩, h6⟩, h7⟩, h8⟩, h9⟩ := h
  exact ⟨h1, h2, h3, h4, h5, h6, h7, h8, h9⟩

/-- Each scalar instruction issues alone, and has its row. -/
def allIssue (s : State) (u : UnitId) (l : List SInstr) : Bool :=
  l.all fun x => issuesB s u x noVec && (scRow u noVec x).isSome
/-- Each vector instruction issues alone, and has its row. -/
def allIssueV (s : State) (u : UnitId) (l : List VInstr) : Bool :=
  l.all fun v => issuesB s u noSc v && (vcRow u noSc v).isSome
def onEngAt (a b c : W64) (l : List Edit := []) : State := l.foldl (fun s e => e s) (runs eng0 a b c up)
def onCoreAt (a b c : W64) (l : List Edit := []) : State := l.foldl (fun s e => e s) (atSram (runs (.core 0) a b c up))
/-- The registers that the instructions of the vector slot read in `onEng 0x40`. -/
def regs0 : Regs := regsOf (onEng 0x40) 0 0 0
def engE (g : UnitState → UnitState) : Edit := un eng0 g
def coreE (g : UnitState → UnitState) : Edit := un (.core 0) g
def sy (n : Nat) (v : W64) (x : UnitState) : UnitState := x.setSys n v

theorem witness_ScalarRegisterResult :
    allIssue (onEng 0x40) eng0 (scalars.filter fun x => match x with
      | .divs _ | .divu _ | .rems _ | .remu _ => false
      | _ => true) = true ∧
    allIssue (onCore 0x40) (.core 0) [.divs r2, .divu r2, .rems r2, .remu r2] = true ∧
    (scalars.all fun x => (scalarResult (fun r => ((onEng 0x40).unit eng0).getG r.toNat) x).isSome) = true := by
  decide +kernel

theorem witness_ScalarCounts : allIssue (onEng 0x40) eng0 [.clz r1, .ctz r1, .pop r1] = true := by decide +kernel

/-- R96, R97: the corners of division. -/
theorem witness_DivisionCorners :
    issuesB (onCoreAt 7 0 0) (.core 0) (.mul r2) noVec = true ∧
    issuesB (onCoreAt 0x8000000000000000 0xFFFFFFFFFFFFFFFF 0) (.core 0) (.mul r2) noVec = true ∧
    ([SInstr.divs r2, .divu r2, .rems r2, .remu r2].all fun x => (scRow (.core 0) noVec x).isSome) = true := by
  decide +kernel

theorem witness_OwnMemoryLoadAndStore :
    allIssue (onEng 0x1FFF0) eng0 [.l mM, .s mM] = true ∧ allIssue (onCore 0x9030000040) (.core 0) [.l mM, .s mM] = true ∧
    (ownMemory eng0 0x1FFF8 8).isSome = true ∧ (ownMemory (.core 0) 0x9030000048 8).isSome = true ∧
    up.mem.badN (lmemBase 0 0 0 + 0x1FFF8) 8 = 0 ∧ up.mem.corrN (lmemBase 0 0 0 + 0x1FFF8) 8 = 0 := by decide +kernel

theorem witness_PoisonedLoad :
    let s := onEngAt 0x40 3 5 [fun s => { s with mem := s.mem.poison (lmemBase 0 0 0 + 0x48) }]
    issuesB s eng0 (.l mM) noVec = true ∧ s.mem.badN (lmemBase 0 0 0 + 0x48) 8 ≠ 0 ∧ mM.rd ≠ 0 := by decide +kernel

theorem witness_CaseAccessSent :
    allIssue (onEngAt 0x40 3 5 [f .caseEngCtl [0, 0, 0] F.caseEngCtl_CASE_MODE 1]) eng0
      [.cl mM, .cs mM, .cat { aA with rc := 0 }, .lkl { aA with rb := 0, rc := 0 }, .stu { aA with rc := 0 }] = true ∧
    ((onEng 0x40).unit eng0).lkSeq ≠ 18 := by decide +kernel

theorem witness_RemoteAccessSent :
    allIssue (onEng 0x9030000040) eng0 [.xl mM, .xs mM, .xat { aA with rc := 0 }] = true ∧
    allIssue (onCore 0x9010000040) (.core 0) [.l mM, .s mM, .xat { aA with rc := 0 }] = true ∧
    (remoteAccess (.core 0) (fun r => ((onCore 0x9010000040).unit (.core 0)).getG r.toNat) (.l mM)).isSome = true := by
  decide +kernel

/-- R102: a load of a core from DRAM whose line the data cache holds, and one whose line it does not hold. -/
theorem witness_RemoteAccessSent_cached :
    let s := onCoreAt 0x40 3 5 [coreE fun x => { x with dlines := [(1, 0x1122#512)] }]
    issuesB s (.core 0) (.l mM) noVec = true ∧ ((s.unit (.core 0)).cached 0x48).isSome = true ∧
    (s.unit (.core 0)).cacheBits false 0x48 8 1 = 0 ∧ (s.unit (.core 0)).cacheBits false 0x48 8 2 = 0 ∧
    issuesB (onCore 0x40) (.core 0) (.l mM) noVec = true ∧ (((onCore 0x40).unit (.core 0)).cached 0x48).isSome = false := by
  decide +kernel

theorem witness_CoreLockedAccess :
    let held := onCoreAt 0x40 3 5 [coreE fun x => { x with resv := some ⟨1, 8⟩ }]
    allIssue (onCore 0x40) (.core 0) [.lkl { aA with rb := 0, rc := 0 }, .stu { aA with rc := 0 }] = true ∧
    allIssue held (.core 0) [.lkl { aA with rb := 0, rc := 0 }, .stu { aA with rc := 0 }] = true ∧
    ((onCore 0x40).unit (.core 0)).lkSeq ≠ 18 := by decide +kernel

theorem witness_BranchesAndJumps :
    allIssue (onEng 0x40) eng0 [.beq bB, .bne bB, .blt bB, .bge bB, .bltu bB, .bgeu bB, .jl ⟨3, 4⟩,
      .jr { iI with imm := 8 }] = true ∧
    allIssue (onCore 0x40) (.core 0) [.beq bB, .bne bB, .blt bB, .bge bB, .bltu bB, .bgeu bB, .jl ⟨3, 4⟩,
      .jr { iI with imm := 8 }] = true := by decide +kernel

theorem witness_LoopSetup :
    allIssue (onEng 0x40) eng0 [.loop ⟨true, 1, 0, 4⟩, .loopi ⟨false, 9, 4⟩, .loopi ⟨true, 0, 4⟩] = true := by decide +kernel

/-- The four clauses: level 1 goes back; level 1 ends and level 0 goes back; level 1 ends; both fall through. -/
theorem witness_LoopEnd :
    let at1 (n : W64) : UnitState → UnitState := fun x => withLoop x true 0x10 x.pc n
    let at0 (n : W64) : UnitState → UnitState := fun x => withLoop x false 0x8 x.pc n
    let l : List (List Edit) := [[engE (at1 2)], [engE (at1 1), engE (at0 2)], [engE (at1 1)], [engE (at1 1), engE (at0 1)]]
    (l.all fun e => issuesB (onEngAt 0x40 3 5 e) eng0 (.add r2) noVec) = true := by decide +kernel

theorem witness_SystemRegisterAccess :
    let s := onEngAt 0x40 3 5
    allIssue s eng0 [.srd (yY 3 0 STATUS), .srd (yY 3 0 CYCLE), .swr (yY 0 1 STATUS), .swr (yY 0 1 1), .swr (yY 0 1 0x10)] =
      true ∧ s.slotOf 0 0 0 < 8 := by decide +kernel

/-- R125, R665: CYCLE of a core, and WDOG of an engine and of a core. -/
theorem witness_SystemRegisterAccess_counts :
    allIssue (onCore 0x40) (.core 0) [.srd (yY 3 0 CYCLE), .srd (yY 3 0 WDOG), .swr (yY 0 1 WDOG)] = true ∧
    allIssue (onEng 0x40) eng0 [.srd (yY 3 0 WDOG), .swr (yY 0 1 WDOG)] = true ∧
    (wdogReg (onEng 0x40) eng0).isSome = true ∧ (wdogReg (onCore 0x40) (.core 0)).isSome = true := by decide +kernel

theorem witness_FenceAndHalt :
    allIssue (onEng 0x40) eng0 [.fence (yY 0 0 3)] = true ∧ allIssue (onCore 0x40) (.core 0) [.fence (yY 0 0 7)] = true ∧
    issuesB (onEngAt 0x40 3 5) eng0 (.halt (yY 0 0 0)) noVec = true ∧
    issuesB (onCoreAt 0x40 3 5) (.core 0) (.halt (yY 0 0 0)) noVec = true ∧ (up.comp 0).doing ≠ .call := by decide +kernel

/-- Event 260 is routed to engine 0 of case 0 and has reached it. -/
def delivered260 : List Edit :=
  [rg .eventPend [0, 8] 0x10, f .eventRoute [0, 260] F.eventRoute_KIND 2, f .eventRoute [0, 260] F.eventRoute_EN 1, engE fun x => { x with delivered := [260] }]

theorem witness_WaitForEvent :
    let s := onEngAt 0x40 3 5 delivered260
    (nextEvent s eng0 = some 260 ∧ issuesB s eng0 (.wev (yY 3 0 0)) noVec = true) ∧
    (canIssue (onEng 0x40) eng0 = true ∧ ((onEng 0x40).unit eng0).sent = [] ∧ fetchTraps (onEng 0x40) eng0 ((onEng 0x40).unit eng0).pc = [] ∧
      nextEvent (onEng 0x40) eng0 = none ∧ asyncCause (onEng 0x40) eng0 = none) := by decide +kernel

theorem witness_SynchronousTrap :
    let s := onEng 0x44
    raisesB s eng0 (.l mM) noVec = true ∧ causes s eng0 (.l mM) noVec ≠ [] ∧ (s.unit eng0).st_ fINTRAP = 0 ∧
    ((causes s eng0 (.l mM) noVec).all fun e => decide (e.1 ≠ 13 ∧ e.1 ≠ 16)) = true := by decide +kernel

theorem witness_SystemCallAndBreakpoint :
    let h := onEngAt 0x40 3 5 [f .debugCtl [] F.debugCtl_BRKHALT 1]
    raisesB (onEng 0x40) eng0 (.sys (yY 0 0 9)) noVec = true ∧ raisesB (onEng 0x40) eng0 (.brk (yY 0 0 9)) noVec = true ∧
    (onEng 0x40).bit .debugCtl [] F.debugCtl_BRKHALT = false ∧ h.bit .debugCtl [] F.debugCtl_BRKHALT = true ∧
    raisesB h eng0 (.brk (yY 0 0 9)) noVec = true ∧ ((onEng 0x40).unit eng0).st_ fINTRAP = 0 := by decide +kernel

theorem witness_AsynchronousTrap :
    let ev := onEngAt 0x40 3 5 (delivered260 ++ [engE fun x => x.setSt fEIE 1])
    mayRun (onEngAt 0x40 3 5 [engE fun x => { x with wdog := true }]) eng0 = true ∧
    mayRun (onEngAt 0x40 3 5 [engE fun x => { x with posted := some 0x9030000000 }]) eng0 = true ∧
    mayRun ev eng0 = true ∧ (ev.unit eng0).mismRun = 0 ∧ nextEvent ev eng0 = some 260 ∧ (ev.unit eng0).st_ fEIE = 1 ∧
    (ev.unit eng0).st_ fINTRAP = 0 ∧ (ev.unit eng0).wdog = false ∧ (ev.unit eng0).posted = none := by decide +kernel

theorem witness_NestedTrap :
    let s := onEngAt 0x40 3 5 [engE fun x => x.setSt fINTRAP 1]
    raisesB s eng0 (.sys (yY 0 0 9)) noVec = true ∧ (s.unit eng0).st_ fINTRAP = 1 := by decide +kernel

theorem witness_ReturnFromTrap :
    issuesB (onEngAt 0x40 3 5) eng0 (.rte (yY 0 0 0)) noVec = true := by decide +kernel

/-! The vector slot. -/

theorem witness_VectorIntegerResult :
    allIssueV (onEng 0x40) eng0 (vectors.map fun v => match v with
      | .vand r => .vand { r with t := 0 } | .vor r => .vor { r with t := 0 } | .vxor r => .vxor { r with t := 0 }
      | v => v) = true ∧
    (vectors.all fun v => (vrOp regs0 v).isSome || (viOp regs0 v).isSome) = true := by decide +kernel
theorem witness_VectorOutputResult :
    allIssueV (onEng 0x40) eng0 outputs = true ∧ (outputs.all fun v => (outOp regs0 v).isSome) = true := by decide +kernel
theorem witness_VectorFloatResult :
    allIssueV (onEng 0x40) eng0 floats = true ∧ (floats.all fun v => (vfOp regs0 v).isSome) = true := by decide +kernel
theorem witness_AccumulatorResult :
    allIssueV (onEng 0x40) eng0 accs = true ∧ (accs.all fun v => (accOp regs0 v).isSome) = true := by decide +kernel
theorem witness_PredicateResult :
    allIssueV (onEng 0x40) eng0 preds = true ∧ (preds.all fun v => (predOp regs0 v).isSome) = true := by decide +kernel
theorem witness_VectorToGeneral :
    allIssueV (onEng 0x40) eng0 [.vext vg, .ptog { vg with lane := 0, t := 0 },
      .vnop { vd := 0, va := 0, vb := 0, pg := 0, t := 0 }] = true := by decide +kernel
theorem witness_VectorLocalMemory :
    allIssueV (onEng 0x40) eng0 [.vl { vm with pg := 0 }, .vl2 { vm with pg := 0 }, .vs vm] = true ∧
    up.mem.badN (lmemBase 0 0 0) 128 = 0 ∧ up.mem.corrN (lmemBase 0 0 0) 128 = 0 := by decide +kernel
theorem witness_RegisterPairResult :
    allIssueV (onEng 0x40) eng0 [.voutW { vo with vd := 4 }, .vfmawBf { vf with vd := 4 }] = true := by decide +kernel
theorem witness_BothSlotsTakeEffect :
    issuesB (onEng 0x40) eng0 (.add { r2 with rd := 5 }) (.vext vg) = true ∧
    (scRow eng0 (.vext vg) (.add r2)).isSome = true ∧ (vcRow eng0 (.add r2) (.vext vg)).isSome = true := by decide +kernel

/-! The commands of run control, planes, case memory, DMA and sparing. -/

def opens (s : State) (n : RegName) (ix : List Nat) : Bool := (writeGate c0 n ix s).isNone

theorem witness_BarredRegisterWrite :
    (registerRow (.dieOff (.engine 0 0 0) 1 0)).isSome = true ∧ (writeGate (.engine 0 0 0) .powerDie [1] up).isSome = true ∧
    (writeGate c0 .galleySwap [0, 0] (rg .powerDom [0, 0] 0 up)).isSome = true := by decide +kernel

theorem witness_CaseStartTogether :
    let s := [f .caseStart [0, 0] F.caseStart_GO 1, h .caseCycle [0, 0] 4, engE fun x => { x with st := .armed }].foldl
      (fun s e => e s) up
    opens up .caseStart [0, 0] = true ∧ goRefused up 0 0 = false ∧ up.bit .caseStart [0, 0] F.caseStart_GO = false ∧
    s.bit .caseStart [0, 0] F.caseStart_GO = true ∧ s.hv .slotCtr [0, 0] = 0 ∧
    s.hv .startAt [0, 0] + 4 ≤ s.hv .caseCycle [0, 0] ∧ s.runs 0 16 = true ∧
    ((List.range 8).all fun a => (List.range 8).all fun b => a == b || decide (s.engAt 0 0 a ≠ s.engAt 0 0 b)) = true := by decide +kernel

theorem witness_PlaneSwaps :
    let p := [f .caseImpStatus [0, 0] F.caseImpStatus_PENDING 1, h .slotCtr [0, 0] 63, h .caseCycle [0, 0] 9].foldl
      (fun s e => e s) up
    let b := rg .caseImpSlot [0, 0, 5] 0xB0 p
    let x := [f .nocXportImpCs [0, 0] F.nocXportImpCs_PENDING 1, h .portSlot [0] 127, h .nocCycle [] 9].foldl
      (fun s e => e s) up
    let y := rg .nocXportImpWord [0, 0, 1, 2] 0xC0 x
    opens up .caseImpCtl [0, 0] = true ∧ up.bit .caseImpStatus [0, 0] F.caseImpStatus_PENDING = false ∧
    (p.runs 0 16 = true ∧ swapDue p 0 0 = true ∧ swapDue b 0 0 = true ∧ HasCode (b.reg .caseImpSlot [0, 0, 5]) 11 14) ∧
    ((List.range 64).all fun n => (List.range 16).all fun k => decide
      (¬ (11 ≤ (p.reg .caseImpSlot [0, 0, n]).toNat / 16 ^ k % 16 ∧ (p.reg .caseImpSlot [0, 0, n]).toNat / 16 ^ k % 16 ≤ 14))) =
      true ∧
    opens up .nocXportImpCs [0, 0] = true ∧ up.bit .nocXportImpCs [0, 0] F.nocXportImpCs_PENDING = false ∧
    (x.domOn 0 33 = true ∧ xportDue x 0 0 = true ∧ xportDue y 0 0 = true ∧
      HasCode (y.reg .nocXportImpWord [0, 0, 1, 2]) 12 14) := by
  refine ⟨?_, ?_, ⟨?_, ?_, ?_, 1, ?_⟩, ?_, ?_, ?_, ?_, ?_, ?_, 1, ?_⟩ <;> decide +kernel

theorem witness_ResidueReplay :
    let s := onEng 0x40
    s.slotOf 0 0 0 < 8 ∧ canIssue s eng0 = true ∧ (s.unit eng0).mismRun = 0 ∧ inDrain s 0 0 0 = false ∧
    ((s.case 0 0).mism.get [] 0).length < 2 ∧ addressFailure 3 false = false ∧
    issuesB (onEngAt 0x40 3 5 [f .caseEngCtl [0, 0, 0] F.caseEngCtl_CASE_MODE 1]) eng0 (.cs mM) noVec = true ∧
    (caseAccess (fun r => (s.unit eng0).getG r.toNat) (.cs mM)).isSome = true := by
  decide +kernel

theorem witness_RunControl :
    let at_ (r : RunState) : State := un eng0 (fun x => { x with st := r }) up
    let stop (o : List Pend) : State := un eng0 (fun x => { x with st := .running, stopping := true, outs := o }) up
    opens up .caseEngCtl [0, 0, 0] = true ∧ up.engAt 0 0 0 = eng0 ∧ (up.unit eng0).st = .stopped ∧
    goRefused up 0 0 = false ∧ goRefused (f .bistLockout [0] F.bistLockout_CASE 1 up) 0 0 = true ∧
    (at_ .faultStopped).engAt 0 0 0 = eng0 ∧ ((at_ .armed).unit eng0).st = .armed ∧
    ((at_ .running).unit eng0).st = .running ∧ opens (at_ .running) .caseEngCtl [0, 0, 0] = true ∧
    F.caseEngCtl_ARM.get 1 = 1 ∧ F.caseEngCtl_GO.get 1 = 0 ∧ F.caseEngCtl_STOP.get 1 = 0 ∧
    ((stop []).unit eng0).outs = [] ∧ ((stop [⟨0, false, 0, 8, .store⟩]).unit eng0).outs ≠ [] ∧
    (writeGate .guard .ctlRun [0] up).isNone = true ∧ (up.unit (.core 0)).st = .stopped ∧
    ((un (.core 0) (fun x => { x with st := .running }) up).unit (.core 0)).st = .running ∧
    asyncCause (at_ .running) eng0 = none ∧ ((stop []).unit eng0).mismRun = 0 ∧
    asyncCause (un eng0 (fun x => { x with wdog := true }) (at_ .running)) eng0 = some (34, 0) ∧
    ((at_ .running).unit eng0).st_ fINTRAP = 0 ∧ asyncCause (at_ .running) (.core 0) = none := by decide +kernel

/-- An engine's access waits alone at its bank, and engine 0 owns every slot. -/
def oneAccess (op : BankOp) (goesTo : Dest) : State :=
  let s := un eng0 (fun x => { x with st := .running, outs := [⟨7, false, 64, 8, goesTo⟩] }) up
  (s.setCase 0 0 { s.case 0 0 with waiting := [⟨.eng 0, 64, 8, op, .eng 7, 0, 0⟩] }).setReg .caseImpLive [0, 0, 1] 0

theorem witness_CaseMemoryGrant :
    let r (op : BankOp) : BankReq := ⟨.eng 0, 64, 8, op, .eng 7, 0, 0⟩
    let s := oneAccess .read (.load 3 3)
    let w := oneAccess (.write 9 0) .store
    s.runs 0 16 = true ∧ s.hv .slotCtr [0, 0] = 0 ∧ grantOf s 0 0 1 (bankOf 64) = some (r .read) ∧
    grantOf w 0 0 1 (bankOf 64) = some (r (.write 9 0)) ∧ s.bit .caseStart [0, 0] F.caseStart_GO = false ∧
    s.bit .caseImpStatus [0, 0] F.caseImpStatus_PENDING = false ∧ (s.case 0 0).inb = [] ∧
    (s.unit eng0).sent = [] ∧ s.mem.badN (caseBase 0 0 + 64) 8 = 0 ∧ s.mem.corrN (caseBase 0 0 + 64) 8 = 0 ∧
    ownerRequest (rg .caseImpLive [0, 0, 1] 0xFFFFFFFFFFFFFFFF (f .caseEngCtl [0, 0, 0] F.caseEngCtl_CASE_MODE 1 s)) 0 0 1
      (bankOf 64) = none ∧
    requestOf s 0 0 (bankOf 64) 0 = some (r .read) ∧
    background (f .caseEngCtl [0, 0, 0] F.caseEngCtl_CASE_MODE 1 s) 0 0 (.eng 0) = true := by decide +kernel

/-- A descriptor of two rows from case memory. -/
def desc0 : DmaDesc :=
  { ext := 0x9030000000, coff := 128, len := 64, rows := 2, dir := false, loc := false, slot := 0, evt := true, ord := false,
    pri := 0, estr := 64, cstr := 64 }
def dmaState (row : Nat) : State :=
  let s := [f .caseDmaCtl [0, 0, 0] F.caseDmaCtl_RUN 1, f .caseDmaRing [0, 0, 0] F.caseDmaRing_TAIL 1,
    f .caseDmaRing [0, 0, 0] F.caseDmaRing_LOG2N 2].foldl (fun s e => e s) up
  s.setChan 0 0 0 { DmaChan.init with desc := some desc0, row := row }

theorem witness_CaseDma :
    let good := f .caseDmaRing [0, 0, 0] F.caseDmaRing_LOG2N 2 up
    opens up .caseDmaRing [0, 0, 0] = true ∧ up.bit .caseDmaCtl [0, 0, 0] F.caseDmaCtl_RUN = false ∧
    opens good .caseDmaCtl [0, 0, 0] = true ∧ ringBad good 0 0 0 = false ∧ ringBad up 0 0 0 = true ∧
    F.caseDmaCtl_STOP.get 1 = 0 ∧ (dmaState 0).bit .caseDmaCtl [0, 0, 0] F.caseDmaCtl_RUN = true ∧
    ((dmaState 0).chan 0 0 0).live = [] ∧ ((dmaState 0).chan 0 0 0).err = none ∧
    (dmaState 0).runs 0 16 = true ∧ ((dmaState 0).chan 0 0 0).desc = some desc0 ∧ (dmaState 0).hv .dmaTurn [0, 0] % 4 = 0 ∧
    chanReady (dmaState 0) 0 0 0 = true ∧ desc0.rows ≤ ((dmaState 2).chan 0 0 0).row ∧
    ((List.range 4).all fun j => ((dmaState 0).chan 0 0 j).live.all fun q => decide (q.got = none)) = true := by decide +kernel

theorem witness_Sparing :
    let us (n : Nat) : State := f .caseSpareStatus [0, 0] F.caseSpareStatus_USTATE n up
    let run := un eng0 (fun x => { x with st := .running }) up
    let busy := f .caseSpareStatus [0, 0] F.caseSpareStatus_BUSY 1 run
    let M := F.caseSpareCtl_MIGRATE.put 0 1
    opens up .caseSpareCtl [0, 0] = true ∧ F.caseSpareCtl_RETURN.get M = 0 ∧ F.caseSpareCtl_RETIRE.get M = 0 ∧
    spareReady run 0 0 = true ∧ (run.unit (run.engAt 0 0 (F.caseSpareCtl_TARGET.get M))).st = .running ∧
    spareReady busy 0 0 = false ∧ ustate (us 1) 0 0 = 1 ∧ (h .spareTested [0, 0] 1 (us 1)).hv .spareTested [0, 0] = 1 ∧
    ustate (us 4) 0 0 = 4 ∧ F.caseSpareCtl_MIGRATE.get (F.caseSpareCtl_RETURN.put 0 1) = 0 ∧
    busy.fld .caseSpareStatus [0, 0] F.caseSpareStatus_LAST = 0 ∧ busy.posOf 0 0 0 = 0 ∧ busy.posOf 0 0 8 = 8 ∧
    busy.bit .caseSpareStatus [0, 0] F.caseSpareStatus_BUSY = true ∧ busy.runs 0 16 = true ∧
    (busy.unit eng0).st = .running ∧ asyncCause busy eng0 = none ∧ (busy.unit eng0).mismRun = 0 ∧
    (busy.case 0 0).migr = none := by decide +kernel

/-- The phases after the pause: the copy, the two outcomes of the check, and the two ends. -/
theorem witness_Sparing_phases :
    let on (stage : Nat) : State := [ca fun k => { k with migr := some ⟨0, 5, stage⟩ },
      f .caseSpareStatus [0, 0] F.caseSpareStatus_BUSY 1, un eng0 fun x => { x with st := .migrating, back := .running }].foldl
        (fun s e => e s) up
    ([1, 2, 3, 4, 5].all fun k => (on k).runs 0 16 && (on k).bit .caseSpareStatus [0, 0] F.caseSpareStatus_BUSY &&
      decide ((on k).posOf 0 0 0 = 0 ∧ (on k).posOf 0 0 8 = 8) &&
      decide ((on k).fld .caseSpareStatus [0, 0] F.caseSpareStatus_LAST = 0) &&
      decide (((on k).case 0 0).migr = some ⟨0, 5, k⟩ ∧ ((on k).unit eng0).back = .running ∧ ((on k).unit eng0).held = [] ∧
        ((on k).unit eng0).stopping = false ∧ ((on k).unit eng0).haltDue = false) &&
      ((List.range 4).all fun q => decide (((on k).chan 0 0 q).live = [])) && decide ((on k).hv .slotCtr [0, 0] ≠ 5) && decide ((h .slotCtr [0, 0] 5 (on k)).hv .slotCtr [0, 0] = 5)) = true := by
  decide +kernel

theorem witness_SoftwareEvents :
    F.eventRaise_NUM.get 256 = 256 ∧ unitOff up (addrOf .eventRaise [0]) = false ∧
    heldReset up (addrOf .eventRaise [0]) = false := by decide +kernel

/-- A command that writes memory runs in a state whose memory is canonical. -/
theorem witness_MemoryStaysCanonical : State.MemOk (oneAccess (.write 9 0) .store) := by
  unfold State.MemOk; decide +kernel

/-! Rows that rest on an opaque constant of Config. Their witnesses take as a hypothesis what the constant would have to be:
nothing in the model says what it is, so the hypothesis contradicts nothing. -/

/-- A state with this many entries in the queue of block 0, after the changes. -/
def blockUp (mode cnt : Nat) (more : List Edit := []) : State :=
  (netOn 0 0 ++ [by_ (frameBase 0 0 (liveOf up 0 0)) 1 mode,
    fun s => s.setBlock 0 0 0 { s.block 0 0 0 with cnt := cnt }] ++ more).foldl (fun s e => e s) up

/-- The configuration of block 0 gives its mode in the first two bits of the plane; its other cells are 0. -/
def ModeBits : Prop := Config.frameMap = fun c => if c = .ramMode 0 then [0, 1] else []

def pres (l : List Row) : List Bool := l.map (·.pre)

theorem witness_GalleyFeatures_queue (hf : ModeBits) :
    pres (queueRows (blockUp 1 0) (.queueWrite 0 0 0 7 false)) = [true, false] ∧
    pres (queueRows (blockUp 1 1024) (.queueWrite 0 0 0 7 false)) = [false, true] ∧
    pres (queueRows (blockUp 2 1 [fun s => s.setBlock 0 0 0 { s.block 0 0 0 with lateW := 2 }]) (.queueWrite 0 0 0 7 true)) =
      [false, true] ∧
    pres (queueRows (blockUp 1 1) (.queueRead 0 0 0 false)) = [true, false] ∧
    pres (queueRows (blockUp 1 0) (.queueRead 0 0 0 false)) = [false, true] ∧
    pres (queueRows (blockUp 2 1 [fun s => s.setBlock 0 0 0 { s.block 0 0 0 with lateR := 2 }]) (.queueRead 0 0 0 true)) =
      [false, true] ∧
    pres (queueRows (blockUp 1 0) (.clrerr 0 0 ⟨0, true, false, none, false⟩)) = [true, false] ∧
    pres (queueRows (blockUp 2 0) (.clrerr 0 0 ⟨0, true, false, none, false⟩)) = [false, true] ∧
    pres (queueRows (blockUp 2 1024) (.clrerr 0 0 ⟨0, true, false, some 7, false⟩)) = [true] ∧
    pres (queueRows (blockUp 1 0) (.clrerr 0 0 ⟨0, true, false, some 7, true⟩)) = [true] ∧
    pres (queueRows (blockUp 1 0) (.queueRst 0 0 0)) = [true] ∧
    pres (queueRows (blockUp 0 0) (.blockRamAccess 0 0 0 (some { addr := 0, wr := false, be := 0, data := 0 }) none)) =
      [true, false, false] ∧
    pres (queueRows (blockUp 0 0) (.blockRamAccess 0 0 0 (some { addr := 0, wr := true, be := 15, data := 7 }) none)) =
      [false, true, false] := by
  unfold ModeBits at hf
  refine ⟨?_, ?_, ?_, ?_, ?_, ?_, ?_, ?_, ?_, ?_, ?_, ?_, ?_⟩ <;>
    simp only [pres, queueRows, List.map, ramClock, ramNet, ramMode, portBytes, queueDepth, cell, cellIn, cellBits, hf] <;>
    decide +kernel

/-- Port 0 of galley 0 takes requests on a network in ratio mode, with a divider of 4 (R283); block 0 has its mode. -/
def portUp (op : ReqOp) (mode cnt : Nat) : State :=
  (reqThere (reqTo c0 op 0x8000000000 8) ((dstOf up 0 0x8000000000 8).getD 0) ++
    [rg .galleyClk (liveIx [0, 0]) 1, f .galleyQuoin [0, 0] F.galleyQuoin_CLOSED 0, f .galleyClksel [0, 0, 0] F.galleyClksel_CUR 0, f .galleyUpllCfg [0, 0, 0] F.galleyUpllCfg_MODE 1,
      f .galleyUpllCfg [0, 0, 0] F.galleyUpllCfg_DIV0 4, f .galleyUpllStatus [0, 0, 0] F.galleyUpllStatus_LOCK 1,
      rg .galleyFportCfg (liveIx [0, 0, 0]) (F.galleyFportCfg_TGT_EN.put 1 1),
      f .galleyFportWin (liveIx [0, 0, 0]) F.galleyFportWin_LOG2SZ 12,
      by_ (frameBase 0 0 (liveOf up 0 0)) 1 mode,
      fun s => s.setBlock 0 0 0 { s.block 0 0 0 with cnt := cnt }]).foldl (fun s e => e s) up

theorem witness_RegistersAndNetwork_ports (hf : ModeBits) :
    pres (networkRows (portUp .rd 0 0) (.rdReq c0 0 0 none)) = [true] ∧
    pres (networkRows (portUp .wr 0 0) (.wrReq c0 0 0 none)) = [true] ∧
    pres (networkRows (portUp .at_ 0 0) (.atReq c0 0 0 none)) = [true] ∧
    pres (networkRows (portUp .wr 3 0) (.wrReq c0 0 0 none)) = [true, false, false] ∧
    pres (networkRows (portUp .wr 3 1020) (.wrReq c0 0 0 none)) = [false, true, false] ∧
    pres (networkRows (portUp .wr 3 1024) (.wrReq c0 0 0 none)) = [false, false, true] := by
  unfold ModeBits at hf
  refine ⟨?_, ?_, ?_, ?_, ?_, ?_⟩ <;>
    simp only [pres, networkRows, fabricPortRows, portQueue, ramMode, portBytes, queueDepth, cell, cellIn, cellBits, hf] <;>
    decide +kernel

/-- A galley whose logic is clocked, with the register of wire 0 enabled and no network running (R238, R247). -/
def logicUp : State :=
  [h .guardUp [] 0, h .nocCycle [] 1, by_ (frameBase 0 0 (liveOf up 0 0)) 1 1].foldl (fun s e => e s) up

/-- What the edges of a cycle leave: the registers, memory, and what tells whether a galley runs. -/
def EdgesKeep (s t : State) : Prop :=
  t.regs = s.regs ∧ t.mem = s.mem ∧ ∀ n ∈ [HidName.clkWait, .bistKind, .bistUnit, .livePlane], ∀ ix, t.hv n ix = s.hv n ix
theorem EdgesKeep.hv {s t : State} (h : EdgesKeep s t) (n : HidName) (ix : List Nat) (x : Nat)
    (hn : n ∉ [HidName.clkWait, .bistKind, .bistUnit, .livePlane]) : EdgesKeep s (t.setHv n ix x) := by
  refine ⟨h.1, h.2.1, fun m hm jx => ?_⟩
  rw [State.hv_setHv]
  have : m ≠ n := fun e => hn (e ▸ hm)
  simp [this.symm, h.2.2 m hm jx]
theorem EdgesKeep.foldl {α : Type} {s : State} (g : State → α → State) (hg : ∀ t x, EdgesKeep s t → EdgesKeep s (g t x)) :
    ∀ (l : List α) (t : State), EdgesKeep s t → EdgesKeep s (l.foldl g t)
  | [], _, h => h
  | x :: l, t, h => EdgesKeep.foldl g hg l (g t x) (hg t x h)
theorem netEdges_keep (s : State) : EdgesKeep s (netEdges s) := by
  refine EdgesKeep.foldl _ (fun t0 x h => ?_) _ s ⟨rfl, rfl, fun _ _ _ => rfl⟩
  have h1 : EdgesKeep s (localEdges x.1 x.2 t0) := by
    refine EdgesKeep.foldl _ (fun t k h => ?_) _ t0 h
    have h0 : EdgesKeep s (setFab [(.localClk x.1 x.2 k, (fedNow t0 x.1 x.2 (.localClk k)).toNat)] t) := h
    dsimp only
    split
    · exact (h0.hv _ _ _ (by decide)).hv _ _ _ (by decide)
    · exact h0.hv _ _ _ (by decide)
  refine EdgesKeep.foldl _ (fun t k h => ?_) _ _ h1
  dsimp only
  repeat' split
  all_goals first
    | exact ((h.hv _ _ _ (by decide)).hv _ _ _ (by decide)).hv _ _ _ (by decide)
    | exact (h.hv _ _ _ (by decide)).hv _ _ _ (by decide)
    | exact h.hv _ _ _ (by decide)

theorem witness_GalleyFeatures_step (hl : Config.wireLong 0 = true) (hf : Config.frameMap (.wireReg 0) = [0]) (n : Nat) :
    let c := netEdges (cycleCounts logicUp)
    logicUp.pending = [] ∧ ((List.range 4).all fun d => decide ((logicUp.comp d).outs = 0) && !(logicUp.comp d).failed) = true ∧
    galleyRuns c 0 0 = true ∧ wireHeld c 0 0 0 = true ∧ netEdge c 0 0 n = false := by
  obtain ⟨h1, h2, h3⟩ := netEdges_keep (cycleCounts logicUp)
  have hr (m ix) : (netEdges (cycleCounts logicUp)).reg m ix = (cycleCounts logicUp).reg m ix := by simp [State.reg, h1]
  have h0 : (cycleCounts logicUp).reg .galleyClk (liveIx [0, 0]) = 0 := by decide +kernel
  refine ⟨by decide +kernel, by decide +kernel, ?_, ?_, ?_⟩
  · simp only [galleyRuns, State.runs, State.domOn, State.released, initialLoad, galleyTested, galleyLocked, State.fld, hr,
      h3 .clkWait (by decide), h3 .bistKind (by decide), h3 .bistUnit (by decide)]
    decide +kernel
  · simp only [wireHeld, cell, cellIn, cellBits, planeBit, liveOf, hl, hf, h2, h3 .livePlane (by decide)]
    decide +kernel
  · simp [netEdge, netRuns, hr, h0]

/-- A command waits, and none. -/
theorem witness_StepRunsCommand : ({ up with pending := [.sync 0] } : State).pending = .sync 0 :: [] ∧ up.pending = [] := by
  decide +kernel

theorem witness_PairRowsAgree : (scRow eng0 (.vext vg) (.add r2)).isSome = true ∧ (vcRow eng0 (.add r2) (.vext vg)).isSome = true := by
  decide +kernel

theorem witness_InstructionWordsDecode : (SInstr.add r2).wf = true ∧ (SInstr.illegal 0xFFFFFFFF).wf = true ∧ (VInstr.vext vg).wf = true := by
  decide +kernel

/-- A record that no rule refuses, for a signer whose key is live. -/
theorem fuse_accepted {s : State} {x : Nat} (hv : ∀ a b c d e, Config.ecdsaVerify a b c d e = true) (hd : devFp = 0)
    (hf : recordForm x = true) (hp : bytesAt x 16 48 = 0) (hk : keyLive s (bytesAt x 5 1) = true)
    (h5 : bytesAt x 4 1 = 5 → (setfkKey x).isSome = true)
    (hw : fusePre s (bytesAt x 4 1) (bytesAt x 6 1) (bytesAt x 8 4) = true) (hi : hasIdentity s = true) :
    fuseReason s x = none := by
  by_cases h : bytesAt x 4 1 = 5
  · have := h5 h
    simp [h] at hw
    simp [fuseReason, hf, hp, hk, hw, hi, hd, verifySlot, hv, h, Option.ne_none_iff_isSome, this]
  · simp [fuseReason, hf, hp, hk, hw, hi, hd, verifySlot, hv, h]

theorem fuse_row (s : State) (i : Instr) (code : Nat) (weak : List Nat) (x : Nat) (r : List GuardJob)
    (h1 : fuseRow i = some (code, weak)) (h2 : s.jobs = .fuse :: r) (h3 : s.hv .reqAddr [0] = mboxBase)
    (h4 : bytesAt (mboxBytes s) 0 512 = x) :
    (fuseRows s i).map (·.pre) =
      let bits := fuseBurns s code (bytesAt x 6 1) (bytesAt x 8 4) x
      let takes := bits.all fun k => !weak.contains k || fuseBits s k 1 == 1
      let dbg := fuseDbg s ||| (if code = 8 then bytesAt x 8 4 else 0)
      let relocks := decide (code = 8) && decide (2 ≤ dbg) && !debugLocked s
      let mine := bytesAt x 4 1 == code
      [mine && (fuseReason s x).isNone && takes && !relocks, mine && (fuseReason s x).isNone && takes && relocks,
        mine && (fuseReason s x).isNone && !takes, mine && (fuseReason s x).isSome] := by
  simp only [fuseRows, h1, h2, h3, secRead, if_true, h4, List.map]

/-- The mailbox with a record of CMD, SIGNER 0, SLOT and VALUE; owner slots 0 and 1 are set, and the copy has FOLIO 9. -/
def fuseAt (cmd slot value : Nat) (more : List Edit := []) : State :=
  let w0 := 0x45535546 + cmd * 2 ^ 32 + slot * 2 ^ 48
  (cmdOnly cmd ++ [h .identity [] 1, rg .secMbox [0] (BitVec.ofNat 64 w0), rg .secMbox [1] (BitVec.ofNat 64 value),
    f .guardFsel [] F.guardFsel_FOLIO 9, fun s => burnBit (burnBit s (slotLo 0 + 511)) (slotLo 1 + 511)] ++ more).foldl
    (fun s e => e s) up

/-- The hypotheses of the first row, but for what the opaque functions answer. -/
def fuseReady (s : State) (code : Nat) : Bool :=
  let x := bytesAt (mboxBytes s) 0 512
  decide (s.jobs = [.fuse]) && decide (s.hv .reqAddr [0] = mboxBase) && recordForm x && decide (bytesAt x 16 48 = 0) &&
    keyLive s (bytesAt x 5 1) && fusePre s (bytesAt x 4 1) (bytesAt x 6 1) (bytesAt x 8 4) && hasIdentity s &&
    decide (bytesAt x 4 1 = code)

/-- A fuse command whose bits take: row 0 applies, or row 1 where debug relocks. -/
theorem fuse_witness (hv : ∀ a b c d e, Config.ecdsaVerify a b c d e = true) (hd : devFp = 0)
    (hk : ∀ x, (setfkKey x).isSome = true) (s : State) (i : Instr) (code : Nat) (n : Bool) (h1 : fuseRow i = some (code, []))
    (h2 : fuseReady s code = true)
    (h3 : (decide (code = 8) && decide (2 ≤ (fuseDbg s ||| (if code = 8 then bytesAt (bytesAt (mboxBytes s) 0 512) 8 4 else 0))) &&
      !debugLocked s) = n) :
    ((fuseRows s i).map (·.pre))[if n then 1 else 0]? = some true := by
  simp only [fuseReady, Bool.and_eq_true, decide_eq_true_eq] at h2
  obtain ⟨⟨⟨⟨⟨⟨⟨a, b⟩, c⟩, d⟩, e⟩, g⟩, j⟩, k⟩ := h2
  rw [fuse_row s i code [] _ _ h1 a b rfl, fuse_accepted hv hd c d e (fun _ => hk _) g j]
  cases n <;> simp [k, h3]

theorem witness_FusesAndUnlock_fuses (hv : ∀ a b c d e, Config.ecdsaVerify a b c d e = true) (hd : devFp = 0)
    (hk : ∀ x, (setfkKey x).isSome = true) :
    ((fuseRows (fuseAt 1 2 0) (.addkey [])).map (·.pre))[0]? = some true ∧
    ((fuseRows (fuseAt 2 1 0) (.revoke [])).map (·.pre))[0]? = some true ∧
    ((fuseRows (fuseAt 3 0 9) (.floorCmd [])).map (·.pre))[0]? = some true ∧
    ((fuseRows (fuseAt 4 0 9) (.sfloor [])).map (·.pre))[0]? = some true ∧
    ((fuseRows (fuseAt 5 0 0) (.setfk [])).map (·.pre))[0]? = some true ∧
    ((fuseRows (fuseAt 6 0 2) (.policyCmd [])).map (·.pre))[0]? = some true ∧
    ((fuseRows (fuseAt 7 0 0 [fun s => burnBit s (7936 + 511)]) (.encreq [])).map (·.pre))[0]? = some true ∧
    ((fuseRows (fuseAt 8 0 1) (.debugBurn [])).map (·.pre))[0]? = some true ∧
    ((fuseRows (fuseAt 8 0 2) (.debugBurn [])).map (·.pre))[1]? = some true := by
  refine ⟨?_, ?_, ?_, ?_, ?_, ?_, ?_, ?_, ?_⟩
  · exact fuse_witness hv hd hk _ _ 1 false rfl (by decide +kernel) (by decide +kernel)
  · exact fuse_witness hv hd hk _ _ 2 false rfl (by decide +kernel) (by decide +kernel)
  · exact fuse_witness hv hd hk _ _ 3 false rfl (by decide +kernel) (by decide +kernel)
  · exact fuse_witness hv hd hk _ _ 4 false rfl (by decide +kernel) (by decide +kernel)
  · exact fuse_witness hv hd hk _ _ 5 false rfl (by decide +kernel) (by decide +kernel)
  · exact fuse_witness hv hd hk _ _ 6 false rfl (by decide +kernel) (by decide +kernel)
  · exact fuse_witness hv hd hk _ _ 7 false rfl (by decide +kernel) (by decide +kernel)
  · exact fuse_witness hv hd hk _ _ 8 false rfl (by decide +kernel) (by decide +kernel)
  · exact fuse_witness hv hd hk _ _ 8 true rfl (by decide +kernel) (by decide +kernel)

/-- A bit that does not take: row 2 (R579). -/
theorem witness_FusesAndUnlock_weak (hv : ∀ a b c d e, Config.ecdsaVerify a b c d e = true) (hd : devFp = 0)
    (hk : ∀ x, (setfkKey x).isSome = true) :
    ((fuseRows (fuseAt 2 1 0) (.revoke [slotLo 1 + 510])).map (·.pre))[2]? = some true := by
  have h2 : fuseReady (fuseAt 2 1 0) 2 = true := by decide +kernel
  simp only [fuseReady, Bool.and_eq_true, decide_eq_true_eq] at h2
  obtain ⟨⟨⟨⟨⟨⟨⟨a, b⟩, c⟩, d⟩, e⟩, g⟩, j⟩, k⟩ := h2
  rw [fuse_row _ _ 2 [slotLo 1 + 510] _ _ rfl a b rfl, fuse_accepted hv hd c d e (fun _ => hk _) g j]
  simp only [k]
  decide +kernel

/-- The unlock record that answers the current challenge: row 1 of the attempt (R587, R588). -/
def unlockAt : State :=
  [job .unlock, h .identity [] 1, f .secSstat [] F.secSstat_WAIT 0, rg .secDresp [0] 0x4E554244, fun s => burnBit s 11012,
    fun s => burnBit s (slotLo 0 + 511)].foldl (fun s e => e s) up

theorem witness_FusesAndUnlock_unlock (hv : ∀ a b c d e, Config.ecdsaVerify a b c d e = true) (hd : devFp = 0) :
    ((unlockRows unlockAt (.unlockAttempt 1)).map (·.pre))[1]? = some true := by
  have h0 : unlockAt.jobs = [.unlock] := by decide +kernel
  have h1 : (fuseDbg unlockAt = 1 ∧ bytesAt (unlockRecord unlockAt) 0 4 = 0x4E554244 ∧
      allZero (unlockRecord unlockAt) 6 2 = true ∧ allZero (unlockRecord unlockAt) 12 4 = true ∧
      allZero (unlockRecord unlockAt) 112 48 = true ∧ hasIdentity unlockAt = true ∧
      bytesAt (unlockRecord unlockAt) 16 48 = 0 ∧ bytesAt (unlockRecord unlockAt) 64 48 = challengeNow unlockAt ∧
      keyLive unlockAt (bytesAt (unlockRecord unlockAt) 4 1) = true) ∧
      unlockAt.fld .secSstat [] F.secSstat_WAIT = 0 := by decide +kernel
  obtain ⟨⟨a, b, c, d, e, g, j, k, l⟩, m⟩ := h1
  have ok : unlockOk unlockAt = true := by simp [unlockOk, a, b, c, d, e, g, j, k, l, hd, verifySlot, hv]
  simp [unlockRows, h0, m, ok]

/-- A chunk of eight bytes with the hash that its table gives: a code segment, and a configuration segment (R522, R523). -/
def chunkAt (code : Bool) : State :=
  { up with
    board := { up.board with flash := [2 ^ 20] }
    load := { up.load with stage := .full, dir := [{ oneSeg with code := code, offset := 0, plen := 65544 }], chunk := 1 }
    sel := { up.sel with chosen := some 0 } }

theorem chunk_passes (hs : ∀ n x, Config.sha384 n x = 0) (e : Bool) :
    ∃ x, (chunkBytes 0 1 { oneSeg with code := e, offset := 0, plen := 65544 } 0 (chunkAt e)).1 = .inr x := by
  cases e <;> simp only [chunkBytes, chunkPlain, hs] <;> exact ⟨_, rfl⟩

theorem witness_FormeLoading_chunk (hs : ∀ n x, Config.sha384 n x = 0) :
    (∃ r, (loadRows (chunkAt true) .chunkRelease)[0]? = some r ∧ r.pre = true) ∧
    (∃ r, (loadRows (chunkAt false) .chunkRelease)[1]? = some r ∧ r.pre = true) := by
  constructor
  · obtain ⟨x, hx⟩ := chunk_passes hs true
    have hl : (chunkAt true).load.dir[(chunkAt true).load.seg]? =
      some { oneSeg with code := true, offset := 0, plen := 65544 } := rfl
    have hx' : (chunkBytes (chunkAt true).load.seg (chunkAt true).load.chunk
      { oneSeg with code := true, offset := 0, plen := 65544 } (chunkAt true).load.table (chunkAt true)).1 = .inr x := hx
    simp only [loadRows, hl, show ((chunkAt true).load.chunk = 0) = False from by simp [chunkAt], if_false, hx']
    refine ⟨_, rfl, ?_⟩
    dsimp only
    decide +kernel
  · obtain ⟨x, hx⟩ := chunk_passes hs false
    have hl : (chunkAt false).load.dir[(chunkAt false).load.seg]? =
      some { oneSeg with code := false, offset := 0, plen := 65544 } := rfl
    have hx' : (chunkBytes (chunkAt false).load.seg (chunkAt false).load.chunk
      { oneSeg with code := false, offset := 0, plen := 65544 } (chunkAt false).load.table (chunkAt false)).1 = .inr x := hx
    simp only [loadRows, hl, show ((chunkAt false).load.chunk = 0) = False from by simp [chunkAt], if_false, hx']
    refine ⟨_, rfl, ?_⟩
    dsimp only
    decide +kernel

/-! Rows whose conditions read every latch of a galley, or a value that is opaque. -/

/-- The quick pin 6 of galley 0 drives words of 4 bits: its latch opens on an edge of network 0. -/
def quoinUp : State :=
  [f .galleyQuoin [0, 0] F.galleyQuoin_CLOSED 1,
    by_ (frameBase 0 0 (liveOf up 0 0) + 0x7E00 * 256 + 48) 4
      (F.ioQpinCfg_RATIO.put (F.ioQpinCfg_DIR.put 0 1) 4).toNat].foldl (fun s e => e s) up

theorem readN_empty (n : Nat) : ∀ a, State.reset.mem.readN a n = 0 := by
  induction n with
  | zero => intro a; rfl
  | succ n ih =>
    intro a
    have h : State.reset.mem.read a = decodeByte (encodeByte 0 ^^^ 0) := rfl
    have h0 : decodeByte (encodeByte 0 ^^^ 0) = ⟨0, 0⟩ := by decide +kernel
    rw [Mem.readN, ih, h, h0]
    rfl

/-- With no byte of memory set, no latch of a galley has a clock: no seam group is in use and no pin drives. -/
theorem no_latchNet (s : State) (hm : s.mem = State.reset.mem) (d g : Nat) (q : QSig) : latchNet s d g q = none := by
  have hp (k : Nat) : padDir s d g k = 0 := by
    simp only [padDir, qpinCfg, pinCfg, pinImage, hm, readN_empty]
    split <;> rfl
  have hc (c : Cell) : cell s d g c = 0 := by
    simp only [cell, cellIn, planeBit, hm, readN_empty]
    induction cellBits c with
    | nil => rfl
    | cons _ _ ih => rw [List.foldr, ih]; simp
  cases q <;> simp [latchNet, hp, hc]

theorem witness_GalleyChanges_quoins :
    (pres (galleyRows quoinUp (.quoinOpen c0 0 0 0)))[0]? = some true ∧
    (pres (galleyRows (f .galleyQuoin [0, 0] F.galleyQuoin_CLOSED 1 up) (.quoinOpen c0 0 0 0)))[1]? = some true := by
  constructor
  · have h1 : (!quoinHeld quoinUp 0 0 && (galleyClosed quoinUp 0 0 && quoinUp.hv .quoinOpening [0, 0] == 0)) = true := by
      decide +kernel
    have h2 : clockedLatch quoinUp 0 0 = true :=
      List.any_eq_true.mpr ⟨.pad 6, by simp [quoinSigs], by decide +kernel⟩
    simpa [pres, galleyRows, h2] using h1
  · have h1 : (!quoinHeld (f .galleyQuoin [0, 0] F.galleyQuoin_CLOSED 1 up) 0 0 &&
        (galleyClosed (f .galleyQuoin [0, 0] F.galleyQuoin_CLOSED 1 up) 0 0 &&
          (f .galleyQuoin [0, 0] F.galleyQuoin_CLOSED 1 up).hv .quoinOpening [0, 0] == 0)) = true := by
      decide +kernel
    have h2 : clockedLatch (f .galleyQuoin [0, 0] F.galleyQuoin_CLOSED 1 up) 0 0 = false := by
      simp [clockedLatch, no_latchNet (f .galleyQuoin [0, 0] F.galleyQuoin_CLOSED 1 up) rfl]
    simpa [pres, galleyRows, h2] using h1

/-- A logic self-test that ends with its golden signature, and an operand that is not the unit's (R632). -/
theorem witness_SelfTests_logic :
    let s := f .bistStatus [0] F.bistStatus_STATE 1 up
    (pres (bistRows s (.logicSelfTestDone 0 0 (Config.golden (s.hv .bistKind [0])))))[0]? = some true ∧
    (pres (bistRows s (.logicSelfTestDone 0 0 (Config.golden (s.hv .bistKind [0]) + 1))))[1]? = some true := by
  have h1 : (f .bistStatus [0] F.bistStatus_STATE 1 up).fld .bistStatus [0] F.bistStatus_STATE = 1 ∧
      (f .bistStatus [0] F.bistStatus_STATE 1 up).hv .clkWait [] = 0 := by decide +kernel
  refine ⟨by simp [pres, bistRows, h1], ?_⟩
  simp [pres, bistRows, idleRow]

/-- `authload` has read a record with KEYID 7 (R499). -/
theorem witness_TimingUnit_key :
    let v := F.timeAuthload_ADDR.put 0 (sramBase 0 / 64)
    let s := by_ (sramBase 0 + 32) 4 7 { up with time := { up.time with auth := some v } }
    s.time.auth = some v ∧ timeRuns s = true ∧ (authRecord s v).map (fun x => x / 2 ^ 256 % 2 ^ 32) = some 7 := by
  decide +kernel

/-! Words and values that the spec's own examples give, each with its place in the spec. -/

/-- Rolran base instruction set, worked example, step 1. -/
theorem test_addi_word : decodeScalar 0x04A4FFF8 = .addi { rd := 5, ra := 4, imm := 0xFFF8 } := by decide
/-- R94: opcode 0 is format R, function 1 SUB. -/
theorem test_sub_word : decodeScalar 0x00A62001 = .sub { rd := 5, ra := 6, rb := 4, rc := 0 } := by decide +kernel
/-- R146: VNOP is the word 0xC0000000. -/
theorem test_vnop_word : vectorWord (.vnop { vd := 0, va := 0, vb := 0, pg := 0, t := 0 }) = 0xC0000000 := by decide +kernel
/-- Memory integrity, worked example: 0xA5 is stored as 0x03A5, and 0x0385 delivers 0xA5, corrected. -/
theorem test_byte_code : encodeByte 0xA5 = 0x03A5 ∧ decodeByte 0x0385 = ⟨0xA5, 1⟩ := by decide +kernel
/-- R382: the poison word is uncorrectable. -/
theorem test_poison_word : (decodeByte poisonWord).st = 2 := by decide +kernel
/-- Conventions, worked example: `pkg.time.ctl` stands at 0x00B0_0000_0010. -/
theorem test_time_ctl_address : addrOf .timeCtl [] = 0xB000000010 := by decide +kernel
/-- The network, worked example, step 2: the header of the DMA's write. -/
theorem test_header : dstOf State.reset 0 0x9110402000 256 = some 0x5190 ∧
    header false .wr 3 0x5A 0 256 0x0F88 0x5190 0x9110402000 0 0 % 2 ^ 128 = 
      0x0000009110402000 * 2 ^ 64 + 0x51900F88FF05A031 := by decide +kernel
/-- The forme: FRAME with 64 frames at 0x1200 of galley 7 has the head 0x0370_1200_0040_0000. -/
theorem test_frame_head : cfgDecode false 0x0370120000400000 = some (.frame 7 0x1200 64) := by decide +kernel
/-- The forme, worked example, step 5: CODE 10, DETAIL 1, DIE 2, SEG 0x6C5, POS 5 × 65,536. -/
theorem test_ffail : (setFfail 10 1 2 0x6C5 (5 * 65536) false State.reset).reg .guardFfail [] = 0xA186C50000050000 := by
  decide +kernel
/-- R96: a division by zero and the wrapping division. -/
theorem test_division :
    (match exec (.rems (.core 0) r2 noVec) (onCoreAt 7 0 0), exec (.divs (.core 0) r2 noVec)
        (onCoreAt 0x8000000000000000 0xFFFFFFFFFFFFFFFF 0) with
      | .next t, .next v =>
        decide ((t.unit (.core 0)).getG 3 = 7 ∧ (v.unit (.core 0)).getG 3 = 0x8000000000000000)
      | _, _ => false) = true := by decide +kernel
/-- A step takes the command at the front: ADDI with the immediate −8 (R95). -/
theorem test_one_step :
    (match step { onEng 0x40 with pending := [.addi eng0 { rd := 5, ra := 4, imm := 0xFFF8 } noVec] } with
      | .next t => decide ((t.unit eng0).getG 5 = 0xFFFFFFFFFFFFFFFD ∧ t.pending = [])
      | _ => false) = true := by decide +kernel
/-- R85: a write of g0 is discarded, and the pair that writes nothing else moves fetch by 8. -/
theorem test_g0_discards :
    (match exec (.add eng0 { rd := 0, ra := 1, rb := 2, rc := 0 } noVec) (onEng 0x40) with
      | .next t => decide ((t.unit eng0).getG 0 = 0 ∧ (t.unit eng0).pc = 8)
      | _ => false) = true := by decide +kernel
/-- R113: a loop with a count of 2 goes back once. -/
theorem test_loop_goes_back :
    (match exec (.add eng0 r2 noVec) (onEngAt 0x40 3 5 [engE fun x => withLoop x true 0x10 x.pc 2]) with
      | .next t => decide ((t.unit eng0).pc = 0x10 ∧ (t.unit eng0).getSys (LC true) = 1)
      | _ => false) = true := by decide +kernel
/-- R122, R124: SYS with imm12 9 traps with cause 15. -/
theorem test_sys_traps :
    (match exec (.sys eng0 (yY 0 0 9) noVec) (onEng 0x40) with
      | .next t => decide ((t.unit eng0).getSys CAUSE = 15 ∧ (t.unit eng0).getSys TVAL = 9 ∧ (t.unit eng0).st_ fINTRAP = 1)
      | _ => false) = true := by decide +kernel
/-- R140, R148: VADDS saturates 0x7FFF + 1 in a 16-bit element and sets SAT. -/
theorem test_vadds_saturates :
    (match exec (.vadds eng0 vr noSc) (onEngAt 0x40 3 5 [engE fun x => (x.setV 1 0x7FFF).setV 2 1]) with
      | .next t => decide (elem 16 ((t.unit eng0).getV 3) 0 = 0x7FFF ∧ (t.unit eng0).getSys VSTAT = 1)
      | _ => false) = true := by decide +kernel
/-- R143: 1.0 + 1.0 is 2.0 in binary32, with no flag. -/
theorem test_fadd : fadd 24 (fread 24 0x3F800000) (fread 24 0x3F800000) = (0x40000000, 0) := by decide +kernel
/-- R678: event 300 raised by a write of `raise`. -/
theorem test_raise :
    (match exec (.raiseEvent (.engine 0 0 0) 0 (F.eventRaise_NUM.put 0 300)) up with
      | .next t => (t.reg .eventPend [0, 9]).getLsbD 12
      | _ => false) = true := by decide +kernel

/-! Ill-formed commands: one for each check. -/

theorem wf_refuses_word : VInstr.wf (.illegal 0xC0000000) = false ∧ SInstr.wf (.illegal 0x04A4FFF8) = false := by decide +kernel
theorem wf_refuses_partner : Instr.wf (.addi eng0 iI (.illegal 0xC0000000)) = false := by decide +kernel
theorem wf_refuses_access : Instr.wf (.registerWrite c0 0xB000000010 9 0) = false ∧
    Instr.wf (.registerWrite c0 0xB000000010 1 256) = false ∧ Instr.wf (.rcRead c0 (2 ^ 48) 8 false) = false := by
  decide +kernel
theorem wf_refuses_tag : Instr.wf (.rdr c0 1024 0) = false ∧ Instr.wf (.timeout c0 1024) = false := by decide +kernel
theorem wf_refuses_offer :
    Instr.wf (.inject c0 (some ⟨.at_, 0x9010000000, 2, 0, 0, 0, 0⟩) ⟨false, false, 0⟩) = false := by decide +kernel
theorem wf_refuses_frame : Instr.wf (.ethFrameReceive 0 0 0 { len := 64, data := 256 ^ 64, pcp := none, good := true, sec := none, ptp := none } 0) =
    false := by decide +kernel
theorem wf_refuses_board : Instr.wf (.pornRise { fbsel := 0, flash := [], hk33 := true, strap := 0 } false) = false := by decide +kernel
theorem wf_refuses_reply : Instr.wf (.rdReq c0 0 0 (some { data := 256 ^ 256, pmask := 0 })) = false := by decide +kernel
theorem wf_refuses_tlp : Instr.wf (.pcieInboundTlp false .wr none 0 4 (256 ^ 4) 0 0 false 0) = false ∧
    Instr.wf (.pcieInboundTlp false .at_ none 0 3 0 0 0 false 0) = false := by decide +kernel
theorem wf_refuses_evaluation : Instr.wf (.evaluation { freqs := [none, none, none, none, none] }) = false := by
  decide +kernel
theorem wf_refuses_replay : Instr.wf (.residueMismatch 0 0 0 3 false 0 ⟨0, [(iI |> .addi, .illegal 0xC0000000)]⟩) = false := by
  decide +kernel
theorem wf_refuses_checker : Instr.wf (.checkerUnlock 0 0 0 4 5 0) = false := by decide +kernel
theorem wf_accepts : Instr.wf (.addi eng0 iI noVec) = true ∧ Instr.wf (.registerWrite c0 0xB000000010 8 7) = true := by
  decide +kernel

end Sys2Proof.Tests
end

/-! PROOFS. Rolran base instruction set: a pair that `Issues` says takes effect does, two-operand instructions of one format
issue alike, and the corners of division (R96). -/

namespace Sys2Proof.Claims
open Sys2Proof Sys2Proof.Machine

section
variable {s : State} {u : UnitId} {x y : SInstr} {v : VInstr} {r : FmtR} {w q : W64}

/-! The pair that issues. -/

@[simp] theorem scCtx_s : (scCtx s u x).s = s := rfl
@[simp] theorem scCtx_u : (scCtx s u x).u = u := rfl
@[simp] theorem scCtx_x : (scCtx s u x).x = s.unit u := rfl

/-- The command of a scalar row issues its pair with what its slot does. -/
theorem exec_scRow {i : Instr} (h : scRow u v x = some i) :
    exec i s = .next (issueSc u x v (scalarSlot (scCtx s u x) x) s) := by
  cases x <;> cases h <;> rfl

theorem laterSent_of_unsent (z : UnitState) (a : SlotOut) (h : z.sent = []) : z.laterSent a = [] := by
  simp [UnitState.laterSent, h]

/-- A pair that issues, and neither branches nor ends a locked sequence, moves its processor on and has both its effects. -/
theorem issuePair_of_issues (h : Issues s u x v) (hn : (scalarSlot (scCtx s u x) x).next = none)
    (hl : (scalarSlot (scCtx s u x) x).lock ≠ 2) :
    issuePair (scCtx s u x) (scalarSlot (scCtx s u x) x) (otherVec s u v) =
      issued u ((otherVec s u v).eff ((scalarSlot (scCtx s u x) x).eff
        (s.setUnit u (moved s u (scalarSlot (scCtx s u x) x).lock)))) := by
  obtain ⟨hsc, hscWait⟩ := h.scFree
  obtain ⟨hvc, hvcWait⟩ := h.vcFree
  obtain ⟨hstep, -, hdue⟩ := h.free
  have hr : Ready (scCtx s u x) := ⟨h.runs, h.there, h.unsent⟩
  rw [issuePair_commits _ _ _ hr h.fetch (by rw [hsc, hvc, hscWait, hvcWait]; rfl) h.noTrap h.noAsync,
    scCtx_s, scCtx_u, scCtx_x, endTrap_free _ _ _ h.goesOn hstep hdue, h.clean,
    commitPair_next _ _ _ _ hn, stuMayFail_other _ _ _ _ hl, laterSent_of_unsent _ _ h.unsent]
  rfl

/-- A core has no vector slot (R84). -/
theorem otherVec_core_eff (hu : isEng u = false) (t : State) : (otherVec s u v).eff t = t := by
  simp [otherVec, hu]

/-- Only a pair that waits for an event is kept for it. -/
theorem keepWev_of_stall (t : State) (h : (t.unit u).stall ≠ 2) : keepWev u x v s t = t := by
  cases x with
  | wev => simp [keepWev, h]
  | _ => rfl

/-! What a processor that has moved on keeps. -/

/-- A write of a general register changes the register files alone. -/
theorem setG_frame (z : UnitState) (n : Nat) (a : W64) :
    ∃ g gm rf, z.setG n a = { z with g := g, gm := gm, rf := rf } := by
  unfold UnitState.setG UnitState.setGm
  split
  · exact ⟨z.g, z.gm, z.rf, rfl⟩
  · exact ⟨_, _, _, rfl⟩

/-- A core has no hardware loops: fetch goes on at the next instruction (R84). -/
theorem moved_core (lock : Nat) (hu : isEng u = false) :
    moved s u lock = { s.unit u with
      stall := 0, wev := none, mismRun := 0, sent := [], fetched := none, lkSeq := nextSeq (s.unit u).lkSeq lock false,
      pc := (s.unit u).pc + BitVec.ofNat 64 (unitBytes u) } := by
  simp [moved, hu]

/-- A core that has issued a pair and written its result neither halts nor writes a held return. -/
theorem issued_moved_core (h : Issues s u x v) (hu : isEng u = false) (lock n : Nat) :
    issued u (s.setUnit u ((moved s u lock).setG n w)) = s.setUnit u ((moved s u lock).setG n w) := by
  obtain ⟨hstep, hres, hdue⟩ := h.free
  obtain ⟨g, gm, rf, hz⟩ := setG_frame (moved s u lock) n w
  rw [hz, moved_core lock hu]
  apply issued_free <;> rw [State.unit_setUnit_same]
  · exact hstep
  · exact hres
  · exact hdue
  · exact h.noneHeld

theorem stall_moved_core (hu : isEng u = false) (lock n : Nat) : ((moved s u lock).setG n w).stall = 0 := by
  obtain ⟨g, gm, rf, hz⟩ := setG_frame (moved s u lock) n w
  rw [hz, moved_core lock hu]

/-! Two-operand instructions of format R. -/

/-- Whether a two-operand instruction issues depends on its registers, not on the value that it computes. -/
theorem Issues.of_outRR (h : Issues s u x v) (hx : scalarSlot (scCtx s u x) x = outRR (scCtx s u x) r w)
    (hy : scalarSlot (scCtx s u y) y = outRR (scCtx s u y) r q) : Issues s u y v := by
  obtain ⟨runs, there, unsent, fetch, clean, scFree, vcFree, noTrap, noAsync, free, noneHeld, goesOn⟩ := h
  rw [hx] at clean scFree noTrap
  exact ⟨runs, there, unsent, fetch, hy ▸ clean, hy ▸ scFree, vcFree, hy ▸ noTrap, noAsync, free, noneHeld, goesOn⟩

/-- A two-operand instruction of a core that issues writes its value and moves on. -/
theorem exec_outRR_core {i : Instr} (hu : isEng u = false) (hi : scRow u v x = some i) (h : Issues s u x v)
    (hx : scalarSlot (scCtx s u x) x = outRR (scCtx s u x) r w) :
    exec i s = .next (s.setUnit u ((moved s u 0).setG r.rd.toNat w)) := by
  have hp := issuePair_of_issues h (by simp [hx, outRR, outG]) (by simp [hx, outRR, outG])
  rw [hx, otherVec_core_eff hu] at hp
  have he : (outRR (scCtx s u x) r w).eff (s.setUnit u (moved s u (outRR (scCtx s u x) r w).lock)) =
      s.setUnit u ((moved s u 0).setG r.rd.toNat w) :=
    onUnit_setUnit u (·.setG r.rd.toNat w) s (moved s u 0)
  rw [he, issued_moved_core h hu] at hp
  rw [exec_scRow hi, hx, issueSc, hp, keepWev_of_stall]
  rw [State.unit_setUnit_same, stall_moved_core hu]
  decide

/-! Division (R96). -/

/-- An instruction of Rolran-C alone is legal on a core (R84). -/
theorem onCore_core (k : Ctx) (o : SlotOut) (hu : isEng k.u = false) : onCore k o = o := by
  simp [onCore, hu]

/-- A division writes the value of its operation `f` wherever a MUL of the same registers issues. -/
theorem exec_division {i : Instr} (f : W64 → W64 → W64) (hu : isEng u = false) (hi : scRow u v x = some i)
    (h : Issues s u (.mul r) v)
    (hx : ∀ k, scalarSlot k x = onCore k (outRR k r (f (k.g r.ra) (k.g r.rb)))) :
    exec i s = .next (s.setUnit u ((moved s u 0).setG r.rd.toNat
      (f ((s.unit u).getG r.ra.toNat) ((s.unit u).getG r.rb.toNat)))) :=
  have hc := (hx (scCtx s u x)).trans (onCore_core _ _ hu)
  exec_outRR_core hu hi (h.of_outRR rfl hc) hc

theorem divs_zero (a : W64) : divs a 0 = BitVec.allOnes 64 := if_pos rfl
theorem divu_zero (a : W64) : divu a 0 = BitVec.allOnes 64 := if_pos rfl
theorem rems_zero (a : W64) : rems a 0 = a := if_pos rfl
theorem remu_zero (a : W64) : remu a 0 = a := if_pos rfl

/-- The quotient 2^63 wraps to −2^63. -/
theorem divs_overflow : divs (BitVec.ofInt 64 (-2 ^ 63)) (BitVec.ofInt 64 (-1)) = BitVec.ofInt 64 (-2 ^ 63) := by decide
/-- The remainder is 0 although its quotient does not fit. -/
theorem rems_overflow : rems (BitVec.ofInt 64 (-2 ^ 63)) (BitVec.ofInt 64 (-1)) = 0 := by decide

end

/-- Settles O59: a division issues wherever the MUL of its registers does, and its value at each corner is the rule's. -/
theorem divisionCorners : Obligations.DivisionCorners := by
  intro s u r x i hu hi h
  have hdivs (e : x = .divs r) := exec_division divs hu hi h fun _ => e ▸ rfl
  have hdivu (e : x = .divu r) := exec_division divu hu hi h fun _ => e ▸ rfl
  have hrems (e : x = .rems r) := exec_division rems hu hi h fun _ => e ▸ rfl
  have hremu (e : x = .remu r) := exec_division remu hu hi h fun _ => e ▸ rfl
  refine ⟨fun hb => ⟨?_, ?_⟩, fun ha hb => ⟨fun e => ?_, fun e => ?_⟩⟩
  · rintro (e | e)
    · rw [hdivs e, hb, divs_zero]
    · rw [hdivu e, hb, divu_zero]
  · rintro (e | e)
    · rw [hrems e, hb, rems_zero]
    · rw [hremu e, hb, remu_zero]
  · rw [hdivs e, ha, hb, divs_overflow]
  · rw [hrems e, ha, hb, rems_overflow]

end Sys2Proof.Claims

/-! PROOFS. The event router: what raising an event does to the pending bits and to the TAKEN mark of its route (R675, R677),
and the software events that a write of `raise` raises (R678). -/

namespace Sys2Proof.Claims
open Sys2Proof Sys2Proof.Machine

section
variable (s : State) (d n : Nat)

/-! Raising an event. -/

theorem pending_raiseEvent : Pending (s.raiseEvent d n) d n := by
  have h : n % 32 < 64 := by omega
  rw [Pending, State.reg_raiseEvent, if_neg (by simp), if_pos rfl, BitVec.getLsbD_or, BitVec.getLsbD_ofNat,
    Nat.testBit_two_pow_self]
  simp [h]

theorem bit_taken_raiseEvent : (s.raiseEvent d n).bit .eventRoute [d, n] F.eventRoute_TAKEN = false := by
  have h : F.eventRoute_TAKEN.get (F.eventRoute_TAKEN.put (s.reg .eventRoute [d, n]) 0) = 0 :=
    Fld.get_put _ _ _ (by decide)
  simp [State.bit, State.fld, State.reg_raiseEvent, h]

/-- Raising an event leaves the pending bit of every other event of the package. -/
theorem getLsbD_pend_raiseEvent_of_ne {e k j : Nat} (h : 512 * e + 32 * k + j ≠ 512 * d + n) :
    ((s.raiseEvent d n).reg .eventPend [e, k]).getLsbD j = (s.reg .eventPend [e, k]).getLsbD j := by
  rw [State.reg_raiseEvent, if_neg (by simp)]
  split
  next hkey =>
    obtain ⟨rfl, rfl⟩ : d = e ∧ n / 32 = k := by simpa using hkey
    have hj : n % 32 ≠ j := by omega
    rw [BitVec.getLsbD_or, BitVec.getLsbD_ofNat, Nat.testBit_two_pow_of_ne hj, Bool.and_false, Bool.or_false]
  next => rfl

/-! A write of `raise`. -/

/-- The NUM that a write stores in `raise` is no pending bit. -/
theorem reg_pend_setFld_raise (e k : Nat) :
    (s.setFld .eventRaise [d] F.eventRaise_NUM n).reg .eventPend [e, k] = s.reg .eventPend [e, k] :=
  s.reg_setFld_ne _ _ _ _ _ _ (by simp)

/-- A write of GO stores NUM, and raises the event of that number where it is a software event (R678). -/
theorem raiseWrite_go (v : W64) (h : n = F.eventRaise_NUM.get v) :
    raiseWrite d (withBit F.eventRaise_GO v) s =
      (OK, if 256 ≤ n ∧ n ≤ 447 then (s.setFld .eventRaise [d] F.eventRaise_NUM n).raiseEvent d n
        else s.setFld .eventRaise [d] F.eventRaise_NUM n) := by
  have hnum : F.eventRaise_NUM.get (withBit F.eventRaise_GO v) = n :=
    h ▸ get_withBit_other F.eventRaise_GO F.eventRaise_NUM v rfl (by decide) (by decide)
  have hgo : F.eventRaise_GO.get (withBit F.eventRaise_GO v) = 1 := get_withBit F.eventRaise_GO v rfl (by decide)
  simp [raiseWrite, hnum, hgo]

end

/-- Any initiator may write `raise` on any die (R678). -/
theorem mayWrite_raise (w : Who) (ix : List Nat) : mayWrite w .eventRaise ix = true := rfl

/-- Nothing bars a write of `raise` while its domain is neither Off nor held in reset. -/
theorem writeGate_raise (w : Who) (ix : List Nat) (s : State) (hoff : unitOff s (addrOf .eventRaise ix) = false)
    (hheld : heldReset s (addrOf .eventRaise ix) = false) : writeGate w .eventRaise ix s = none := by
  simp [writeGate, mayWrite_raise, hoff, hheld]

/-- Settles O60: nothing bars the write, and it raises the event of its NUM or stores NUM alone. -/
theorem softwareEvents : Obligations.SoftwareEvents := by
  intro s w d v n hn
  refine ⟨mayWrite_raise w [d], fun hoff hheld => ?_⟩
  rw [exec_raiseEvent, execRaiseEvent, regCommand_open _ _ _ _ _ (writeGate_raise w [d] s hoff hheld),
    raiseWrite_go s d n v hn]
  refine ⟨_, rfl, rfl, ?_⟩
  by_cases hsoft : 256 ≤ n ∧ n ≤ 447
  case pos =>
    simp only [if_pos hsoft]
    refine ⟨fun _ => ⟨pending_raiseEvent _ d n, bit_taken_raiseEvent _ d n⟩, fun h => absurd hsoft h, ?_⟩
    intro e k j hother _ _
    rw [State.answerWith_reg, getLsbD_pend_raiseEvent_of_ne _ d n hother, reg_pend_setFld_raise]
  case neg =>
    simp only [if_neg hsoft]
    have hkept := reg_pend_setFld_raise s d n
    exact ⟨fun h => absurd h hsoft, fun _ => hkept, fun e k j _ _ _ => congrArg (·.getLsbD j) (hkept e k)⟩

end Sys2Proof.Claims
